-- ==== Sys2Proof/Word.lean ====
section
/-!
DEFINITION. Sys2Proof/Word.lean: the machine's data sizes (20_memory R140: a halfword is 2 bytes, a word 4,
a doubleword 8) and the 5-bit register numbers (30_encoding R252).
-/

namespace Sys2Proof

/-- A byte of 8 bits (20_memory R140). -/
abbrev Byte := BitVec 8

/-- A halfword of 2 bytes (20_memory R140). -/
abbrev Half := BitVec 16

/-- A word of 4 bytes (20_memory R140): an instruction, a physical address, an FGR. -/
abbrev Word := BitVec 32

/-- A doubleword of 8 bytes (20_memory R140): a general register, the PC. -/
abbrev DWord := BitVec 64

/-- A register number, the 5-bit fields rs, rt, rd, ft, fs, fd (30_encoding R252). -/
abbrev Reg := BitVec 5

end Sys2Proof
end

