-- ==== Sys2Proof/Config.lean ====
section
/-!
DEFINITION. Sys2Proof/Config.lean: what spec/ leaves to the implementation (92_eei_decisions D39) and the free
values of every "any value" of 93_implementation_defined. None has a body, so no proof can know what it is.
-/

namespace Sys2Proof.Config

/-- PRID_REV, bits 7:0 of PRId (11_cp0_registers R104; D39; log 52). -/
opaque pridRev : BitVec 8

/-- FCR0_REV, bits 7:0 of FCR0 (48_fpu_state_and_rules R553; D39; log 52). -/
opaque fcr0Rev : BitVec 8

/-- The `n`-th free value of a run, `w` bits wide: the treatment "any value" of 93_implementation_defined.
Nothing constrains it (log 9). -/
opaque freeBits (w n : Nat) : BitVec w

end Sys2Proof.Config
end

