-- ==== Sys2Proof/Syntax.lean ====
section
/-!
DEFINITION. Sys2Proof/Syntax.lean: the instructions of the R4640/R4650, one constructor per row of
spec/opcode_table.json. Operands stand in the order of their fields in the word, high bits first
(30_encoding R251, R252); zero fields are no operands (R253).
-/

namespace Sys2Proof

/-- An instruction, with the operands its word carries. The docstring of a constructor gives the row's
mnemonic and the rule of spec/ that defines it. -/
inductive Instr where
  /-- LB: R303. -/
  | lb (base : Reg) (rt : Reg) (offset : BitVec 16)
  /-- LH: R305. -/
  | lh (base : Reg) (rt : Reg) (offset : BitVec 16)
  /-- LWL: R310. -/
  | lwl (base : Reg) (rt : Reg) (offset : BitVec 16)
  /-- LW: R307. -/
  | lw (base : Reg) (rt : Reg) (offset : BitVec 16)
  /-- LBU: R304. -/
  | lbu (base : Reg) (rt : Reg) (offset : BitVec 16)
  /-- LHU: R306. -/
  | lhu (base : Reg) (rt : Reg) (offset : BitVec 16)
  /-- LWR: R311. -/
  | lwr (base : Reg) (rt : Reg) (offset : BitVec 16)
  /-- LWU: R308. -/
  | lwu (base : Reg) (rt : Reg) (offset : BitVec 16)
  /-- SB: R315. -/
  | sb (base : Reg) (rt : Reg) (offset : BitVec 16)
  /-- SH: R316. -/
  | sh (base : Reg) (rt : Reg) (offset : BitVec 16)
  /-- SWL: R319. -/
  | swl (base : Reg) (rt : Reg) (offset : BitVec 16)
  /-- SW: R317. -/
  | sw (base : Reg) (rt : Reg) (offset : BitVec 16)
  /-- SDL: R322. -/
  | sdl (base : Reg) (rt : Reg) (offset : BitVec 16)
  /-- SDR: R323. -/
  | sdr (base : Reg) (rt : Reg) (offset : BitVec 16)
  /-- SWR: R321. -/
  | swr (base : Reg) (rt : Reg) (offset : BitVec 16)
  /-- LL: R327. -/
  | ll (base : Reg) (rt : Reg) (offset : BitVec 16)
  /-- LLD: R328. -/
  | lld (base : Reg) (rt : Reg) (offset : BitVec 16)
  /-- LD: R309. -/
  | ld (base : Reg) (rt : Reg) (offset : BitVec 16)
  /-- LDL: R313. -/
  | ldl (base : Reg) (rt : Reg) (offset : BitVec 16)
  /-- LDR: R314. -/
  | ldr (base : Reg) (rt : Reg) (offset : BitVec 16)
  /-- SC: R329. -/
  | sc (base : Reg) (rt : Reg) (offset : BitVec 16)
  /-- SCD: R331. -/
  | scd (base : Reg) (rt : Reg) (offset : BitVec 16)
  /-- SD: R318. -/
  | sd (base : Reg) (rt : Reg) (offset : BitVec 16)
  /-- CACHE: R234. -/
  | cache (base : Reg) (op : BitVec 5) (offset : BitVec 16)
  /-- LWC1: R640. -/
  | lwc1 (base : Reg) (ft : Reg) (offset : BitVec 16)
  /-- LDC1: R642. -/
  | ldc1 (base : Reg) (ft : Reg) (offset : BitVec 16)
  /-- SWC1: R641. -/
  | swc1 (base : Reg) (ft : Reg) (offset : BitVec 16)
  /-- SDC1: R643. -/
  | sdc1 (base : Reg) (ft : Reg) (offset : BitVec 16)
  /-- LWC2: R513. -/
  | lwc2 (base : Reg) (rt : Reg) (offset : BitVec 16)
  /-- LDC2: R513. -/
  | ldc2 (base : Reg) (rt : Reg) (offset : BitVec 16)
  /-- SWC2: R513. -/
  | swc2 (base : Reg) (rt : Reg) (offset : BitVec 16)
  /-- SDC2: R513. -/
  | sdc2 (base : Reg) (rt : Reg) (offset : BitVec 16)
  /-- ADDI: R351. -/
  | addi (rs : Reg) (rt : Reg) (imm : BitVec 16)
  /-- ADDIU: R352. -/
  | addiu (rs : Reg) (rt : Reg) (imm : BitVec 16)
  /-- SLTI: R353. -/
  | slti (rs : Reg) (rt : Reg) (imm : BitVec 16)
  /-- SLTIU: R354. -/
  | sltiu (rs : Reg) (rt : Reg) (imm : BitVec 16)
  /-- ANDI: R355. -/
  | andi (rs : Reg) (rt : Reg) (imm : BitVec 16)
  /-- ORI: R356. -/
  | ori (rs : Reg) (rt : Reg) (imm : BitVec 16)
  /-- XORI: R357. -/
  | xori (rs : Reg) (rt : Reg) (imm : BitVec 16)
  /-- DADDI: R359. -/
  | daddi (rs : Reg) (rt : Reg) (imm : BitVec 16)
  /-- DADDIU: R360. -/
  | daddiu (rs : Reg) (rt : Reg) (imm : BitVec 16)
  /-- LUI: R358. -/
  | lui (rt : Reg) (imm : BitVec 16)
  /-- ADD: R371. -/
  | add (rs : Reg) (rt : Reg) (rd : Reg)
  /-- ADDU: R372. -/
  | addu (rs : Reg) (rt : Reg) (rd : Reg)
  /-- SUB: R373. -/
  | sub (rs : Reg) (rt : Reg) (rd : Reg)
  /-- SUBU: R374. -/
  | subu (rs : Reg) (rt : Reg) (rd : Reg)
  /-- AND: R375. -/
  | and (rs : Reg) (rt : Reg) (rd : Reg)
  /-- OR: R376. -/
  | or (rs : Reg) (rt : Reg) (rd : Reg)
  /-- XOR: R377. -/
  | xor (rs : Reg) (rt : Reg) (rd : Reg)
  /-- NOR: R378. -/
  | nor (rs : Reg) (rt : Reg) (rd : Reg)
  /-- SLT: R379. -/
  | slt (rs : Reg) (rt : Reg) (rd : Reg)
  /-- SLTU: R380. -/
  | sltu (rs : Reg) (rt : Reg) (rd : Reg)
  /-- DADD: R381. -/
  | dadd (rs : Reg) (rt : Reg) (rd : Reg)
  /-- DADDU: R382. -/
  | daddu (rs : Reg) (rt : Reg) (rd : Reg)
  /-- DSUB: R383. -/
  | dsub (rs : Reg) (rt : Reg) (rd : Reg)
  /-- DSUBU: R384. -/
  | dsubu (rs : Reg) (rt : Reg) (rd : Reg)
  /-- SLLV: R395. -/
  | sllv (rs : Reg) (rt : Reg) (rd : Reg)
  /-- SRLV: R396. -/
  | srlv (rs : Reg) (rt : Reg) (rd : Reg)
  /-- SRAV: R397. -/
  | srav (rs : Reg) (rt : Reg) (rd : Reg)
  /-- DSLLV: R401. -/
  | dsllv (rs : Reg) (rt : Reg) (rd : Reg)
  /-- DSRLV: R402. -/
  | dsrlv (rs : Reg) (rt : Reg) (rd : Reg)
  /-- DSRAV: R403. -/
  | dsrav (rs : Reg) (rt : Reg) (rd : Reg)
  /-- SLL: R392. -/
  | sll (rt : Reg) (rd : Reg) (sa : BitVec 5)
  /-- SRL: R393. -/
  | srl (rt : Reg) (rd : Reg) (sa : BitVec 5)
  /-- SRA: R394. -/
  | sra (rt : Reg) (rd : Reg) (sa : BitVec 5)
  /-- DSLL: R398. -/
  | dsll (rt : Reg) (rd : Reg) (sa : BitVec 5)
  /-- DSRL: R399. -/
  | dsrl (rt : Reg) (rd : Reg) (sa : BitVec 5)
  /-- DSRA: R400. -/
  | dsra (rt : Reg) (rd : Reg) (sa : BitVec 5)
  /-- DSLL32: R404. -/
  | dsll32 (rt : Reg) (rd : Reg) (sa : BitVec 5)
  /-- DSRL32: R405. -/
  | dsrl32 (rt : Reg) (rd : Reg) (sa : BitVec 5)
  /-- DSRA32: R406. -/
  | dsra32 (rt : Reg) (rd : Reg) (sa : BitVec 5)
  /-- MULT: R413. -/
  | mult (rs : Reg) (rt : Reg)
  /-- MULTU: R414. -/
  | multu (rs : Reg) (rt : Reg)
  /-- DIV: R415. -/
  | div (rs : Reg) (rt : Reg)
  /-- DIVU: R416. -/
  | divu (rs : Reg) (rt : Reg)
  /-- DMULT: R417. -/
  | dmult (rs : Reg) (rt : Reg)
  /-- DMULTU: R418. -/
  | dmultu (rs : Reg) (rt : Reg)
  /-- DDIV: R419. -/
  | ddiv (rs : Reg) (rt : Reg)
  /-- DDIVU: R420. -/
  | ddivu (rs : Reg) (rt : Reg)
  /-- MFHI: R424. -/
  | mfhi (rd : Reg)
  /-- MTHI: R426. -/
  | mthi (rs : Reg)
  /-- MFLO: R425. -/
  | mflo (rd : Reg)
  /-- MTLO: R427. -/
  | mtlo (rs : Reg)
  /-- JR: R452. -/
  | jr (rs : Reg)
  /-- JALR: R453. -/
  | jalr (rs : Reg) (rd : Reg)
  /-- SYSCALL: R481. -/
  | syscall (code : BitVec 20)
  /-- BREAK: R482. -/
  | break_ (code : BitVec 20)
  /-- SYNC: R490. -/
  | sync
  /-- TGE: R484. -/
  | tge (rs : Reg) (rt : Reg) (code : BitVec 10)
  /-- TGEU: R485. -/
  | tgeu (rs : Reg) (rt : Reg) (code : BitVec 10)
  /-- TLT: R486. -/
  | tlt (rs : Reg) (rt : Reg) (code : BitVec 10)
  /-- TLTU: R487. -/
  | tltu (rs : Reg) (rt : Reg) (code : BitVec 10)
  /-- TEQ: R488. -/
  | teq (rs : Reg) (rt : Reg) (code : BitVec 10)
  /-- TNE: R489. -/
  | tne (rs : Reg) (rt : Reg) (code : BitVec 10)
  /-- MAD: R421. -/
  | mad (rs : Reg) (rt : Reg)
  /-- MADU: R422. -/
  | madu (rs : Reg) (rt : Reg)
  /-- MUL: R423. -/
  | mul (rs : Reg) (rt : Reg) (rd : Reg)
  /-- J: R450. -/
  | j (target : BitVec 26)
  /-- JAL: R451. -/
  | jal (target : BitVec 26)
  /-- BEQ: R454. -/
  | beq (rs : Reg) (rt : Reg) (offset : BitVec 16)
  /-- BNE: R455. -/
  | bne (rs : Reg) (rt : Reg) (offset : BitVec 16)
  /-- BEQL: R462. -/
  | beql (rs : Reg) (rt : Reg) (offset : BitVec 16)
  /-- BNEL: R463. -/
  | bnel (rs : Reg) (rt : Reg) (offset : BitVec 16)
  /-- BLEZ: R456. -/
  | blez (rs : Reg) (offset : BitVec 16)
  /-- BGTZ: R457. -/
  | bgtz (rs : Reg) (offset : BitVec 16)
  /-- BLEZL: R464. -/
  | blezl (rs : Reg) (offset : BitVec 16)
  /-- BGTZL: R465. -/
  | bgtzl (rs : Reg) (offset : BitVec 16)
  /-- BLTZ: R458. -/
  | bltz (rs : Reg) (offset : BitVec 16)
  /-- BGEZ: R459. -/
  | bgez (rs : Reg) (offset : BitVec 16)
  /-- BLTZL: R466. -/
  | bltzl (rs : Reg) (offset : BitVec 16)
  /-- BGEZL: R467. -/
  | bgezl (rs : Reg) (offset : BitVec 16)
  /-- BLTZAL: R460. -/
  | bltzal (rs : Reg) (offset : BitVec 16)
  /-- BGEZAL: R461. -/
  | bgezal (rs : Reg) (offset : BitVec 16)
  /-- BLTZALL: R468. -/
  | bltzall (rs : Reg) (offset : BitVec 16)
  /-- BGEZALL: R469. -/
  | bgezall (rs : Reg) (offset : BitVec 16)
  /-- TGEI: R492. -/
  | tgei (rs : Reg) (imm : BitVec 16)
  /-- TGEIU: R493. -/
  | tgeiu (rs : Reg) (imm : BitVec 16)
  /-- TLTI: R494. -/
  | tlti (rs : Reg) (imm : BitVec 16)
  /-- TLTIU: R495. -/
  | tltiu (rs : Reg) (imm : BitVec 16)
  /-- TEQI: R496. -/
  | teqi (rs : Reg) (imm : BitVec 16)
  /-- TNEI: R497. -/
  | tnei (rs : Reg) (imm : BitVec 16)
  /-- BC1F: R471. -/
  | bc1f (offset : BitVec 16)
  /-- BC1T: R472. -/
  | bc1t (offset : BitVec 16)
  /-- BC1FL: R473. -/
  | bc1fl (offset : BitVec 16)
  /-- BC1TL: R474. -/
  | bc1tl (offset : BitVec 16)
  /-- MFC0: R515. -/
  | mfc0 (rt : Reg) (rd : Reg)
  /-- DMFC0: R517. -/
  | dmfc0 (rt : Reg) (rd : Reg)
  /-- MTC0: R516. -/
  | mtc0 (rt : Reg) (rd : Reg)
  /-- DMTC0: R518. -/
  | dmtc0 (rt : Reg) (rd : Reg)
  /-- ERET: R500. -/
  | eret
  /-- WAIT: R505. -/
  | wait
  /-- TLBR: R530. -/
  | tlbr
  /-- TLBWI: R530. -/
  | tlbwi
  /-- TLBWR: R530. -/
  | tlbwr
  /-- TLBP: R530. -/
  | tlbp
  /-- ADD.S: R601. -/
  | addS (ft : Reg) (fs : Reg) (fd : Reg)
  /-- SUB.S: R602. -/
  | subS (ft : Reg) (fs : Reg) (fd : Reg)
  /-- MUL.S: R603. -/
  | mulS (ft : Reg) (fs : Reg) (fd : Reg)
  /-- DIV.S: R604. -/
  | divS (ft : Reg) (fs : Reg) (fd : Reg)
  /-- SQRT.S: R605. -/
  | sqrtS (fs : Reg) (fd : Reg)
  /-- ABS.S: R606. -/
  | absS (fs : Reg) (fd : Reg)
  /-- MOV.S: R607. -/
  | movS (fs : Reg) (fd : Reg)
  /-- NEG.S: R608. -/
  | negS (fs : Reg) (fd : Reg)
  /-- ROUND.W.S: R611. -/
  | roundWS (fs : Reg) (fd : Reg)
  /-- TRUNC.W.S: R612. -/
  | truncWS (fs : Reg) (fd : Reg)
  /-- CEIL.W.S: R613. -/
  | ceilWS (fs : Reg) (fd : Reg)
  /-- FLOOR.W.S: R614. -/
  | floorWS (fs : Reg) (fd : Reg)
  /-- CVT.W.S: R615. -/
  | cvtWS (fs : Reg) (fd : Reg)
  /-- CVT.S.W: R616. -/
  | cvtSW (fs : Reg) (fd : Reg)
  /-- ROUND.L.S: R617. -/
  | roundLS (fs : Reg) (fd : Reg)
  /-- TRUNC.L.S: R618. -/
  | truncLS (fs : Reg) (fd : Reg)
  /-- CEIL.L.S: R619. -/
  | ceilLS (fs : Reg) (fd : Reg)
  /-- FLOOR.L.S: R620. -/
  | floorLS (fs : Reg) (fd : Reg)
  /-- CVT.D.S: R622. -/
  | cvtDS (fs : Reg) (fd : Reg)
  /-- CVT.L.S: R621. -/
  | cvtLS (fs : Reg) (fd : Reg)
  /-- C.F.S: R626. -/
  | cFS (ft : Reg) (fs : Reg)
  /-- C.UN.S: R626. -/
  | cUnS (ft : Reg) (fs : Reg)
  /-- C.EQ.S: R626. -/
  | cEqS (ft : Reg) (fs : Reg)
  /-- C.UEQ.S: R626. -/
  | cUeqS (ft : Reg) (fs : Reg)
  /-- C.OLT.S: R626. -/
  | cOltS (ft : Reg) (fs : Reg)
  /-- C.ULT.S: R626. -/
  | cUltS (ft : Reg) (fs : Reg)
  /-- C.OLE.S: R626. -/
  | cOleS (ft : Reg) (fs : Reg)
  /-- C.ULE.S: R626. -/
  | cUleS (ft : Reg) (fs : Reg)
  /-- C.SF.S: R626. -/
  | cSfS (ft : Reg) (fs : Reg)
  /-- C.NGLE.S: R626. -/
  | cNgleS (ft : Reg) (fs : Reg)
  /-- C.SEQ.S: R626. -/
  | cSeqS (ft : Reg) (fs : Reg)
  /-- C.NGL.S: R626. -/
  | cNglS (ft : Reg) (fs : Reg)
  /-- C.LT.S: R626. -/
  | cLtS (ft : Reg) (fs : Reg)
  /-- C.NGE.S: R626. -/
  | cNgeS (ft : Reg) (fs : Reg)
  /-- C.LE.S: R626. -/
  | cLeS (ft : Reg) (fs : Reg)
  /-- C.NGT.S: R626. -/
  | cNgtS (ft : Reg) (fs : Reg)
  /-- MFC1: R630. -/
  | mfc1 (rt : Reg) (fs : Reg)
  /-- DMFC1: R632. -/
  | dmfc1 (rt : Reg) (fs : Reg)
  /-- CFC1: R634. -/
  | cfc1 (rt : Reg) (fs : Reg)
  /-- MTC1: R631. -/
  | mtc1 (rt : Reg) (fs : Reg)
  /-- DMTC1: R633. -/
  | dmtc1 (rt : Reg) (fs : Reg)
  /-- CTC1: R635. -/
  | ctc1 (rt : Reg) (fs : Reg)
  /-- COP1__any_other_R-type_word: R575. -/
  | cop1Other (fmtLow : BitVec 4) (ft : Reg) (fs : Reg) (fd : Reg) (fn : BitVec 6)
  /-- COP2__any_word: R513. -/
  | cop2 (cofun : BitVec 26)
  /-- COP3__any_word: R513. -/
  | cop3 (cofun : BitVec 26)
deriving DecidableEq, Repr

end Sys2Proof
end

