-- ==== Sys2Proof/WellFormed.lean ====
section
/-!
DEFINITION. Sys2Proof/WellFormed.lean: which terms of Instr stand for a word. Every operand is exactly as wide as
its field, so the one check left is the catch-all row of opcode_table.json: it stands only for the COP1 R-type
words that no earlier row matches (30_encoding, opening; R264).
-/

namespace Sys2Proof

/-- Does an earlier row of the opcode table match the COP1 R-type word whose format is `fmt` = 16 + `fmtLow` and
whose function is `fn` (30_encoding R264)? Format 16 (S) has the functions 0 to 15, 33, 36, 37 and 48 to 63, format
20 (W) the function 32. -/
def cop1Assigned (fmtLow : BitVec 4) (fn : BitVec 6) : Bool :=
  (fmtLow == 0 && (fn.toNat < 16 || fn == 33 || fn == 36 || fn == 37 || 48 ≤ fn.toNat)) ||
  (fmtLow == 4 && fn == 32)

/-- A term of Instr that stands for a word of its own row. -/
def Instr.WellFormed : Instr → Bool
  | .cop1Other fmtLow _ _ _ fn => !cop1Assigned fmtLow fn
  | _ => true

end Sys2Proof
end

