-- ==== Sys2Proof/Decode.lean ====
section
/-!
DEFINITION. Sys2Proof/Decode.lean: from the 32 bits of a word to an instruction (30_encoding R250 to R276), and the
encoder written from the same tables. Zero fields are not decoded (R253, D18) and are encoded as zeros.
-/

namespace Sys2Proof

/-! ## Fields of a word (30_encoding R251, R252) -/

/-- Bits 31:26, the operation code. -/
def opOf (w : Word) : BitVec 6 := w.extractLsb' 26 6
/-- Bits 25:21: rs, base, fmt. -/
def rsOf (w : Word) : Reg := w.extractLsb' 21 5
/-- Bits 20:16: rt, ft, the CACHE operation. -/
def rtOf (w : Word) : Reg := w.extractLsb' 16 5
/-- Bits 15:11: rd, fs. -/
def rdOf (w : Word) : Reg := w.extractLsb' 11 5
/-- Bits 10:6: sa, fd. -/
def saOf (w : Word) : BitVec 5 := w.extractLsb' 6 5
/-- Bits 5:0: the function field. -/
def fnOf (w : Word) : BitVec 6 := w.extractLsb' 0 6
/-- Bits 15:0: immediate, offset. -/
def immOf (w : Word) : BitVec 16 := w.extractLsb' 0 16
/-- Bits 25:0: the jump target, the coprocessor function field of COP2 and COP3 words. -/
def targetOf (w : Word) : BitVec 26 := w.extractLsb' 0 26
/-- Bits 25:6: the code field of SYSCALL and BREAK. -/
def code20Of (w : Word) : BitVec 20 := w.extractLsb' 6 20
/-- Bits 15:6: the code field of the register traps. -/
def code10Of (w : Word) : BitVec 10 := w.extractLsb' 6 10
/-- Bits 24:21: the low bits of fmt in a COP1 R-type word. -/
def fmtLowOf (w : Word) : BitVec 4 := w.extractLsb' 21 4

/-! ## Words from fields -/

/-- An I-type word (R251). -/
def iType (op : BitVec 6) (rs rt : BitVec 5) (imm : BitVec 16) : Word := op ++ rs ++ rt ++ imm
/-- A J-type word (R251). -/
def jType (op : BitVec 6) (target : BitVec 26) : Word := op ++ target
/-- An R-type word (R251). -/
def rType (op : BitVec 6) (rs rt rd sa : BitVec 5) (fn : BitVec 6) : Word := op ++ rs ++ rt ++ rd ++ sa ++ fn
/-- A SPECIAL word with a 20-bit code (R252). -/
def code20Type (code : BitVec 20) (fn : BitVec 6) : Word := 0#6 ++ code ++ fn
/-- A SPECIAL word of a register trap (R252). -/
def code10Type (rs rt : BitVec 5) (code : BitVec 10) (fn : BitVec 6) : Word := 0#6 ++ rs ++ rt ++ code ++ fn
/-- A COP1 R-type word: bit 25 is 1 (R264). -/
def cop1Type (fmtLow : BitVec 4) (ft fs fd : BitVec 5) (fn : BitVec 6) : Word :=
  0x11#6 ++ 1#1 ++ fmtLow ++ ft ++ fs ++ fd ++ fn

/-! ## The decoder -/

/-- Why a word is no instruction of the table. -/
inductive DecodeError where
  /-- A `*` cell: Reserved Instruction (R275). -/
  | reservedInstruction
  /-- A reserved cell of the COP0 group: Coprocessor Unusable, or no meaning (R276, U13). -/
  | reservedCop0
  /-- A reserved cell of the COP1 group with bit 25 = 0: Coprocessor Unusable, or the FPU's Unimplemented
  Operation (R276, 48_fpu_state_and_rules R576). -/
  | reservedCop1
deriving DecidableEq, Repr

/-- The SPECIAL group, by bits 5:0 (R256). -/
def decodeSpecial (w : Word) : Except DecodeError Instr :=
  match (fnOf w).toNat with
  | 0 => .ok (.sll (rtOf w) (rdOf w) (saOf w))
  | 2 => .ok (.srl (rtOf w) (rdOf w) (saOf w))
  | 3 => .ok (.sra (rtOf w) (rdOf w) (saOf w))
  | 4 => .ok (.sllv (rsOf w) (rtOf w) (rdOf w))
  | 6 => .ok (.srlv (rsOf w) (rtOf w) (rdOf w))
  | 7 => .ok (.srav (rsOf w) (rtOf w) (rdOf w))
  | 8 => .ok (.jr (rsOf w))
  | 9 => .ok (.jalr (rsOf w) (rdOf w))
  | 12 => .ok (.syscall (code20Of w))
  | 13 => .ok (.break_ (code20Of w))
  | 15 => .ok .sync
  | 16 => .ok (.mfhi (rdOf w))
  | 17 => .ok (.mthi (rsOf w))
  | 18 => .ok (.mflo (rdOf w))
  | 19 => .ok (.mtlo (rsOf w))
  | 20 => .ok (.dsllv (rsOf w) (rtOf w) (rdOf w))
  | 22 => .ok (.dsrlv (rsOf w) (rtOf w) (rdOf w))
  | 23 => .ok (.dsrav (rsOf w) (rtOf w) (rdOf w))
  | 24 => .ok (.mult (rsOf w) (rtOf w))
  | 25 => .ok (.multu (rsOf w) (rtOf w))
  | 26 => .ok (.div (rsOf w) (rtOf w))
  | 27 => .ok (.divu (rsOf w) (rtOf w))
  | 28 => .ok (.dmult (rsOf w) (rtOf w))
  | 29 => .ok (.dmultu (rsOf w) (rtOf w))
  | 30 => .ok (.ddiv (rsOf w) (rtOf w))
  | 31 => .ok (.ddivu (rsOf w) (rtOf w))
  | 32 => .ok (.add (rsOf w) (rtOf w) (rdOf w))
  | 33 => .ok (.addu (rsOf w) (rtOf w) (rdOf w))
  | 34 => .ok (.sub (rsOf w) (rtOf w) (rdOf w))
  | 35 => .ok (.subu (rsOf w) (rtOf w) (rdOf w))
  | 36 => .ok (.and (rsOf w) (rtOf w) (rdOf w))
  | 37 => .ok (.or (rsOf w) (rtOf w) (rdOf w))
  | 38 => .ok (.xor (rsOf w) (rtOf w) (rdOf w))
  | 39 => .ok (.nor (rsOf w) (rtOf w) (rdOf w))
  | 42 => .ok (.slt (rsOf w) (rtOf w) (rdOf w))
  | 43 => .ok (.sltu (rsOf w) (rtOf w) (rdOf w))
  | 44 => .ok (.dadd (rsOf w) (rtOf w) (rdOf w))
  | 45 => .ok (.daddu (rsOf w) (rtOf w) (rdOf w))
  | 46 => .ok (.dsub (rsOf w) (rtOf w) (rdOf w))
  | 47 => .ok (.dsubu (rsOf w) (rtOf w) (rdOf w))
  | 48 => .ok (.tge (rsOf w) (rtOf w) (code10Of w))
  | 49 => .ok (.tgeu (rsOf w) (rtOf w) (code10Of w))
  | 50 => .ok (.tlt (rsOf w) (rtOf w) (code10Of w))
  | 51 => .ok (.tltu (rsOf w) (rtOf w) (code10Of w))
  | 52 => .ok (.teq (rsOf w) (rtOf w) (code10Of w))
  | 54 => .ok (.tne (rsOf w) (rtOf w) (code10Of w))
  | 56 => .ok (.dsll (rtOf w) (rdOf w) (saOf w))
  | 58 => .ok (.dsrl (rtOf w) (rdOf w) (saOf w))
  | 59 => .ok (.dsra (rtOf w) (rdOf w) (saOf w))
  | 60 => .ok (.dsll32 (rtOf w) (rdOf w) (saOf w))
  | 62 => .ok (.dsrl32 (rtOf w) (rdOf w) (saOf w))
  | 63 => .ok (.dsra32 (rtOf w) (rdOf w) (saOf w))
  | _ => .error .reservedInstruction

/-- The SPECIAL2 group, by bits 5:0 (R257). -/
def decodeSpecial2 (w : Word) : Except DecodeError Instr :=
  match (fnOf w).toNat with
  | 0 => .ok (.mad (rsOf w) (rtOf w))
  | 1 => .ok (.madu (rsOf w) (rtOf w))
  | 2 => .ok (.mul (rsOf w) (rtOf w) (rdOf w))
  | _ => .error .reservedInstruction

/-- The REGIMM group, by bits 20:16 (R258). -/
def decodeRegimm (w : Word) : Except DecodeError Instr :=
  match (rtOf w).toNat with
  | 0 => .ok (.bltz (rsOf w) (immOf w))
  | 1 => .ok (.bgez (rsOf w) (immOf w))
  | 2 => .ok (.bltzl (rsOf w) (immOf w))
  | 3 => .ok (.bgezl (rsOf w) (immOf w))
  | 8 => .ok (.tgei (rsOf w) (immOf w))
  | 9 => .ok (.tgeiu (rsOf w) (immOf w))
  | 10 => .ok (.tlti (rsOf w) (immOf w))
  | 11 => .ok (.tltiu (rsOf w) (immOf w))
  | 12 => .ok (.teqi (rsOf w) (immOf w))
  | 14 => .ok (.tnei (rsOf w) (immOf w))
  | 16 => .ok (.bltzal (rsOf w) (immOf w))
  | 17 => .ok (.bgezal (rsOf w) (immOf w))
  | 18 => .ok (.bltzall (rsOf w) (immOf w))
  | 19 => .ok (.bgezall (rsOf w) (immOf w))
  | _ => .error .reservedInstruction

/-- COP0 words with bit 25 = 1, by bits 5:0 (R261). -/
def decodeCop0Co (w : Word) : Except DecodeError Instr :=
  match (fnOf w).toNat with
  | 1 => .ok .tlbr
  | 2 => .ok .tlbwi
  | 6 => .ok .tlbwr
  | 8 => .ok .tlbp
  | 24 => .ok .eret
  | 32 => .ok .wait
  | _ => .error .reservedCop0

/-- The COP0 group, by bits 25:21 (R259); bit 25 = 1 is the CO half of the table. -/
def decodeCop0 (w : Word) : Except DecodeError Instr :=
  match (rsOf w).toNat with
  | 0 => .ok (.mfc0 (rtOf w) (rdOf w))
  | 1 => .ok (.dmfc0 (rtOf w) (rdOf w))
  | 4 => .ok (.mtc0 (rtOf w) (rdOf w))
  | 5 => .ok (.dmtc0 (rtOf w) (rdOf w))
  | _ => if (rsOf w).msb then decodeCop0Co w else .error .reservedCop0

/-- BC1 words, by bits 20:16 (R260). -/
def decodeBc1 (w : Word) : Except DecodeError Instr :=
  match (rtOf w).toNat with
  | 0 => .ok (.bc1f (immOf w))
  | 1 => .ok (.bc1t (immOf w))
  | 2 => .ok (.bc1fl (immOf w))
  | 3 => .ok (.bc1tl (immOf w))
  | _ => .error .reservedCop1

/-- COP1 R-type words of format S, by bits 5:0 (R264). -/
def decodeCop1S (w : Word) : Except DecodeError Instr :=
  match (fnOf w).toNat with
  | 0 => .ok (.addS (rtOf w) (rdOf w) (saOf w))
  | 1 => .ok (.subS (rtOf w) (rdOf w) (saOf w))
  | 2 => .ok (.mulS (rtOf w) (rdOf w) (saOf w))
  | 3 => .ok (.divS (rtOf w) (rdOf w) (saOf w))
  | 4 => .ok (.sqrtS (rdOf w) (saOf w))
  | 5 => .ok (.absS (rdOf w) (saOf w))
  | 6 => .ok (.movS (rdOf w) (saOf w))
  | 7 => .ok (.negS (rdOf w) (saOf w))
  | 8 => .ok (.roundLS (rdOf w) (saOf w))
  | 9 => .ok (.truncLS (rdOf w) (saOf w))
  | 10 => .ok (.ceilLS (rdOf w) (saOf w))
  | 11 => .ok (.floorLS (rdOf w) (saOf w))
  | 12 => .ok (.roundWS (rdOf w) (saOf w))
  | 13 => .ok (.truncWS (rdOf w) (saOf w))
  | 14 => .ok (.ceilWS (rdOf w) (saOf w))
  | 15 => .ok (.floorWS (rdOf w) (saOf w))
  | 33 => .ok (.cvtDS (rdOf w) (saOf w))
  | 36 => .ok (.cvtWS (rdOf w) (saOf w))
  | 37 => .ok (.cvtLS (rdOf w) (saOf w))
  | 48 => .ok (.cFS (rtOf w) (rdOf w))
  | 49 => .ok (.cUnS (rtOf w) (rdOf w))
  | 50 => .ok (.cEqS (rtOf w) (rdOf w))
  | 51 => .ok (.cUeqS (rtOf w) (rdOf w))
  | 52 => .ok (.cOltS (rtOf w) (rdOf w))
  | 53 => .ok (.cUltS (rtOf w) (rdOf w))
  | 54 => .ok (.cOleS (rtOf w) (rdOf w))
  | 55 => .ok (.cUleS (rtOf w) (rdOf w))
  | 56 => .ok (.cSfS (rtOf w) (rdOf w))
  | 57 => .ok (.cNgleS (rtOf w) (rdOf w))
  | 58 => .ok (.cSeqS (rtOf w) (rdOf w))
  | 59 => .ok (.cNglS (rtOf w) (rdOf w))
  | 60 => .ok (.cLtS (rtOf w) (rdOf w))
  | 61 => .ok (.cNgeS (rtOf w) (rdOf w))
  | 62 => .ok (.cLeS (rtOf w) (rdOf w))
  | 63 => .ok (.cNgtS (rtOf w) (rdOf w))
  | _ => .ok (.cop1Other (fmtLowOf w) (rtOf w) (rdOf w) (saOf w) (fnOf w))

/-- The COP1 group, by bits 25:21 (R259, R264). -/
def decodeCop1 (w : Word) : Except DecodeError Instr :=
  match (rsOf w).toNat with
  | 0 => .ok (.mfc1 (rtOf w) (rdOf w))
  | 1 => .ok (.dmfc1 (rtOf w) (rdOf w))
  | 2 => .ok (.cfc1 (rtOf w) (rdOf w))
  | 4 => .ok (.mtc1 (rtOf w) (rdOf w))
  | 5 => .ok (.dmtc1 (rtOf w) (rdOf w))
  | 6 => .ok (.ctc1 (rtOf w) (rdOf w))
  | 8 => decodeBc1 w
  | 16 => decodeCop1S w
  | 20 => if (fnOf w).toNat = 32 then .ok (.cvtSW (rdOf w) (saOf w)) else .ok (.cop1Other (fmtLowOf w) (rtOf w) (rdOf w) (saOf w) (fnOf w))
  | _ => if (rsOf w).msb then .ok (.cop1Other (fmtLowOf w) (rtOf w) (rdOf w) (saOf w) (fnOf w)) else .error .reservedCop1

/-- The decoder, by bits 31:26 (R255). Total: every word is an instruction or rejected by name. -/
def decode (w : Word) : Except DecodeError Instr :=
  match (opOf w).toNat with
  | 0 => decodeSpecial w
  | 1 => decodeRegimm w
  | 2 => .ok (.j (targetOf w))
  | 3 => .ok (.jal (targetOf w))
  | 4 => .ok (.beq (rsOf w) (rtOf w) (immOf w))
  | 5 => .ok (.bne (rsOf w) (rtOf w) (immOf w))
  | 6 => .ok (.blez (rsOf w) (immOf w))
  | 7 => .ok (.bgtz (rsOf w) (immOf w))
  | 8 => .ok (.addi (rsOf w) (rtOf w) (immOf w))
  | 9 => .ok (.addiu (rsOf w) (rtOf w) (immOf w))
  | 10 => .ok (.slti (rsOf w) (rtOf w) (immOf w))
  | 11 => .ok (.sltiu (rsOf w) (rtOf w) (immOf w))
  | 12 => .ok (.andi (rsOf w) (rtOf w) (immOf w))
  | 13 => .ok (.ori (rsOf w) (rtOf w) (immOf w))
  | 14 => .ok (.xori (rsOf w) (rtOf w) (immOf w))
  | 15 => .ok (.lui (rtOf w) (immOf w))
  | 16 => decodeCop0 w
  | 17 => decodeCop1 w
  | 18 => .ok (.cop2 (targetOf w))
  | 19 => .ok (.cop3 (targetOf w))
  | 20 => .ok (.beql (rsOf w) (rtOf w) (immOf w))
  | 21 => .ok (.bnel (rsOf w) (rtOf w) (immOf w))
  | 22 => .ok (.blezl (rsOf w) (immOf w))
  | 23 => .ok (.bgtzl (rsOf w) (immOf w))
  | 24 => .ok (.daddi (rsOf w) (rtOf w) (immOf w))
  | 25 => .ok (.daddiu (rsOf w) (rtOf w) (immOf w))
  | 26 => .ok (.ldl (rsOf w) (rtOf w) (immOf w))
  | 27 => .ok (.ldr (rsOf w) (rtOf w) (immOf w))
  | 28 => decodeSpecial2 w
  | 32 => .ok (.lb (rsOf w) (rtOf w) (immOf w))
  | 33 => .ok (.lh (rsOf w) (rtOf w) (immOf w))
  | 34 => .ok (.lwl (rsOf w) (rtOf w) (immOf w))
  | 35 => .ok (.lw (rsOf w) (rtOf w) (immOf w))
  | 36 => .ok (.lbu (rsOf w) (rtOf w) (immOf w))
  | 37 => .ok (.lhu (rsOf w) (rtOf w) (immOf w))
  | 38 => .ok (.lwr (rsOf w) (rtOf w) (immOf w))
  | 39 => .ok (.lwu (rsOf w) (rtOf w) (immOf w))
  | 40 => .ok (.sb (rsOf w) (rtOf w) (immOf w))
  | 41 => .ok (.sh (rsOf w) (rtOf w) (immOf w))
  | 42 => .ok (.swl (rsOf w) (rtOf w) (immOf w))
  | 43 => .ok (.sw (rsOf w) (rtOf w) (immOf w))
  | 44 => .ok (.sdl (rsOf w) (rtOf w) (immOf w))
  | 45 => .ok (.sdr (rsOf w) (rtOf w) (immOf w))
  | 46 => .ok (.swr (rsOf w) (rtOf w) (immOf w))
  | 47 => .ok (.cache (rsOf w) (rtOf w) (immOf w))
  | 48 => .ok (.ll (rsOf w) (rtOf w) (immOf w))
  | 49 => .ok (.lwc1 (rsOf w) (rtOf w) (immOf w))
  | 50 => .ok (.lwc2 (rsOf w) (rtOf w) (immOf w))
  | 52 => .ok (.lld (rsOf w) (rtOf w) (immOf w))
  | 53 => .ok (.ldc1 (rsOf w) (rtOf w) (immOf w))
  | 54 => .ok (.ldc2 (rsOf w) (rtOf w) (immOf w))
  | 55 => .ok (.ld (rsOf w) (rtOf w) (immOf w))
  | 56 => .ok (.sc (rsOf w) (rtOf w) (immOf w))
  | 57 => .ok (.swc1 (rsOf w) (rtOf w) (immOf w))
  | 58 => .ok (.swc2 (rsOf w) (rtOf w) (immOf w))
  | 60 => .ok (.scd (rsOf w) (rtOf w) (immOf w))
  | 61 => .ok (.sdc1 (rsOf w) (rtOf w) (immOf w))
  | 62 => .ok (.sdc2 (rsOf w) (rtOf w) (immOf w))
  | 63 => .ok (.sd (rsOf w) (rtOf w) (immOf w))
  | _ => .error .reservedInstruction

/-! ## The encoder -/

/-- The word of an instruction, its zero fields zero (R251 to R264). -/
def encode : Instr → Word
  | .lb base rt offset => iType 32#6 base rt offset
  | .lh base rt offset => iType 33#6 base rt offset
  | .lwl base rt offset => iType 34#6 base rt offset
  | .lw base rt offset => iType 35#6 base rt offset
  | .lbu base rt offset => iType 36#6 base rt offset
  | .lhu base rt offset => iType 37#6 base rt offset
  | .lwr base rt offset => iType 38#6 base rt offset
  | .lwu base rt offset => iType 39#6 base rt offset
  | .sb base rt offset => iType 40#6 base rt offset
  | .sh base rt offset => iType 41#6 base rt offset
  | .swl base rt offset => iType 42#6 base rt offset
  | .sw base rt offset => iType 43#6 base rt offset
  | .sdl base rt offset => iType 44#6 base rt offset
  | .sdr base rt offset => iType 45#6 base rt offset
  | .swr base rt offset => iType 46#6 base rt offset
  | .ll base rt offset => iType 48#6 base rt offset
  | .lld base rt offset => iType 52#6 base rt offset
  | .ld base rt offset => iType 55#6 base rt offset
  | .ldl base rt offset => iType 26#6 base rt offset
  | .ldr base rt offset => iType 27#6 base rt offset
  | .sc base rt offset => iType 56#6 base rt offset
  | .scd base rt offset => iType 60#6 base rt offset
  | .sd base rt offset => iType 63#6 base rt offset
  | .cache base op offset => iType 47#6 base op offset
  | .lwc1 base ft offset => iType 49#6 base ft offset
  | .ldc1 base ft offset => iType 53#6 base ft offset
  | .swc1 base ft offset => iType 57#6 base ft offset
  | .sdc1 base ft offset => iType 61#6 base ft offset
  | .lwc2 base rt offset => iType 50#6 base rt offset
  | .ldc2 base rt offset => iType 54#6 base rt offset
  | .swc2 base rt offset => iType 58#6 base rt offset
  | .sdc2 base rt offset => iType 62#6 base rt offset
  | .addi rs rt imm => iType 8#6 rs rt imm
  | .addiu rs rt imm => iType 9#6 rs rt imm
  | .slti rs rt imm => iType 10#6 rs rt imm
  | .sltiu rs rt imm => iType 11#6 rs rt imm
  | .andi rs rt imm => iType 12#6 rs rt imm
  | .ori rs rt imm => iType 13#6 rs rt imm
  | .xori rs rt imm => iType 14#6 rs rt imm
  | .daddi rs rt imm => iType 24#6 rs rt imm
  | .daddiu rs rt imm => iType 25#6 rs rt imm
  | .lui rt imm => iType 15#6 0#5 rt imm
  | .add rs rt rd => rType 0#6 rs rt rd 0#5 32#6
  | .addu rs rt rd => rType 0#6 rs rt rd 0#5 33#6
  | .sub rs rt rd => rType 0#6 rs rt rd 0#5 34#6
  | .subu rs rt rd => rType 0#6 rs rt rd 0#5 35#6
  | .and rs rt rd => rType 0#6 rs rt rd 0#5 36#6
  | .or rs rt rd => rType 0#6 rs rt rd 0#5 37#6
  | .xor rs rt rd => rType 0#6 rs rt rd 0#5 38#6
  | .nor rs rt rd => rType 0#6 rs rt rd 0#5 39#6
  | .slt rs rt rd => rType 0#6 rs rt rd 0#5 42#6
  | .sltu rs rt rd => rType 0#6 rs rt rd 0#5 43#6
  | .dadd rs rt rd => rType 0#6 rs rt rd 0#5 44#6
  | .daddu rs rt rd => rType 0#6 rs rt rd 0#5 45#6
  | .dsub rs rt rd => rType 0#6 rs rt rd 0#5 46#6
  | .dsubu rs rt rd => rType 0#6 rs rt rd 0#5 47#6
  | .sllv rs rt rd => rType 0#6 rs rt rd 0#5 4#6
  | .srlv rs rt rd => rType 0#6 rs rt rd 0#5 6#6
  | .srav rs rt rd => rType 0#6 rs rt rd 0#5 7#6
  | .dsllv rs rt rd => rType 0#6 rs rt rd 0#5 20#6
  | .dsrlv rs rt rd => rType 0#6 rs rt rd 0#5 22#6
  | .dsrav rs rt rd => rType 0#6 rs rt rd 0#5 23#6
  | .sll rt rd sa => rType 0#6 0#5 rt rd sa 0#6
  | .srl rt rd sa => rType 0#6 0#5 rt rd sa 2#6
  | .sra rt rd sa => rType 0#6 0#5 rt rd sa 3#6
  | .dsll rt rd sa => rType 0#6 0#5 rt rd sa 56#6
  | .dsrl rt rd sa => rType 0#6 0#5 rt rd sa 58#6
  | .dsra rt rd sa => rType 0#6 0#5 rt rd sa 59#6
  | .dsll32 rt rd sa => rType 0#6 0#5 rt rd sa 60#6
  | .dsrl32 rt rd sa => rType 0#6 0#5 rt rd sa 62#6
  | .dsra32 rt rd sa => rType 0#6 0#5 rt rd sa 63#6
  | .mult rs rt => rType 0#6 rs rt 0#5 0#5 24#6
  | .multu rs rt => rType 0#6 rs rt 0#5 0#5 25#6
  | .div rs rt => rType 0#6 rs rt 0#5 0#5 26#6
  | .divu rs rt => rType 0#6 rs rt 0#5 0#5 27#6
  | .dmult rs rt => rType 0#6 rs rt 0#5 0#5 28#6
  | .dmultu rs rt => rType 0#6 rs rt 0#5 0#5 29#6
  | .ddiv rs rt => rType 0#6 rs rt 0#5 0#5 30#6
  | .ddivu rs rt => rType 0#6 rs rt 0#5 0#5 31#6
  | .mfhi rd => rType 0#6 0#5 0#5 rd 0#5 16#6
  | .mthi rs => rType 0#6 rs 0#5 0#5 0#5 17#6
  | .mflo rd => rType 0#6 0#5 0#5 rd 0#5 18#6
  | .mtlo rs => rType 0#6 rs 0#5 0#5 0#5 19#6
  | .jr rs => rType 0#6 rs 0#5 0#5 0#5 8#6
  | .jalr rs rd => rType 0#6 rs 0#5 rd 0#5 9#6
  | .syscall code => code20Type code 12#6
  | .break_ code => code20Type code 13#6
  | .sync => rType 0#6 0#5 0#5 0#5 0#5 15#6
  | .tge rs rt code => code10Type rs rt code 48#6
  | .tgeu rs rt code => code10Type rs rt code 49#6
  | .tlt rs rt code => code10Type rs rt code 50#6
  | .tltu rs rt code => code10Type rs rt code 51#6
  | .teq rs rt code => code10Type rs rt code 52#6
  | .tne rs rt code => code10Type rs rt code 54#6
  | .mad rs rt => rType 28#6 rs rt 0#5 0#5 0#6
  | .madu rs rt => rType 28#6 rs rt 0#5 0#5 1#6
  | .mul rs rt rd => rType 28#6 rs rt rd 0#5 2#6
  | .j target => jType 2#6 target
  | .jal target => jType 3#6 target
  | .beq rs rt offset => iType 4#6 rs rt offset
  | .bne rs rt offset => iType 5#6 rs rt offset
  | .beql rs rt offset => iType 20#6 rs rt offset
  | .bnel rs rt offset => iType 21#6 rs rt offset
  | .blez rs offset => iType 6#6 rs 0#5 offset
  | .bgtz rs offset => iType 7#6 rs 0#5 offset
  | .blezl rs offset => iType 22#6 rs 0#5 offset
  | .bgtzl rs offset => iType 23#6 rs 0#5 offset
  | .bltz rs offset => iType 1#6 rs 0#5 offset
  | .bgez rs offset => iType 1#6 rs 1#5 offset
  | .bltzl rs offset => iType 1#6 rs 2#5 offset
  | .bgezl rs offset => iType 1#6 rs 3#5 offset
  | .bltzal rs offset => iType 1#6 rs 16#5 offset
  | .bgezal rs offset => iType 1#6 rs 17#5 offset
  | .bltzall rs offset => iType 1#6 rs 18#5 offset
  | .bgezall rs offset => iType 1#6 rs 19#5 offset
  | .tgei rs imm => iType 1#6 rs 8#5 imm
  | .tgeiu rs imm => iType 1#6 rs 9#5 imm
  | .tlti rs imm => iType 1#6 rs 10#5 imm
  | .tltiu rs imm => iType 1#6 rs 11#5 imm
  | .teqi rs imm => iType 1#6 rs 12#5 imm
  | .tnei rs imm => iType 1#6 rs 14#5 imm
  | .bc1f offset => iType 17#6 8#5 0#5 offset
  | .bc1t offset => iType 17#6 8#5 1#5 offset
  | .bc1fl offset => iType 17#6 8#5 2#5 offset
  | .bc1tl offset => iType 17#6 8#5 3#5 offset
  | .mfc0 rt rd => rType 16#6 0#5 rt rd 0#5 0#6
  | .dmfc0 rt rd => rType 16#6 1#5 rt rd 0#5 0#6
  | .mtc0 rt rd => rType 16#6 4#5 rt rd 0#5 0#6
  | .dmtc0 rt rd => rType 16#6 5#5 rt rd 0#5 0#6
  | .eret => rType 16#6 16#5 0#5 0#5 0#5 24#6
  | .wait => rType 16#6 16#5 0#5 0#5 0#5 32#6
  | .tlbr => rType 16#6 16#5 0#5 0#5 0#5 1#6
  | .tlbwi => rType 16#6 16#5 0#5 0#5 0#5 2#6
  | .tlbwr => rType 16#6 16#5 0#5 0#5 0#5 6#6
  | .tlbp => rType 16#6 16#5 0#5 0#5 0#5 8#6
  | .addS ft fs fd => rType 17#6 16#5 ft fs fd 0#6
  | .subS ft fs fd => rType 17#6 16#5 ft fs fd 1#6
  | .mulS ft fs fd => rType 17#6 16#5 ft fs fd 2#6
  | .divS ft fs fd => rType 17#6 16#5 ft fs fd 3#6
  | .sqrtS fs fd => rType 17#6 16#5 0#5 fs fd 4#6
  | .absS fs fd => rType 17#6 16#5 0#5 fs fd 5#6
  | .movS fs fd => rType 17#6 16#5 0#5 fs fd 6#6
  | .negS fs fd => rType 17#6 16#5 0#5 fs fd 7#6
  | .roundWS fs fd => rType 17#6 16#5 0#5 fs fd 12#6
  | .truncWS fs fd => rType 17#6 16#5 0#5 fs fd 13#6
  | .ceilWS fs fd => rType 17#6 16#5 0#5 fs fd 14#6
  | .floorWS fs fd => rType 17#6 16#5 0#5 fs fd 15#6
  | .cvtWS fs fd => rType 17#6 16#5 0#5 fs fd 36#6
  | .cvtSW fs fd => rType 17#6 20#5 0#5 fs fd 32#6
  | .roundLS fs fd => rType 17#6 16#5 0#5 fs fd 8#6
  | .truncLS fs fd => rType 17#6 16#5 0#5 fs fd 9#6
  | .ceilLS fs fd => rType 17#6 16#5 0#5 fs fd 10#6
  | .floorLS fs fd => rType 17#6 16#5 0#5 fs fd 11#6
  | .cvtDS fs fd => rType 17#6 16#5 0#5 fs fd 33#6
  | .cvtLS fs fd => rType 17#6 16#5 0#5 fs fd 37#6
  | .cFS ft fs => rType 17#6 16#5 ft fs 0#5 48#6
  | .cUnS ft fs => rType 17#6 16#5 ft fs 0#5 49#6
  | .cEqS ft fs => rType 17#6 16#5 ft fs 0#5 50#6
  | .cUeqS ft fs => rType 17#6 16#5 ft fs 0#5 51#6
  | .cOltS ft fs => rType 17#6 16#5 ft fs 0#5 52#6
  | .cUltS ft fs => rType 17#6 16#5 ft fs 0#5 53#6
  | .cOleS ft fs => rType 17#6 16#5 ft fs 0#5 54#6
  | .cUleS ft fs => rType 17#6 16#5 ft fs 0#5 55#6
  | .cSfS ft fs => rType 17#6 16#5 ft fs 0#5 56#6
  | .cNgleS ft fs => rType 17#6 16#5 ft fs 0#5 57#6
  | .cSeqS ft fs => rType 17#6 16#5 ft fs 0#5 58#6
  | .cNglS ft fs => rType 17#6 16#5 ft fs 0#5 59#6
  | .cLtS ft fs => rType 17#6 16#5 ft fs 0#5 60#6
  | .cNgeS ft fs => rType 17#6 16#5 ft fs 0#5 61#6
  | .cLeS ft fs => rType 17#6 16#5 ft fs 0#5 62#6
  | .cNgtS ft fs => rType 17#6 16#5 ft fs 0#5 63#6
  | .mfc1 rt fs => rType 17#6 0#5 rt fs 0#5 0#6
  | .dmfc1 rt fs => rType 17#6 1#5 rt fs 0#5 0#6
  | .cfc1 rt fs => rType 17#6 2#5 rt fs 0#5 0#6
  | .mtc1 rt fs => rType 17#6 4#5 rt fs 0#5 0#6
  | .dmtc1 rt fs => rType 17#6 5#5 rt fs 0#5 0#6
  | .ctc1 rt fs => rType 17#6 6#5 rt fs 0#5 0#6
  | .cop1Other fmtLow ft fs fd fn => cop1Type fmtLow ft fs fd fn
  | .cop2 cofun => jType 18#6 cofun
  | .cop3 cofun => jType 19#6 cofun

/-! ## The rows of the table -/

/-- The mask and the match of an instruction's row of spec/opcode_table.json: the decoded bits and their values. -/
def Instr.row : Instr → Word × Word
  | .lb _ _ _ => (0xFC000000, 0x80000000)
  | .lh _ _ _ => (0xFC000000, 0x84000000)
  | .lwl _ _ _ => (0xFC000000, 0x88000000)
  | .lw _ _ _ => (0xFC000000, 0x8C000000)
  | .lbu _ _ _ => (0xFC000000, 0x90000000)
  | .lhu _ _ _ => (0xFC000000, 0x94000000)
  | .lwr _ _ _ => (0xFC000000, 0x98000000)
  | .lwu _ _ _ => (0xFC000000, 0x9C000000)
  | .sb _ _ _ => (0xFC000000, 0xA0000000)
  | .sh _ _ _ => (0xFC000000, 0xA4000000)
  | .swl _ _ _ => (0xFC000000, 0xA8000000)
  | .sw _ _ _ => (0xFC000000, 0xAC000000)
  | .sdl _ _ _ => (0xFC000000, 0xB0000000)
  | .sdr _ _ _ => (0xFC000000, 0xB4000000)
  | .swr _ _ _ => (0xFC000000, 0xB8000000)
  | .ll _ _ _ => (0xFC000000, 0xC0000000)
  | .lld _ _ _ => (0xFC000000, 0xD0000000)
  | .ld _ _ _ => (0xFC000000, 0xDC000000)
  | .ldl _ _ _ => (0xFC000000, 0x68000000)
  | .ldr _ _ _ => (0xFC000000, 0x6C000000)
  | .sc _ _ _ => (0xFC000000, 0xE0000000)
  | .scd _ _ _ => (0xFC000000, 0xF0000000)
  | .sd _ _ _ => (0xFC000000, 0xFC000000)
  | .cache _ _ _ => (0xFC000000, 0xBC000000)
  | .lwc1 _ _ _ => (0xFC000000, 0xC4000000)
  | .ldc1 _ _ _ => (0xFC000000, 0xD4000000)
  | .swc1 _ _ _ => (0xFC000000, 0xE4000000)
  | .sdc1 _ _ _ => (0xFC000000, 0xF4000000)
  | .lwc2 _ _ _ => (0xFC000000, 0xC8000000)
  | .ldc2 _ _ _ => (0xFC000000, 0xD8000000)
  | .swc2 _ _ _ => (0xFC000000, 0xE8000000)
  | .sdc2 _ _ _ => (0xFC000000, 0xF8000000)
  | .addi _ _ _ => (0xFC000000, 0x20000000)
  | .addiu _ _ _ => (0xFC000000, 0x24000000)
  | .slti _ _ _ => (0xFC000000, 0x28000000)
  | .sltiu _ _ _ => (0xFC000000, 0x2C000000)
  | .andi _ _ _ => (0xFC000000, 0x30000000)
  | .ori _ _ _ => (0xFC000000, 0x34000000)
  | .xori _ _ _ => (0xFC000000, 0x38000000)
  | .daddi _ _ _ => (0xFC000000, 0x60000000)
  | .daddiu _ _ _ => (0xFC000000, 0x64000000)
  | .lui _ _ => (0xFC000000, 0x3C000000)
  | .add _ _ _ => (0xFC00003F, 0x00000020)
  | .addu _ _ _ => (0xFC00003F, 0x00000021)
  | .sub _ _ _ => (0xFC00003F, 0x00000022)
  | .subu _ _ _ => (0xFC00003F, 0x00000023)
  | .and _ _ _ => (0xFC00003F, 0x00000024)
  | .or _ _ _ => (0xFC00003F, 0x00000025)
  | .xor _ _ _ => (0xFC00003F, 0x00000026)
  | .nor _ _ _ => (0xFC00003F, 0x00000027)
  | .slt _ _ _ => (0xFC00003F, 0x0000002A)
  | .sltu _ _ _ => (0xFC00003F, 0x0000002B)
  | .dadd _ _ _ => (0xFC00003F, 0x0000002C)
  | .daddu _ _ _ => (0xFC00003F, 0x0000002D)
  | .dsub _ _ _ => (0xFC00003F, 0x0000002E)
  | .dsubu _ _ _ => (0xFC00003F, 0x0000002F)
  | .sllv _ _ _ => (0xFC00003F, 0x00000004)
  | .srlv _ _ _ => (0xFC00003F, 0x00000006)
  | .srav _ _ _ => (0xFC00003F, 0x00000007)
  | .dsllv _ _ _ => (0xFC00003F, 0x00000014)
  | .dsrlv _ _ _ => (0xFC00003F, 0x00000016)
  | .dsrav _ _ _ => (0xFC00003F, 0x00000017)
  | .sll _ _ _ => (0xFC00003F, 0x00000000)
  | .srl _ _ _ => (0xFC00003F, 0x00000002)
  | .sra _ _ _ => (0xFC00003F, 0x00000003)
  | .dsll _ _ _ => (0xFC00003F, 0x00000038)
  | .dsrl _ _ _ => (0xFC00003F, 0x0000003A)
  | .dsra _ _ _ => (0xFC00003F, 0x0000003B)
  | .dsll32 _ _ _ => (0xFC00003F, 0x0000003C)
  | .dsrl32 _ _ _ => (0xFC00003F, 0x0000003E)
  | .dsra32 _ _ _ => (0xFC00003F, 0x0000003F)
  | .mult _ _ => (0xFC00003F, 0x00000018)
  | .multu _ _ => (0xFC00003F, 0x00000019)
  | .div _ _ => (0xFC00003F, 0x0000001A)
  | .divu _ _ => (0xFC00003F, 0x0000001B)
  | .dmult _ _ => (0xFC00003F, 0x0000001C)
  | .dmultu _ _ => (0xFC00003F, 0x0000001D)
  | .ddiv _ _ => (0xFC00003F, 0x0000001E)
  | .ddivu _ _ => (0xFC00003F, 0x0000001F)
  | .mfhi _ => (0xFC00003F, 0x00000010)
  | .mthi _ => (0xFC00003F, 0x00000011)
  | .mflo _ => (0xFC00003F, 0x00000012)
  | .mtlo _ => (0xFC00003F, 0x00000013)
  | .jr _ => (0xFC00003F, 0x00000008)
  | .jalr _ _ => (0xFC00003F, 0x00000009)
  | .syscall _ => (0xFC00003F, 0x0000000C)
  | .break_ _ => (0xFC00003F, 0x0000000D)
  | .sync => (0xFC00003F, 0x0000000F)
  | .tge _ _ _ => (0xFC00003F, 0x00000030)
  | .tgeu _ _ _ => (0xFC00003F, 0x00000031)
  | .tlt _ _ _ => (0xFC00003F, 0x00000032)
  | .tltu _ _ _ => (0xFC00003F, 0x00000033)
  | .teq _ _ _ => (0xFC00003F, 0x00000034)
  | .tne _ _ _ => (0xFC00003F, 0x00000036)
  | .mad _ _ => (0xFC00003F, 0x70000000)
  | .madu _ _ => (0xFC00003F, 0x70000001)
  | .mul _ _ _ => (0xFC00003F, 0x70000002)
  | .j _ => (0xFC000000, 0x08000000)
  | .jal _ => (0xFC000000, 0x0C000000)
  | .beq _ _ _ => (0xFC000000, 0x10000000)
  | .bne _ _ _ => (0xFC000000, 0x14000000)
  | .beql _ _ _ => (0xFC000000, 0x50000000)
  | .bnel _ _ _ => (0xFC000000, 0x54000000)
  | .blez _ _ => (0xFC000000, 0x18000000)
  | .bgtz _ _ => (0xFC000000, 0x1C000000)
  | .blezl _ _ => (0xFC000000, 0x58000000)
  | .bgtzl _ _ => (0xFC000000, 0x5C000000)
  | .bltz _ _ => (0xFC1F0000, 0x04000000)
  | .bgez _ _ => (0xFC1F0000, 0x04010000)
  | .bltzl _ _ => (0xFC1F0000, 0x04020000)
  | .bgezl _ _ => (0xFC1F0000, 0x04030000)
  | .bltzal _ _ => (0xFC1F0000, 0x04100000)
  | .bgezal _ _ => (0xFC1F0000, 0x04110000)
  | .bltzall _ _ => (0xFC1F0000, 0x04120000)
  | .bgezall _ _ => (0xFC1F0000, 0x04130000)
  | .tgei _ _ => (0xFC1F0000, 0x04080000)
  | .tgeiu _ _ => (0xFC1F0000, 0x04090000)
  | .tlti _ _ => (0xFC1F0000, 0x040A0000)
  | .tltiu _ _ => (0xFC1F0000, 0x040B0000)
  | .teqi _ _ => (0xFC1F0000, 0x040C0000)
  | .tnei _ _ => (0xFC1F0000, 0x040E0000)
  | .bc1f _ => (0xFFFF0000, 0x45000000)
  | .bc1t _ => (0xFFFF0000, 0x45010000)
  | .bc1fl _ => (0xFFFF0000, 0x45020000)
  | .bc1tl _ => (0xFFFF0000, 0x45030000)
  | .mfc0 _ _ => (0xFFE00000, 0x40000000)
  | .dmfc0 _ _ => (0xFFE00000, 0x40200000)
  | .mtc0 _ _ => (0xFFE00000, 0x40800000)
  | .dmtc0 _ _ => (0xFFE00000, 0x40A00000)
  | .eret => (0xFE00003F, 0x42000018)
  | .wait => (0xFE00003F, 0x42000020)
  | .tlbr => (0xFE00003F, 0x42000001)
  | .tlbwi => (0xFE00003F, 0x42000002)
  | .tlbwr => (0xFE00003F, 0x42000006)
  | .tlbp => (0xFE00003F, 0x42000008)
  | .addS _ _ _ => (0xFFE0003F, 0x46000000)
  | .subS _ _ _ => (0xFFE0003F, 0x46000001)
  | .mulS _ _ _ => (0xFFE0003F, 0x46000002)
  | .divS _ _ _ => (0xFFE0003F, 0x46000003)
  | .sqrtS _ _ => (0xFFE0003F, 0x46000004)
  | .absS _ _ => (0xFFE0003F, 0x46000005)
  | .movS _ _ => (0xFFE0003F, 0x46000006)
  | .negS _ _ => (0xFFE0003F, 0x46000007)
  | .roundWS _ _ => (0xFFE0003F, 0x4600000C)
  | .truncWS _ _ => (0xFFE0003F, 0x4600000D)
  | .ceilWS _ _ => (0xFFE0003F, 0x4600000E)
  | .floorWS _ _ => (0xFFE0003F, 0x4600000F)
  | .cvtWS _ _ => (0xFFE0003F, 0x46000024)
  | .cvtSW _ _ => (0xFFE0003F, 0x46800020)
  | .roundLS _ _ => (0xFFE0003F, 0x46000008)
  | .truncLS _ _ => (0xFFE0003F, 0x46000009)
  | .ceilLS _ _ => (0xFFE0003F, 0x4600000A)
  | .floorLS _ _ => (0xFFE0003F, 0x4600000B)
  | .cvtDS _ _ => (0xFFE0003F, 0x46000021)
  | .cvtLS _ _ => (0xFFE0003F, 0x46000025)
  | .cFS _ _ => (0xFFE0003F, 0x46000030)
  | .cUnS _ _ => (0xFFE0003F, 0x46000031)
  | .cEqS _ _ => (0xFFE0003F, 0x46000032)
  | .cUeqS _ _ => (0xFFE0003F, 0x46000033)
  | .cOltS _ _ => (0xFFE0003F, 0x46000034)
  | .cUltS _ _ => (0xFFE0003F, 0x46000035)
  | .cOleS _ _ => (0xFFE0003F, 0x46000036)
  | .cUleS _ _ => (0xFFE0003F, 0x46000037)
  | .cSfS _ _ => (0xFFE0003F, 0x46000038)
  | .cNgleS _ _ => (0xFFE0003F, 0x46000039)
  | .cSeqS _ _ => (0xFFE0003F, 0x4600003A)
  | .cNglS _ _ => (0xFFE0003F, 0x4600003B)
  | .cLtS _ _ => (0xFFE0003F, 0x4600003C)
  | .cNgeS _ _ => (0xFFE0003F, 0x4600003D)
  | .cLeS _ _ => (0xFFE0003F, 0x4600003E)
  | .cNgtS _ _ => (0xFFE0003F, 0x4600003F)
  | .mfc1 _ _ => (0xFFE00000, 0x44000000)
  | .dmfc1 _ _ => (0xFFE00000, 0x44200000)
  | .cfc1 _ _ => (0xFFE00000, 0x44400000)
  | .mtc1 _ _ => (0xFFE00000, 0x44800000)
  | .dmtc1 _ _ => (0xFFE00000, 0x44A00000)
  | .ctc1 _ _ => (0xFFE00000, 0x44C00000)
  | .cop1Other _ _ _ _ _ => (0xFE000000, 0x46000000)
  | .cop2 _ => (0xFC000000, 0x48000000)
  | .cop3 _ => (0xFC000000, 0x4C000000)

/-! ## The table's numbering of bits -/

/-- The instruction decoded from the table's `nbits` low bits of `w`, the bits above them zero (32 bits is the one
length, R250). -/
def decodeTableWord (nbits w : Nat) : Option Instr :=
  match decode (BitVec.ofNat 32 (w % 2 ^ nbits)) with
  | .ok i => some i
  | .error _ => none

end Sys2Proof
end

