-- ==== Sys2Proof/Machine/State.lean ====
section
/-!
DEFINITION. Sys2Proof/Machine/State.lean: everything spec/ gives the machine, as plain data, and the machine right
after a cold reset (10_state R30 to R62, 11_cp0_registers, 21_caches R201 to R203, 48_fpu_state_and_rules R550 to
R560, 60_exceptions R700 to R706, 70_reset_and_hazards R745). INVENTORY.md lists each piece with its reset value.
-/

namespace Sys2Proof.Machine

/-! ## Coprocessor 0 -/

/-- Status (11_cp0_registers R97, R98): the bits that exist; a reserved bit stores nothing (R71). -/
structure Status where
  /-- CU3 to CU0, bits 31:28 (bit 0 of the field is CU0). -/
  cu : BitVec 4
  /-- FR, bit 26. -/
  fr : Bool
  /-- RE, bit 25. -/
  re : Bool
  /-- DL, bit 24: data cache lock. -/
  dl : Bool
  /-- IL, bit 23: instruction cache lock. -/
  il : Bool
  /-- BEV, bit 22. -/
  bev : Bool
  /-- SR, bit 20. -/
  sr : Bool
  /-- CH, bit 18. -/
  ch : Bool
  /-- CE, bit 17. -/
  ce : Bool
  /-- DE, bit 16. -/
  de : Bool
  /-- IM7 to IM0, bits 15:8. -/
  im : BitVec 8
  /-- UX, bit 5. -/
  ux : Bool
  /-- UM, bit 4. -/
  um : Bool
  /-- ERL, bit 2. -/
  erl : Bool
  /-- EXL, bit 1. -/
  exl : Bool
  /-- IE, bit 0. -/
  ie : Bool
deriving DecidableEq, Repr

/-- Cause (11_cp0_registers R100): the stored fields. IP[7:2] is no storage (60_exceptions R702). -/
structure Cause where
  /-- BD, bit 31. -/
  bd : Bool
  /-- CE, bits 29:28. -/
  ce : BitVec 2
  /-- DW, bit 25. -/
  dw : Bool
  /-- IW, bit 24. -/
  iw : Bool
  /-- IV, bit 23. -/
  iv : Bool
  /-- IP[1:0], bits 9:8: the software interrupts. -/
  ip : BitVec 2
  /-- ExcCode, bits 6:2. -/
  excCode : BitVec 5
deriving DecidableEq, Repr

/-- IWatch (11_cp0_registers R108). -/
structure IWatch where
  /-- IvAddr, virtual address bits 31:2. -/
  addr : BitVec 30
  /-- I: enabled. -/
  i : Bool
deriving DecidableEq, Repr

/-- DWatch (11_cp0_registers R109). -/
structure DWatch where
  /-- DvAddr, virtual address bits 31:3. -/
  addr : BitVec 29
  /-- R: enabled for loads. -/
  r : Bool
  /-- W: enabled for stores. -/
  w : Bool
deriving DecidableEq, Repr

/-- TagLo (11_cp0_registers R112; layout log 25). -/
structure TagLo where
  /-- PTagLo, bits 31:8. -/
  ptag : BitVec 24
  /-- PState, bits 7:6. -/
  pstate : BitVec 2
  /-- F, bit 2. -/
  f : Bool
  /-- P, bit 0. -/
  p : Bool
deriving DecidableEq, Repr

/-- The registers of coprocessor 0 (10_state R37). PRId and Config are read-only and hold no state of their own. -/
structure Cp0 where
  /-- IBase.UIBase, bits 31:12 (R73). -/
  ibase : BitVec 20
  /-- IBound.UIBound, bits 30:12 (R74). -/
  ibound : BitVec 19
  /-- DBase.UDBase, bits 31:12 (R75). -/
  dbase : BitVec 20
  /-- DBound.UDBound, bits 30:12 (R76). -/
  dbound : BitVec 19
  /-- BadVAddr (R80). -/
  badVAddr : DWord
  /-- Count (R95). -/
  count : Word
  /-- Compare (R96). -/
  compare : Word
  /-- Status (R97). -/
  status : Status
  /-- Cause (R100). -/
  cause : Cause
  /-- EPC (R103). -/
  epc : DWord
  /-- CAlg (R107). -/
  calg : Word
  /-- IWatch (R108). -/
  iwatch : IWatch
  /-- DWatch (R109). -/
  dwatch : DWatch
  /-- ECC (R110). -/
  ecc : BitVec 8
  /-- CacheErr (R111). -/
  cacheErr : Word
  /-- TagLo (R112). -/
  tagLo : TagLo
  /-- ErrorEPC (R113). -/
  errorEpc : DWord
deriving DecidableEq, Repr

/-! ## Floating-point unit -/

/-- FCR31 (48_fpu_state_and_rules R554; layout log 27). -/
structure Fcr31 where
  /-- FS, bit 24. -/
  fs : Bool
  /-- C, bit 23. -/
  c : Bool
  /-- Cause, bits 17:12: E V Z O U I. -/
  cause : BitVec 6
  /-- Enables, bits 11:7: V Z O U I. -/
  enables : BitVec 5
  /-- Flags, bits 6:2: V Z O U I. -/
  flags : BitVec 5
  /-- RM, bits 1:0. -/
  rm : BitVec 2
deriving DecidableEq, Repr

/-- The floating-point unit (10_state R38). FCR0 is read-only and holds no state. -/
structure Fpu where
  /-- FGR[0] to FGR[31] (48_fpu_state_and_rules R550). -/
  fgr : Vector Word 32
  /-- FCR31. -/
  fcr31 : Fcr31
deriving DecidableEq, Repr

/-! ## Caches -/

/-- The two ways of a cache, "set A" and "set B" (21_caches R200). -/
inductive Way where
  | a
  | b
deriving DecidableEq, Repr

/-- A line of the instruction cache (21_caches R201). Data are held by physical address order. -/
structure ILine where
  /-- PTag, physical address bits 31:12. -/
  tag : BitVec 20
  /-- The upper four bits of a 24-bit PTagLo as stored by Index Store Tag (90_conflicts C59). -/
  tagHi : BitVec 4
  /-- V. -/
  valid : Bool
  /-- F, the FIFO bit. -/
  f : Bool
  /-- P, even parity of PTag and V. -/
  tagPar : Bool
  /-- The 32 bytes of the line. -/
  data : Vector Byte 32
  /-- One even-parity bit per word. -/
  par : Vector Bool 8
deriving DecidableEq, Repr

/-- A line of the data cache (21_caches R202). -/
structure DLine where
  /-- PTag, physical address bits 31:12. -/
  tag : BitVec 20
  /-- The upper four bits of a 24-bit PTagLo as stored by Index Store Tag (90_conflicts C59). -/
  tagHi : BitVec 4
  /-- CS: 0 Invalid, 3 Dirty Exclusive; any other state counts as valid (R205; codes log 25). -/
  cs : BitVec 2
  /-- W: written since it was refilled. -/
  w : Bool
  /-- Even parity of W. -/
  wPar : Bool
  /-- F, the FIFO bit. -/
  f : Bool
  /-- Even parity of PTag and CS. -/
  tagPar : Bool
  /-- The 32 bytes of the line. -/
  data : Vector Byte 32
  /-- One even-parity bit per byte. -/
  par : Vector Bool 32
deriving DecidableEq, Repr

/-- The instruction cache: 128 lines in each way (21_caches R200). -/
structure ICache where
  a : Vector ILine 128
  b : Vector ILine 128
deriving DecidableEq, Repr

/-- The data cache: 128 lines in each way (21_caches R200). -/
structure DCache where
  a : Vector DLine 128
  b : Vector DLine 128
deriving DecidableEq, Repr

/-! ## Memory and the platform -/

/-- Physical memory: addresses strictly rising, no entry equal to what an unlisted address reads as (log 6). -/
abbrev Memory := List Host.Cell

/-- What answers in a region of physical addresses that is not RAM (20_memory R151, D36). -/
inductive RegionKind where
  /-- Reads as memory; writes vanish. -/
  | rom
  /-- A device: the platform answers a read as it likes (any value, erroneous or not, in good parity or not), and a write
  changes nothing that this model holds (80_system_interface R868; log 7). -/
  | device
  /-- Nothing is there: a read is returned erroneous, a write vanishes. -/
  | nothing
  /-- Neither RdRdy* nor WrRdy* is ever asserted: a read or a write hangs, for it is never accepted (80_system_interface R819;
  60_exceptions R677; log 7). -/
  | silent
  /-- Reads are returned with bad parity (the platform input ParityErrorOnRead of D29); writes as in RAM. -/
  | badParity
deriving DecidableEq, Repr

/-- A region of the physical memory map (D36). The first region that holds an address decides; else it is RAM. -/
structure Region where
  base : Nat
  size : Nat
  kind : RegionKind
deriving DecidableEq, Repr

/-- Which part the model is (00_scope R7). -/
inductive Part where
  | r4640
  | r4650
deriving DecidableEq, Repr

/-- The boot-mode parameters, fixed by a cold reset (70_reset_and_hazards R745, R747). -/
structure BootMode where
  /-- Mode bits 4:1, write-back data rate. -/
  ep : BitVec 4
  /-- Mode bits 7:5, clock multiplier. -/
  ec : BitVec 3
  /-- Mode bit 8. -/
  bigEndian : Bool
  /-- Mode bits 10:9, non-block write protocol. -/
  nbw : BitVec 2
  /-- Mode bit 11: the timer interrupt is disabled. -/
  timerDisabled : Bool
  /-- Mode bit 12: 32-bit system interface. -/
  bus32 : Bool
  /-- Mode bits 14:13, output driver strength. -/
  drvOut : BitVec 2
deriving DecidableEq, Repr

/-- An external request, a change of the pins, or a write by another bus master (00_scope R16; 80_system_interface R868;
log 44). -/
inductive Input where
  /-- New levels of Int*(5:0), NMI* and ExtRqst*; true means asserted (60_exceptions R702, R705, R706). -/
  | pins (int : BitVec 6) (nmi extRqst : Bool)
  /-- An external write request: its address and its data word (80_system_interface R850). -/
  | externalWrite (addr data : Word)
  /-- An external null request (80_system_interface R852). -/
  | externalNull
  /-- An external read request (80_system_interface R851). -/
  | externalRead
  /-- Another bus master writes a byte of physical memory (20_memory R185). -/
  | agentWrite (addr : Word) (value : Byte)
deriving DecidableEq, Repr

/-- What a reset of the processor is (70_reset_and_hazards R740, R743, R744). -/
inductive ResetKind where
  /-- A power-on or cold reset with its boot-mode stream (R746). -/
  | cold (stream : BitVec 256)
  | warm
deriving DecidableEq, Repr

/-- When a reset arrives: between two instructions, or in the middle of one (60_exceptions R675). -/
inductive Phase where
  /-- Before the instruction is fetched. -/
  | boundary
  /-- While it is being fetched. -/
  | fetch
  /-- Behind its fetch, while its memory operation is under way. -/
  | execution
deriving DecidableEq, Repr

/-- A reset that the platform asks for (log 20). -/
structure ResetRequest where
  kind : ResetKind
  phase : Phase
  /-- How many of the youngest entries of the write buffer have not been performed when it arrives (R675). -/
  lost : Nat
deriving DecidableEq, Repr

/-- What the platform does during one step (80_system_interface R814, R868; log 44). -/
structure Arrivals where
  /-- Delivered at the instruction boundary, one after the other. -/
  before : List Input
  /-- The platform still hides a pending interrupt at this boundary (93_implementation_defined U28; log 41). -/
  hold : Bool
  /-- Delivered behind the fetch of the instruction and before its execution. -/
  within : List Input
  /-- A reset that arrives in this step. -/
  reset : Option ResetRequest
  /-- The platform's tick input: how often Count advances in this step; none for the default rate, one increment in two
  steps (11_cp0_registers R95; D5; log 40). -/
  ticks : Option Nat
deriving DecidableEq, Repr

/-- A step in which nothing arrives and Count advances at the default rate. -/
def Arrivals.quiet : Arrivals where
  before := []
  hold := false
  within := []
  reset := none
  ticks := none

/-- A write that may still stand in the write buffer: the bytes it targets, and for a store the region of its virtual
address (20_memory R179; 70_reset_and_hazards R771). A written-back line is four of these. -/
structure BufferedWrite where
  region : Option (BitVec 3)
  bytes : List Word
deriving DecidableEq, Repr

/-- A line of one of the caches. -/
structure LineRef where
  /-- A line of the instruction cache, not of the data cache. -/
  instr : Bool
  way : Way
  index : BitVec 7
deriving DecidableEq, Repr

/-- What the bus may not have finished (20_memory R175 to R179; 60_exceptions R675; log 20). Memory holds every write
already; this record says which bytes and lines a reset leaves in doubt. -/
structure Bus where
  /-- The write buffer, youngest first: the writes behind the last read of the bus, four at most. -/
  writes : List BufferedWrite
  /-- The cache lines refilled or written back in this step. -/
  lines : List LineRef
deriving DecidableEq, Repr

/-- The interrupt inputs and the pending-event latches (10_state R43, R44; 60_exceptions R702, R706). -/
structure Events where
  /-- IntReg[6:0]. -/
  intReg : BitVec 7
  /-- Which of Int*(5:0) are asserted. -/
  intPins : BitVec 6
  /-- NMI* is asserted. -/
  nmiPin : Bool
  /-- ExtRqst* is asserted. -/
  extRqst : Bool
  /-- NMIpending. -/
  nmiPending : Bool
  /-- TimerPending. -/
  timerPending : Bool
  /-- IWpend. -/
  iwPend : Bool
  /-- DWpend. -/
  dwPend : Bool
  /-- The model's own: half a Count tick has passed (D5; log 40). -/
  countPhase : Bool
deriving DecidableEq, Repr

/-! ## What the hazard rules need of the past -/

/-- The model's own record of the last few instructions (70_reset_and_hazards R771 to R782, 44_multiply_divide R430,
R431; log 14, log 15). -/
structure Hazards where
  /-- The region (virtual address bits 31:29) the last instruction was fetched from (R771). -/
  lastRegion : Option (BitVec 3)
  /-- mf_rd: the register that the last MFHI or MFLO wrote (44_multiply_divide R430). -/
  mfRd : Reg
  /-- mf_age: the instructions executed since that MFHI or MFLO, counted no further than 2 (R430). -/
  mfAge : Nat
  /-- A multiply or divide wrote HI and LO and no HI/LO move has followed. -/
  hiloPair : Bool
  /-- The last instruction was an MTC0 or DMTC0. -/
  afterMtc0 : Bool
  /-- The last instruction was an MTC0 or DMTC0 that changed translation or mode state (R778). -/
  afterTransWrite : Bool
  /-- The last instruction was a load, store or CACHE (R778). -/
  afterMem : Bool
  /-- The last instruction wrote FCR31.C by a compare, or changed it by CTC1 (R782). -/
  afterCond : Bool
  /-- Instructions left in which mapped space may not be entered (R772). -/
  mappedWindow : Nat
  /-- Instructions left in which Status.IL may not act yet (R776). -/
  ilWindow : Nat
  /-- Instructions left in which Status.DL may not act yet (R776). -/
  dlWindow : Nat
  /-- Instructions left in which IWatch may not be checked (R777). -/
  iwWindow : Nat
  /-- Instructions left in which DWatch may not be checked (R777). -/
  dwWindow : Nat
deriving DecidableEq, Repr

/-! ## The machine -/

/-- The whole state of the machine. -/
structure State where
  /-- GPR[0] to GPR[31] (10_state R30). -/
  gpr : Vector DWord 32
  /-- HI (R32). -/
  hi : DWord
  /-- LO (R32). -/
  lo : DWord
  /-- PC, the address of the next instruction to execute (R33). -/
  pc : DWord
  /-- next_pc: the target of the taken branch whose delay slot is at PC (R34). -/
  nextPc : Option DWord
  /-- in_delay_slot (R34). -/
  inDelaySlot : Bool
  /-- LLbit (R35). -/
  llBit : Bool
  /-- LLaddr, the linked physical address (R35). -/
  llAddr : Word
  /-- The model's own: an LL or LLD has executed, so that LLaddr is its address (log 39). -/
  llSeen : Bool
  /-- standby (R45). -/
  standby : Bool
  /-- Coprocessor 0 (R37). -/
  cp0 : Cp0
  /-- The floating-point unit (R38). -/
  fpu : Fpu
  /-- The instruction cache (R41). -/
  icache : ICache
  /-- The data cache (R41). -/
  dcache : DCache
  /-- Physical memory (R40). -/
  mem : Memory
  /-- The write buffer and the lines in transit (20_memory R179). -/
  bus : Bus
  /-- Interrupt inputs and latches (R43, R44). -/
  events : Events
  /-- The boot-mode parameters (70_reset_and_hazards R747). -/
  boot : BootMode
  /-- Which part this is (00_scope R7). -/
  part : Part
  /-- The physical memory map (D36). -/
  platform : List Region
  /-- The model's own: what the platform does in the steps to come, nothing once the list has ended (log 44). -/
  inputs : List Arrivals
  /-- The model's own: the hazard record (log 14, log 15). -/
  hazards : Hazards
  /-- The model's own: how many free values have been drawn (log 9). -/
  fresh : Nat
deriving DecidableEq, Repr

/-! ## Reasons to stop -/

/-- Faults that stop the machine. (An exception the spec describes is a next state, not one of these.) -/
inductive Fault where
  /-- Raised by a fetch, load, store or CACHE whose read of the bus reaches a silent region of the platform's memory map:
  the processor waits for ever (60_exceptions R677; log 7). Safe: only a reset ends the wait, and the model's does. -/
  | readHangs
  /-- Raised by a store, by the write-back of a victim and by CACHE when the write reaches a silent region: it is never
  accepted, and the processor stalls for ever (80_system_interface R819; log 7). Safe, as for a read. -/
  | writeHangs
deriving DecidableEq, Repr

/-- Refusals: the treatments `refuse` of 93_implementation_defined, each safe, since the hardware goes on in a way
that spec/ does not give. -/
inductive Refusal where
  /-- Raised by exec's arm of an instruction that has no meaning yet. Safe. -/
  | notModelled (mnemonic : String)
  /-- Raised by MFC0, MTC0, DMFC0 and DMTC0 naming an unused CP0 register (U2). Safe. -/
  | reservedCp0Register
  /-- Raised by a cold reset whose boot-mode stream holds a reserved value (U6). Safe. -/
  | reservedBootMode
  /-- Raised by an access to a region whose CAlg field holds 4 to 7 (U7). Safe. -/
  | reservedCacheAlgorithm
  /-- Raised by an access that hits both ways of a cache (U8). Safe. -/
  | duplicateTag
  /-- Raised by CACHE with an operation that is not in the table (U10). Safe. -/
  | cacheOpUndefined
  /-- Raised by CACHE with an uncached effective address (U10). Safe. -/
  | cacheOpUncached
  /-- Raised by LL and LLD to an uncached location (U11). Safe. -/
  | linkUncached
  /-- Raised by SC and SCD to another address than the last LL's or LLD's (U12). Safe. -/
  | conditionalElsewhere
  /-- Raised by a reserved COP0 word and by TLBR, TLBWI, TLBWR, TLBP with CP0 usable (U13). Safe. -/
  | reservedCop0
  /-- Raised by a COP2 word, LWC2, LDC2, SWC2 and SDC2 with CU2 = 1 (U14). Safe. -/
  | coprocessor2
  /-- Raised by a jump, branch or ERET in a branch delay slot, BC1x and ERET with their coprocessor usable (U18). Safe. -/
  | branchInDelaySlot
  /-- Raised by JALR with rd = rs (U19). Safe. -/
  | jalrSameRegister
  /-- Raised by a load, store or CACHE next to an MTC0 or DMTC0 that changes translation or mode state (U22). Safe. -/
  | memoryBesideTranslationWrite
  /-- Raised by a kuseg fetch, load, store or CACHE within five instructions of a change of a base or bounds register,
  and by such a change fetched from kuseg (U23). Safe. -/
  | mappedSpaceInWindow
  /-- Raised by MTC0 or DMTC0 that changes the CAlg field of a region that it or an instruction next to it is fetched
  from, or that a store still in the write buffer went to (U23). Safe. -/
  | calgOfActiveRegion
  /-- Raised by CTC1 to another register than FCR31 (U25). Safe. -/
  | ctc1Reserved
  /-- Raised by an external read request (U32, D34). Safe. -/
  | externalReadRequest
deriving DecidableEq, Repr

/-- The answer of a meaning or a step. -/
abbrev Result := Host.Outcome State Fault Refusal

/-! ## Reset -/

/-- Status after a cold reset: ERL = BEV = 1, SR = DL = IL = 0 (10_state R61), the undefined bits 0 (log 4). -/
def Status.reset : Status where
  cu := 0
  fr := false
  re := false
  dl := false
  il := false
  bev := true
  sr := false
  ch := false
  ce := false
  de := false
  im := 0
  ux := false
  um := false
  erl := true
  exl := false
  ie := false

/-- Cause after a cold reset: IV = 0 (10_state R61), the undefined fields 0 (log 4). -/
def Cause.reset : Cause where
  bd := false
  ce := 0
  dw := false
  iw := false
  iv := false
  ip := 0
  excCode := 0

/-- Coprocessor 0 after a cold reset: CAlg = 0x22233333, the watch enables 0 (10_state R61), the rest 0 (log 4). -/
def Cp0.reset : Cp0 where
  ibase := 0
  ibound := 0
  dbase := 0
  dbound := 0
  badVAddr := 0
  count := 0
  compare := 0
  status := Status.reset
  cause := Cause.reset
  epc := 0
  calg := 0x22233333
  iwatch := { addr := 0, i := false }
  dwatch := { addr := 0, r := false, w := false }
  ecc := 0
  cacheErr := 0
  tagLo := { ptag := 0, pstate := 0, f := false, p := false }
  errorEpc := 0

/-- The FPU after a cold reset: every bit 0 (log 4; the spec gives no value, 48_fpu_state_and_rules R560). -/
def Fpu.reset : Fpu where
  fgr := Vector.replicate 32 0
  fcr31 := { fs := false, c := false, cause := 0, enables := 0, flags := 0, rm := 0 }

/-- An instruction-cache line after a cold reset: invalid, all zero (log 4). -/
def ILine.reset : ILine where
  tag := 0
  tagHi := 0
  valid := false
  f := false
  tagPar := false
  data := Vector.replicate 32 0
  par := Vector.replicate 8 false

/-- A data-cache line after a cold reset: invalid, all zero (log 4). -/
def DLine.reset : DLine where
  tag := 0
  tagHi := 0
  cs := 0
  w := false
  wPar := false
  f := false
  tagPar := false
  data := Vector.replicate 32 0
  par := Vector.replicate 32 false

/-- No write is buffered and no line in transit (70_reset_and_hazards R748). -/
def Bus.reset : Bus where
  writes := []
  lines := []

/-- The interrupt inputs and latches after a cold reset (D4, D6; 60_exceptions R695, R706; log 43). -/
def Events.reset : Events where
  intReg := 0
  intPins := 0
  nmiPin := false
  extRqst := false
  nmiPending := false
  timerPending := false
  iwPend := false
  dwPend := false
  countPhase := false

/-- No instruction has executed. hilo_pair, which 44_multiply_divide R431 leaves unspecified after reset, is false, and mf_age,
to which R430 gives no reset value, says that no MFHI or MFLO stands within two instructions: the model's choice (log 4). -/
def Hazards.reset : Hazards where
  lastRegion := none
  mfRd := 0
  mfAge := 2
  hiloPair := false
  afterMtc0 := false
  afterTransWrite := false
  afterMem := false
  afterCond := false
  mappedWindow := 0
  ilWindow := 0
  dlWindow := 0
  iwWindow := 0
  dwWindow := 0

/-- The boot mode of State.reset (log 5): big-endian, 64-bit bus, timer enabled, Config = 0x0000E270. -/
def BootMode.reset : BootMode where
  ep := 0
  ec := 0
  bigEndian := true
  nbw := 0
  timerDisabled := false
  bus32 := false
  drvOut := 2

/-- The machine right after a cold reset (10_state R61, 70_reset_and_hazards R748): the values spec/ gives; for every
register it leaves undefined, the value log 4 names. -/
def State.reset : State where
  gpr := Vector.replicate 32 0
  hi := 0
  lo := 0
  pc := 0xFFFFFFFFBFC00000
  nextPc := none
  inDelaySlot := false
  llBit := false
  llAddr := 0
  llSeen := false
  standby := false
  cp0 := Cp0.reset
  fpu := Fpu.reset
  icache := { a := Vector.replicate 128 ILine.reset, b := Vector.replicate 128 ILine.reset }
  dcache := { a := Vector.replicate 128 DLine.reset, b := Vector.replicate 128 DLine.reset }
  mem := []
  bus := Bus.reset
  events := Events.reset
  boot := BootMode.reset
  part := .r4650
  platform := []
  inputs := []
  hazards := Hazards.reset
  fresh := 0

end Sys2Proof.Machine
end

