-- ==== Sys2Proof/Machine/Mem.lean ====
section
/-!
DEFINITION. Sys2Proof/Machine/Mem.lean: physical memory byte by byte, the platform's memory map, and the byte order of
a datum (20_memory R140, R151, R154).
-/

namespace Sys2Proof.Machine

/-! ## Bytes of physical memory -/

/-- What an unlisted address reads as (log 6: the spec gives memory no contents at power-on). -/
def Memory.unlisted : Byte := 0

/-- The byte at physical address `x`. -/
def Memory.get : Memory → Nat → Byte
  | [], _ => Memory.unlisted
  | (a, b) :: m, x => if a = x then b else Memory.get m x

/-- The memory without an entry for `x`. -/
def Memory.erase : Memory → Nat → Memory
  | [], _ => []
  | (a, b) :: m, x => if a = x then Memory.erase m x else (a, b) :: Memory.erase m x

/-- The memory with an entry for `x` put where the rising order wants it. -/
def Memory.insert : Memory → Nat → Byte → Memory
  | [], x, v => [(x, v)]
  | (a, b) :: m, x, v => if x < a then (x, v) :: (a, b) :: m else (a, b) :: Memory.insert m x v

/-- The memory in which the byte at `x` is `v`, in canonical form. -/
def Memory.set (m : Memory) (x : Nat) (v : Byte) : Memory :=
  if v = Memory.unlisted then Memory.erase m x else Memory.insert (Memory.erase m x) x v

/-- The canonical form: addresses strictly rising from `lo` on, within 32 bits, no entry that reads as unlisted. -/
def Memory.wfFrom : Nat → Memory → Bool
  | _, [] => true
  | lo, (a, b) :: m => decide (lo ≤ a) && decide (a < 2 ^ 32) && (b != Memory.unlisted) && Memory.wfFrom (a + 1) m

/-- The canonical form of physical memory (20_memory R140: 2^32 bytes). -/
def Memory.wf (m : Memory) : Bool := Memory.wfFrom 0 m

/-! ## The platform's memory map (D36) -/

/-- What answers at physical address `x`, when it is not RAM. -/
def kindAt (platform : List Region) (x : Nat) : Option RegionKind :=
  (platform.find? fun r => decide (r.base ≤ x) && decide (x < r.base + r.size)).map (·.kind)

/-- Does some address of the list lie in a region of this kind? -/
def anyOf (kind : RegionKind) (platform : List Region) (xs : List Nat) : Bool :=
  xs.any fun x => kindAt platform x == some kind

/-- Does a write at this address change physical memory? Only where RAM is, read with good parity or bad (D36). -/
def isRam (platform : List Region) (x : Nat) : Bool :=
  match kindAt platform x with
  | none => true
  | some .badParity => true
  | _ => false

/-- A write of one byte arrives at the platform (D36; log 7). -/
def writeByte (platform : List Region) (m : Memory) (x : Nat) (v : Byte) : Memory :=
  if isRam platform x then m.set x v else m

/-- Writes of bytes at the addresses of a list, in order. -/
def writeBytes (platform : List Region) (m : Memory) : List (Nat × Byte) → Memory
  | [] => m
  | (x, v) :: ws => writeBytes platform (writeByte platform m x v) ws

/-! ## Byte order of a datum (R154) -/

/-- The number whose bytes, least significant first, are the list. -/
def leNat : List Byte → Nat
  | [] => 0
  | b :: bs => b.toNat + 256 * leNat bs

/-- The `n` low bytes of a number, least significant first. -/
def leBytes : Nat → Nat → List Byte
  | 0, _ => []
  | n + 1, v => BitVec.ofNat 8 v :: leBytes n (v / 256)

/-- The value of bytes at ascending virtual addresses, in the byte order of the CPU (R154). -/
def fromBytes (bigEndian : Bool) (bs : List Byte) : Nat := leNat (if bigEndian then bs.reverse else bs)

/-- The bytes, at ascending virtual addresses, of the `n`-byte value `v` in the byte order of the CPU (R154). -/
def toBytes (bigEndian : Bool) (n v : Nat) : List Byte :=
  if bigEndian then (leBytes n v).reverse else leBytes n v

end Sys2Proof.Machine
end

