-- ==== Sys2Proof/Machine/Flags.lean ====
section
/-!
DEFINITION. Sys2Proof/Machine/Flags.lean: the bits of the status words (Status, Cause, Config, TagLo, FCR31 and the
watch registers as software reads and writes them), the conditions computed from them, integer overflow and parity.
-/

namespace Sys2Proof.Machine

/-- A single bit. -/
def bit (b : Bool) : BitVec 1 := if b then 1 else 0

/-! ## Status (11_cp0_registers R97) -/

/-- Status as software reads it; reserved bits read 0 (R71). -/
def Status.toWord (t : Status) : Word :=
  t.cu ++ 0#1 ++ bit t.fr ++ bit t.re ++ bit t.dl ++ bit t.il ++ bit t.bev ++ 0#1 ++ bit t.sr ++ 0#1 ++ bit t.ch ++
  bit t.ce ++ bit t.de ++ t.im ++ 0#2 ++ bit t.ux ++ bit t.um ++ 0#1 ++ bit t.erl ++ bit t.exl ++ bit t.ie

/-- Status as a write of the word `v` leaves it; reserved bits are ignored (R71, R114). -/
def Status.ofWord (v : Word) : Status where
  cu := v.extractLsb' 28 4
  fr := v.getLsbD 26
  re := v.getLsbD 25
  dl := v.getLsbD 24
  il := v.getLsbD 23
  bev := v.getLsbD 22
  sr := v.getLsbD 20
  ch := v.getLsbD 18
  ce := v.getLsbD 17
  de := v.getLsbD 16
  im := v.extractLsb' 8 8
  ux := v.getLsbD 5
  um := v.getLsbD 4
  erl := v.getLsbD 2
  exl := v.getLsbD 1
  ie := v.getLsbD 0

/-- UserMode: UM = 1, EXL = 0 and ERL = 0 (10_state R60). -/
def Status.userMode (t : Status) : Bool := t.um && !t.exl && !t.erl

/-- CP0usable (47_coprocessor_cp0 R511). -/
def Status.cp0Usable (t : Status) : Bool := !t.userMode || t.cu.getLsbD 0

/-- Interrupts are enabled (11_cp0_registers R99). -/
def Status.interruptsEnabled (t : Status) : Bool := t.ie && !t.exl && !t.erl

/-- May a 64-bit operation execute (30_encoding R280)? -/
def Status.allows64 (t : Status) : Bool := !t.userMode || t.ux

/-- ReverseEndian: RE = 1 in User mode (20_memory R153). -/
def Status.reverseEndian (t : Status) : Bool := t.re && t.userMode

/-! ## Cause (11_cp0_registers R100) and the interrupt inputs (60_exceptions R702) -/

/-- Cause.IP[7:2] from the pins, the Interrupt register and the timer (R702). -/
def hardwareIp (e : Events) (timerDisabled : Bool) : BitVec 6 :=
  let lines := e.intReg.extractLsb' 0 6 ||| e.intPins
  bit (if timerDisabled then lines.getLsbD 5 else e.timerPending) ++ lines.extractLsb' 0 5

/-- Cause as software reads it, `ip` being IP[7:2]; reserved bits read 0 (R71). -/
def Cause.toWord (c : Cause) (ip : BitVec 6) : Word :=
  bit c.bd ++ 0#1 ++ c.ce ++ 0#2 ++ bit c.dw ++ bit c.iw ++ bit c.iv ++ 0#7 ++ ip ++ c.ip ++ 0#1 ++ c.excCode ++ 0#2

/-- A software write of Cause changes IV and IP[1:0] alone (R100). -/
def Cause.write (c : Cause) (v : Word) : Cause := { c with iv := v.getLsbD 23, ip := v.extractLsb' 8 2 }

/-- InterruptRequest (60_exceptions R701). -/
def interruptRequest (t : Status) (c : Cause) (ip : BitVec 6) : Bool :=
  ((ip ++ c.ip) &&& t.im != 0) && t.interruptsEnabled

/-- nmi_level: IntReg[6] or the pin (60_exceptions R706). -/
def nmiLevel (e : Events) : Bool := e.intReg.getLsbD 6 || e.nmiPin

/-! ## The other registers of coprocessor 0 as words (11_cp0_registers R114) -/

/-- IBase and DBase (R73, R75). -/
def baseWord (b : BitVec 20) : Word := b ++ 0#12

/-- IBound and DBound (R74, R76). -/
def boundWord (b : BitVec 19) : Word := 0#1 ++ b ++ 0#12

/-- IWatch (R108; layout log 26). -/
def IWatch.toWord (w : IWatch) : Word := w.addr ++ 0#1 ++ bit w.i

/-- IWatch after a write (R108, R114). -/
def IWatch.ofWord (v : Word) : IWatch where
  addr := v.extractLsb' 2 30
  i := v.getLsbD 0

/-- DWatch (R109; layout log 26). -/
def DWatch.toWord (w : DWatch) : Word := w.addr ++ 0#1 ++ bit w.r ++ bit w.w

/-- DWatch after a write (R109, R114). -/
def DWatch.ofWord (v : Word) : DWatch where
  addr := v.extractLsb' 3 29
  r := v.getLsbD 1
  w := v.getLsbD 0

/-- TagLo (R112; layout log 25). -/
def TagLo.toWord (t : TagLo) : Word := t.ptag ++ t.pstate ++ 0#3 ++ bit t.f ++ 0#1 ++ bit t.p

/-- TagLo after a write (R112, R114). -/
def TagLo.ofWord (v : Word) : TagLo where
  ptag := v.extractLsb' 8 24
  pstate := v.extractLsb' 6 2
  f := v.getLsbD 2
  p := v.getLsbD 0

/-- Config, computed from the boot mode (R105). -/
def configWord (b : BootMode) : Word :=
  0#1 ++ b.ec ++ b.ep ++ 0#4 ++ (if b.bus32 then 1#2 else 0#2) ++ 0#2 ++ bit b.bigEndian ++ 0x6270#15

/-- PRId (R104). -/
def pridWord : Word := 0x22#24 ++ Config.pridRev

/-- The bits of CAlg that are implemented (R107). -/
def calgMask : Word := 0x77777777

/-- The field of CAlg that governs the region of a virtual address with top bits `region` (R107). -/
def calgField (calg : Word) (region : BitVec 3) : BitVec 3 := (calg >>> (4 * region.toNat)).truncate 3

/-- Is the algorithm code reserved (4 to 7; R107, U7)? -/
def calgReserved (alg : BitVec 3) : Bool := alg.getLsbD 2

/-! ## FCR31 (48_fpu_state_and_rules R554) -/

/-- FCR31 as software reads it; reserved bits read 0 (D26). -/
def Fcr31.toWord (f : Fcr31) : Word :=
  0#7 ++ bit f.fs ++ bit f.c ++ 0#5 ++ f.cause ++ f.enables ++ f.flags ++ f.rm

/-- FCR31 after a write of the word `v`; reserved bits are ignored (D26). -/
def Fcr31.ofWord (v : Word) : Fcr31 where
  fs := v.getLsbD 24
  c := v.getLsbD 23
  cause := v.extractLsb' 12 6
  enables := v.extractLsb' 7 5
  flags := v.extractLsb' 2 5
  rm := v.extractLsb' 0 2

/-- FCR0 (R553). -/
def fcr0Word : Word := 0x22#24 ++ Config.fcr0Rev

/-- FPtrap: does the six-bit cause `c` force an exception (R558)? -/
def fpTrap (c : BitVec 6) (enables : BitVec 5) : Bool := c.getLsbD 5 || (c.extractLsb' 0 5 &&& enables != 0)

/-! ## Integer overflow (41_alu_immediate R350, 42_alu_three_operand R370) -/

/-- Does the exact integer `x` fall outside a two's complement number of `w` bits? -/
def overflows (w : Nat) (x : Int) : Bool := decide (x < -(2 ^ (w - 1) : Int)) || decide ((2 ^ (w - 1) : Int) ≤ x)

/-! ## Even parity (80_system_interface R855) -/

/-- The even-parity bit of the low `n` bits of a number. -/
def parityNat : Nat → Nat → Bool
  | 0, _ => false
  | n + 1, v => xor (v % 2 == 1) (parityNat n (v / 2))

/-- The even-parity bit of a bit vector. -/
def parity {w : Nat} (v : BitVec w) : Bool := parityNat w v.toNat

end Sys2Proof.Machine
end

