-- ==== Sys2Proof/Machine/Operands.lean ====
section
/-!
DEFINITION. Sys2Proof/Machine/Operands.lean: reading and writing the registers an instruction names, its immediates and
its address, and the free values (10_state R30 to R32, R38; 40_load_store R300; 45_jump_branch R446).
-/

namespace Sys2Proof.Machine

/-! ## Free values (log 9) -/

/-- The next free value, `w` bits wide. -/
def State.free (s : State) (w : Nat) : BitVec w := Config.freeBits w s.fresh

/-- The next free choice. -/
def State.freeBool (s : State) : Bool := (s.free 1).getLsbD 0

/-- The state after a free value is drawn: the next one is another. -/
def State.drawn (s : State) : State := { s with fresh := s.fresh + 1 }

/-! ## General registers, HI and LO -/

/-- GPR[r]: r0 reads zero whatever was written (R30). -/
def State.reg (s : State) (r : Reg) : DWord := if r = 0 then 0 else s.gpr[r.toNat]

/-- GPR[r] <- v; a write of r0 has no effect (R30). -/
def State.setReg (s : State) (r : Reg) (v : DWord) : State :=
  if r = 0 then s else { s with gpr := s.gpr.set r.toNat v }

/-- HI <- v. -/
def State.setHi (s : State) (v : DWord) : State := { s with hi := v }

/-- LO <- v. -/
def State.setLo (s : State) (v : DWord) : State := { s with lo := v }

/-! ## Widths -/

/-- sext32: a 32-bit result in a 64-bit register (R31). -/
def sext32 (v : Word) : DWord := v.signExtend 64

/-- The low word of a register. -/
def low32 (v : DWord) : Word := v.truncate 32

/-- SignExtended32: bits 63:31 all equal (R31). -/
def isSext32 (v : DWord) : Bool := sext32 (low32 v) == v

/-- sext_64 of an immediate or offset. -/
def sextImm (i : BitVec 16) : DWord := i.signExtend 64

/-- zext_64 of an immediate. -/
def zextImm (i : BitVec 16) : DWord := i.zeroExtend 64

/-- The effective address of a load, store or CACHE (40_load_store R300). -/
def State.ea (s : State) (base : Reg) (offset : BitVec 16) : DWord := s.reg base + sextImm offset

/-- The target of a branch at `pc` (45_jump_branch R446). -/
def branchTarget (pc : DWord) (offset : BitVec 16) : DWord := pc + 4 + (offset ++ 0#2).signExtend 64

/-- The target of J and JAL at `pc` (45_jump_branch R450). -/
def jumpTarget (pc : DWord) (target : BitVec 26) : DWord := (pc + 4).extractLsb' 28 36 ++ target ++ 0#2

/-! ## Coprocessor registers -/

/-- The record of coprocessor 0 replaced. -/
def State.setCp0 (s : State) (c : Cp0) : State := { s with cp0 := c }

/-- Status replaced. -/
def State.setStatus (s : State) (t : Status) : State := { s with cp0 := { s.cp0 with status := t } }

/-- Cause replaced. -/
def State.setCause (s : State) (c : Cause) : State := { s with cp0 := { s.cp0 with cause := c } }

/-- FGR[f] (48_fpu_state_and_rules R550). -/
def State.fgr (s : State) (f : Reg) : Word := s.fpu.fgr[f.toNat]

/-- FGR[f] <- v. -/
def State.setFgr (s : State) (f : Reg) (v : Word) : State :=
  { s with fpu := { s.fpu with fgr := s.fpu.fgr.set f.toNat v } }

/-- FCR31 replaced. -/
def State.setFcr31 (s : State) (c : Fcr31) : State := { s with fpu := { s.fpu with fcr31 := c } }

/-! ## Mode -/

/-- UserMode (R60). -/
def State.userMode (s : State) : Bool := s.cp0.status.userMode

/-- BigEndianCPU = BigEndianMem xor ReverseEndian (20_memory R153). -/
def State.bigEndianCpu (s : State) : Bool := xor s.boot.bigEndian s.cp0.status.reverseEndian

end Sys2Proof.Machine
end

