-- ==== Sys2Proof/Machine/Ops.lean ====
section
/-!
DEFINITION. Sys2Proof/Machine/Ops.lean: the operations the meanings share: ending an instruction, branching, taking an
exception and returning from one, the reset-class events, the timer (45_jump_branch R442; 60_exceptions R670 to R678,
R685, R695, R702 to R706; 46_trap_special R500; 70_reset_and_hazards R743 to R747, R771 to R782).
-/

namespace Sys2Proof.Machine

/-! ## Ending an instruction -/

/-- The region of an address: bits 31:29 (20_memory R145). -/
def regionOf (a : DWord) : BitVec 3 := (low32 a).extractLsb' 29 3

/-- The hazard record behind one more executed instruction, which was fetched from `region`. -/
def Hazards.aged (h : Hazards) (region : BitVec 3) : Hazards where
  lastRegion := some region
  mfRd := h.mfRd
  mfAge := if h.mfAge < 2 then h.mfAge + 1 else 2
  hiloPair := h.hiloPair
  afterMtc0 := false
  afterTransWrite := false
  afterMem := false
  afterCond := false
  mappedWindow := h.mappedWindow - 1
  ilWindow := h.ilWindow - 1
  dlWindow := h.dlWindow - 1
  iwWindow := h.iwWindow - 1
  dwWindow := h.dwWindow - 1

/-- The hazard record behind the instruction at the PC. -/
def State.agedHazards (s : State) : Hazards := s.hazards.aged (regionOf s.pc)

/-- The state with its hazard record aged. -/
def State.aged (s : State) : State := { s with hazards := s.agedHazards }

/-- The end of an instruction that is no jump or branch (45_jump_branch R442). -/
def State.advance (s : State) : State :=
  { s with
    pc := match s.inDelaySlot, s.nextPc with
      | true, some t => t
      | _, _ => s.pc + 4
    nextPc := none
    inDelaySlot := false
    hazards := s.agedHazards }

/-- The answer of an instruction that is no jump or branch. -/
def State.done (s : State) : Result := .next s.advance

/-- The end of a jump or taken branch to `t`: the delay slot comes next (R442). -/
def State.branchTo (s : State) (t : DWord) : State :=
  { s with pc := s.pc + 4, nextPc := some t, inDelaySlot := true, hazards := s.agedHazards }

/-- The end of an ordinary branch that is not taken: its delay slot executes all the same (R441, R442). -/
def State.fallThrough (s : State) : State :=
  { s with pc := s.pc + 4, nextPc := none, inDelaySlot := true, hazards := s.agedHazards }

/-- The end of a Likely branch that is not taken: its delay slot is nullified (R443). -/
def State.nullify (s : State) : State :=
  { s with pc := s.pc + 8, nextPc := none, inDelaySlot := false, hazards := s.agedHazards }

/-- A jump or branch may not stand in a delay slot (R444, U18). BC1x and ERET come here behind their usability test (log
36). -/
def State.outsideSlot (s : State) (r : Result) : Result :=
  if s.inDelaySlot then .refused .branchInDelaySlot else r

/-- The answer of a conditional branch; `s` is the state with any link register written. -/
def State.branch (s : State) (taken likely : Bool) (offset : BitVec 16) : Result :=
  if taken then .next (s.branchTo (branchTarget s.pc offset))
  else if likely then .next s.nullify
  else .next s.fallThrough

/-! ## Taking an exception -/

/-- The exceptions with an ExcCode (11_cp0_registers R101, 60_exceptions R662). -/
inductive Exc where
  | int
  | iBound
  | dBound
  | adEL
  | adES
  | ibe
  | dbe
  | sys
  | bp
  | ri
  /-- Coprocessor Unusable, with the unit. -/
  | cpu (unit : BitVec 2)
  | ov
  | tr
  | fpe
  /-- Watch, with Cause.IW and Cause.DW. -/
  | watch (iw dw : Bool)
deriving DecidableEq, Repr

/-- ExcCode (R101). -/
def Exc.code : Exc → BitVec 5
  | .int => 0
  | .iBound => 2
  | .dBound => 3
  | .adEL => 4
  | .adES => 5
  | .ibe => 6
  | .dbe => 7
  | .sys => 8
  | .bp => 9
  | .ri => 10
  | .cpu _ => 11
  | .ov => 12
  | .tr => 13
  | .fpe => 15
  | .watch _ _ => 23

/-- Cause.CE: the unit of a Coprocessor Unusable exception, 0 otherwise (R673). -/
def Exc.unit : Exc → BitVec 2
  | .cpu u => u
  | _ => 0

/-- Is it an interrupt? -/
def Exc.isInt : Exc → Bool
  | .int => true
  | _ => false

/-- The restart address: PC, or the branch before it when PC is a delay slot (R670, R676). -/
def State.restartPc (s : State) : DWord := if s.inDelaySlot then s.pc - 4 else s.pc

/-- Where the general vector lies (R672). -/
def vector (bev : Bool) (offset : DWord) : DWord :=
  if bev then 0xFFFFFFFFBFC00200 + offset else 0xFFFFFFFF80000000 + offset

/-- Cause after a general exception (R670, R673). `freeBits` stand for IW and DW when the exception is no Watch. -/
def causeAfter (c : Cause) (e : Exc) (exl slot : Bool) (freeBits : BitVec 2) : Cause where
  bd := if exl then c.bd else slot
  ce := e.unit
  dw := match e with
    | .watch _ dw => dw
    | _ => freeBits.getLsbD 0
  iw := match e with
    | .watch iw _ => iw
    | _ => freeBits.getLsbD 1
  iv := c.iv
  ip := c.ip
  excCode := e.code

/-- GeneralException (R670, R671): every exception with an ExcCode. `bad` is the failing address of AdEL, AdES,
IBound and DBound. While EXL = 1, EPC, BadVAddr and Cause.BD keep their values. -/
def State.takeException (s : State) (e : Exc) (bad : Option DWord) : State :=
  let c := s.cp0
  let t := c.status
  { s with
    cp0 := { c with
      epc := if t.exl then c.epc else s.restartPc
      badVAddr := match bad with
        | some a => if t.exl then c.badVAddr else a
        | none => c.badVAddr
      cause := causeAfter c.cause e t.exl s.inDelaySlot (s.free 2)
      status := { t with exl := true } }
    pc := vector t.bev (if e.isInt && c.cause.iv then 0x200 else 0x180)
    nextPc := none
    inDelaySlot := false
    fresh := s.fresh + 1 }

/-- An exception raised by an instruction that was executed: the instructions behind it count one more (log 15). A load or
store that its own exception kills leaves no mark of a data access, so that it does not stand "immediately before" an MTC0
that the handler begins with (70_reset_and_hazards R778): the model's choice (log 14). -/
def State.raised (s : State) (e : Exc) (bad : Option DWord) : State := s.aged.takeException e bad

/-- The answer of an instruction that raises an exception with no failing address. -/
def State.trap (s : State) (e : Exc) : Result := .next (s.raised e none)

/-- What a detected parity error records in CacheErr (11_cp0_registers R111). -/
structure ParityError where
  /-- ER: a data reference, not an instruction fetch. -/
  data : Bool
  /-- ED: an error in a data field. -/
  ed : Bool
  /-- ET: an error in a tag field. -/
  et : Bool
  /-- EE: the error came over the SysAD bus. -/
  ee : Bool
  /-- The physical address of the reference. -/
  pa : Word
  /-- The virtual address of the reference. -/
  va : Word
deriving DecidableEq, Repr

/-- CacheErr (R111, 60_exceptions R685): EC, ES and EB are 0 in this model (log 46). -/
def ParityError.toWord (p : ParityError) : Word :=
  bit p.data ++ 0#1 ++ bit p.ed ++ bit p.et ++ 0#1 ++ bit p.ee ++ 0#1 ++ 0#3 ++ p.pa.extractLsb' 3 19 ++ 0#1 ++
  p.va.extractLsb' 12 2

/-- The Cache Error exception (R685): no other register is changed. -/
def State.takeCacheError (s : State) (p : ParityError) : State :=
  { s with
    cp0 := { s.cp0 with
      errorEpc := s.restartPc
      cacheErr := p.toWord
      status := { s.cp0.status with erl := true } }
    pc := if s.cp0.status.bev then 0xFFFFFFFFBFC00300 else 0xFFFFFFFFA0000100
    nextPc := none
    inDelaySlot := false }

/-! ## Returning from an exception -/

/-- ERET with CP0 usable (46_trap_special R500): no delay slot, one Status bit cleared, the link broken. -/
def State.returnFromException (s : State) : State :=
  let t := s.cp0.status
  { s with
    pc := if t.erl then s.cp0.errorEpc else s.cp0.epc
    cp0 := { s.cp0 with status := if t.erl then { t with erl := false } else { t with exl := false } }
    nextPc := none
    inDelaySlot := false
    llBit := false
    hazards := s.agedHazards }

/-! ## Reset-class events -/

/-- Soft Reset and NMI (60_exceptions R676): registers preserved but for ErrorEPC and Status.ERL, SR, BEV. That the hazard
record is preserved with them, as old as it was, is the model's choice: the spec is silent (log 15). -/
def State.softReset (s : State) : State :=
  { s with
    cp0 := { s.cp0 with
      errorEpc := s.restartPc
      status := { s.cp0.status with bev := true, sr := true, erl := true } }
    pc := 0xFFFFFFFFBFC00000
    nextPc := none
    inDelaySlot := false }

/-- An NMI is taken (R677, R706). -/
def State.takeNmi (s : State) : State :=
  { s.softReset with events := { s.events with nmiPending := false }, standby := false }

/-- The reset of a warm reset (R675; 70_reset_and_hazards R744): it clears the postponed watches and the NMI latch (R695,
R706). What becomes of the bus, `State.interruptBus` says first. -/
def State.warmReset (s : State) : State :=
  { s.softReset with
    events := { s.events with nmiPending := false, iwPend := false, dwPend := false }
    standby := false }

/-- The boot-mode parameters of a serial stream (70_reset_and_hazards R745). -/
def BootMode.ofStream (v : BitVec 256) : BootMode where
  ep := v.extractLsb' 1 4
  ec := v.extractLsb' 5 3
  bigEndian := v.getLsbD 8
  nbw := v.extractLsb' 9 2
  timerDisabled := v.getLsbD 11
  bus32 := v.getLsbD 12
  drvOut := v.extractLsb' 13 2

/-- Does the stream hold a reserved value or a reserved bit that is not zero, or a bus the part does not have (R745,
R746, U6)? -/
def reservedStream (part : Part) (v : BitVec 256) : Bool :=
  v.getLsbD 0 || decide (8 < (v.extractLsb' 1 4).toNat) || v.extractLsb' 5 3 == 7 || v.extractLsb' 9 2 == 1 ||
  v.extractLsb' 15 241 != 0 || (part == .r4640 && !v.getLsbD 12)

/-- A cold reset (60_exceptions R674; 70_reset_and_hazards R743): every register as State.reset has it, but for
ErrorEPC, which 10_state R61 leaves undefined and the model sets to the restart address (log 4); external memory, the
platform and the levels of the pins stay. What becomes of the bus, `State.interruptBus` says first. -/
def State.coldReset (s : State) (boot : BootMode) : State :=
  { State.reset with
    cp0 := { Cp0.reset with errorEpc := s.restartPc }
    mem := s.mem
    events := { Events.reset with
      intPins := s.events.intPins
      nmiPin := s.events.nmiPin
      extRqst := s.events.extRqst }
    boot := boot
    part := s.part
    platform := s.platform
    inputs := s.inputs
    fresh := s.fresh }

/-! ## The write buffer (20_memory R175 to R179; log 20) -/

/-- A read of the bus drains the write buffer first (R176). -/
def State.drained (s : State) : State := { s with bus := { s.bus with writes := [] } }

/-- Writes enter the buffer, the youngest first in the list; it holds four (R175, R179). -/
def State.buffered (s : State) (ws : List BufferedWrite) : State :=
  { s with bus := { s.bus with writes := (ws ++ s.bus.writes).take 4 } }

/-- A single read of the bus drains the write buffer first (R176), and its answer is a new one. -/
def State.singleRead (s : State) : State := s.drained.drawn

/-- A line of a cache is refilled or written back in this step. -/
def State.inTransit (s : State) (l : LineRef) : State := { s with bus := { s.bus with lines := l :: s.bus.lines } }

/-- The step is over: no line is in transit any more. -/
def State.settled (s : State) : State := { s with bus := { s.bus with lines := [] } }

/-- The buffered write of a store at the addresses `xs`, `region` being that of its virtual address. -/
def bufferedStore (region : BitVec 3) (xs : List Nat) : BufferedWrite where
  region := some region
  bytes := xs.map (BitVec.ofNat 32)

/-- The four buffered writes of a line at `base`, its last doubleword the youngest (R179; 80_system_interface R831). -/
def bufferedLine (base : Nat) : List BufferedWrite :=
  [24, 16, 8, 0].map fun k => { region := none, bytes := (List.range 8).map fun j => BitVec.ofNat 32 (base + k + j) }

/-! ## Inputs and the timer -/

/-- New interrupt inputs: a 0-to-1 transition of the NMI level sets NMIpending (60_exceptions R706). -/
def State.setEvents (s : State) (e : Events) : State :=
  { s with events := { e with nmiPending := e.nmiPending || (nmiLevel e && !nmiLevel s.events) } }

/-- IntReg after an external write (R705; 80_system_interface R850): bits 22:16 of the data enable bits 6:0. -/
def intRegAfter (old : BitVec 7) (addr data : Word) : BitVec 7 :=
  if addr.extractLsb' 4 3 = 0 then
    let en := data.extractLsb' 16 7
    (old &&& ~~~en) ||| (data.extractLsb' 0 7 &&& en)
  else old

/-- One increment of Count, and the timer latch (11_cp0_registers R95, R96). -/
def State.countOnce (s : State) : State :=
  { s with
    cp0 := { s.cp0 with count := s.cp0.count + 1 }
    events := { s.events with timerPending := s.events.timerPending || s.cp0.count + 1 == s.cp0.compare } }

/-- Some increments of Count. -/
def State.countTimes (s : State) : Nat → State
  | 0 => s
  | n + 1 => s.countOnce.countTimes n

/-- The default rate: half a tick of Count in each step (R95, D5; log 40). -/
def State.tick (s : State) : State :=
  if s.events.countPhase then
    let t := s.countOnce
    { t with events := { t.events with countPhase := false } }
  else { s with events := { s.events with countPhase := true } }

/-- Count advances as the platform's tick input says, by default at the default rate (R95; 70_reset_and_hazards R790). -/
def State.timed (s : State) (ticks : Option Nat) : State :=
  match ticks with
  | none => s.tick
  | some n => s.countTimes n

/-- IP[7:2] now (R702). -/
def State.hardwareIp (s : State) : BitVec 6 := Machine.hardwareIp s.events s.boot.timerDisabled

/-- InterruptRequest now (R701). -/
def State.interruptRequest (s : State) : Bool :=
  Machine.interruptRequest s.cp0.status s.cp0.cause s.hardwareIp

/-! ## Free values of the hazard rules -/

/-- What every instruction that writes HI or LO does before its own effect: the register that an MFHI or MFLO wrote within two
instructions holds any value (44_multiply_divide R430, D19; U17). -/
def State.beforeHiLo (s : State) : State :=
  if s.hazards.mfAge < 2 then (s.setReg s.hazards.mfRd (s.free 64)).drawn else s

/-- HI and LO <- any value (U1, U15, U16). -/
def State.freeHiLo (s : State) : State :=
  { s with hi := Config.freeBits 64 s.fresh, lo := Config.freeBits 64 (s.fresh + 1), fresh := s.fresh + 2 }

/-! ## Coprocessor usability and 64-bit operations -/

/-- The CP0 test that comes before anything else of the word (47_coprocessor_cp0 R511). -/
def State.needCp0 (s : State) (r : Result) : Result :=
  if s.cp0.status.cp0Usable then r else s.trap (.cpu 0)

/-- The CP1 test, in either mode (R512). -/
def State.needCp1 (s : State) (r : Result) : Result :=
  if s.cp0.status.cu.getLsbD 1 then r else s.trap (.cpu 1)

/-- A word of unit 2, a BC2x in a delay slot among them: unusable, or no meaning (R513, 30_encoding R259, U14; log 36). -/
def State.cop2 (s : State) : Result :=
  if s.cp0.status.cu.getLsbD 2 then .refused .coprocessor2 else s.trap (.cpu 2)

/-- A reserved COP0 word, a BC0x in a delay slot among them, and the TLB group: unusable, or no meaning (R511, R530;
30_encoding R259, R276; U13; log 36). -/
def State.reservedCop0 (s : State) : Result := s.needCp0 (.refused .reservedCop0)

/-- A 64-bit operation needs Kernel mode or UX (30_encoding R280, D16). -/
def State.need64 (s : State) (r : Result) : Result :=
  if s.cp0.status.allows64 then r else s.trap .ri

end Sys2Proof.Machine
end

