-- ==== Sys2Proof/Machine/Alu.lean ====
section
/-!
DEFINITION. Sys2Proof/Machine/Alu.lean: the ALU immediate instructions (41_alu_immediate R350 to R360) and the
three-operand register instructions (42_alu_three_operand R370 to R384).
-/

namespace Sys2Proof.Machine

/-! ## Shared operations -/

/-- A result into a register, and the next instruction. -/
def State.result (s : State) (rd : Reg) (v : DWord) : Result := (s.setReg rd v).done

/-- Any value into a register (U1), and the next instruction. -/
def State.resultFree (s : State) (rd : Reg) : Result := (s.setReg rd (s.free 64)).drawn.done

/-- A 32-bit result, sign-extended (10_state R31); any value when an operand was not sign-extended (U1). -/
def State.result32 (s : State) (valid : Bool) (rd : Reg) (v : Word) : Result :=
  if valid then s.result rd (sext32 v) else s.resultFree rd

/-- ADD, ADDI and SUB: the exact sum or difference `x` of two 32-bit operands, or Integer Overflow (R351, R371, R373).
With an operand that is not sign-extended the exception may or may not come (U1). -/
def State.arith32 (s : State) (valid : Bool) (rd : Reg) (x : Int) : Result :=
  if valid then
    if overflows 32 x then s.trap .ov else s.result rd (sext32 (BitVec.ofInt 32 x))
  else if s.freeBool then s.drawn.trap .ov
  else s.drawn.resultFree rd

/-- DADD, DADDI and DSUB: the exact sum or difference `x`, or Integer Overflow (R359, R381, R383). -/
def State.arith64 (s : State) (rd : Reg) (x : Int) : Result :=
  if overflows 64 x then s.trap .ov else s.result rd (BitVec.ofInt 64 x)

/-- The result of a set-on-less-than (R353, R354, R379, R380). -/
def flagWord (b : Bool) : DWord := if b then 1 else 0

/-! ## Immediate forms -/

/-- ADDI (R351). -/
def execAddi (rs rt : Reg) (imm : BitVec 16) (s : State) : Result :=
  s.arith32 (isSext32 (s.reg rs)) rt ((s.reg rs).toInt + (sextImm imm).toInt)
/-- ADDIU (R352). -/
def execAddiu (rs rt : Reg) (imm : BitVec 16) (s : State) : Result :=
  s.result32 (isSext32 (s.reg rs)) rt (low32 (s.reg rs + sextImm imm))
/-- SLTI (R353). -/
def execSlti (rs rt : Reg) (imm : BitVec 16) (s : State) : Result :=
  s.result rt (flagWord ((s.reg rs).slt (sextImm imm)))
/-- SLTIU (R354). -/
def execSltiu (rs rt : Reg) (imm : BitVec 16) (s : State) : Result :=
  s.result rt (flagWord ((s.reg rs).ult (sextImm imm)))
/-- ANDI (R355). -/
def execAndi (rs rt : Reg) (imm : BitVec 16) (s : State) : Result := s.result rt (s.reg rs &&& zextImm imm)
/-- ORI (R356). -/
def execOri (rs rt : Reg) (imm : BitVec 16) (s : State) : Result := s.result rt (s.reg rs ||| zextImm imm)
/-- XORI (R357). -/
def execXori (rs rt : Reg) (imm : BitVec 16) (s : State) : Result := s.result rt (s.reg rs ^^^ zextImm imm)
/-- LUI (R358). -/
def execLui (rt : Reg) (imm : BitVec 16) (s : State) : Result := s.result rt (sext32 (imm ++ 0#16))
/-- DADDI, a 64-bit operation (R359). -/
def execDaddi (rs rt : Reg) (imm : BitVec 16) (s : State) : Result :=
  s.need64 (s.arith64 rt ((s.reg rs).toInt + (sextImm imm).toInt))
/-- DADDIU, a 64-bit operation (R360). -/
def execDaddiu (rs rt : Reg) (imm : BitVec 16) (s : State) : Result :=
  s.need64 (s.result rt (s.reg rs + sextImm imm))

/-! ## Register forms -/

/-- Are both 32-bit operands sign-extended (R370)? -/
def State.bothSext32 (s : State) (rs rt : Reg) : Bool := isSext32 (s.reg rs) && isSext32 (s.reg rt)

/-- ADD (R371). -/
def execAdd (rs rt rd : Reg) (s : State) : Result :=
  s.arith32 (s.bothSext32 rs rt) rd ((s.reg rs).toInt + (s.reg rt).toInt)
/-- ADDU (R372). -/
def execAddu (rs rt rd : Reg) (s : State) : Result :=
  s.result32 (s.bothSext32 rs rt) rd (low32 (s.reg rs + s.reg rt))
/-- SUB (R373). -/
def execSub (rs rt rd : Reg) (s : State) : Result :=
  s.arith32 (s.bothSext32 rs rt) rd ((s.reg rs).toInt - (s.reg rt).toInt)
/-- SUBU (R374). -/
def execSubu (rs rt rd : Reg) (s : State) : Result :=
  s.result32 (s.bothSext32 rs rt) rd (low32 (s.reg rs - s.reg rt))
/-- AND (R375). -/
def execAnd (rs rt rd : Reg) (s : State) : Result := s.result rd (s.reg rs &&& s.reg rt)
/-- OR (R376). -/
def execOr (rs rt rd : Reg) (s : State) : Result := s.result rd (s.reg rs ||| s.reg rt)
/-- XOR (R377). -/
def execXor (rs rt rd : Reg) (s : State) : Result := s.result rd (s.reg rs ^^^ s.reg rt)
/-- NOR (R378). -/
def execNor (rs rt rd : Reg) (s : State) : Result := s.result rd (~~~(s.reg rs ||| s.reg rt))
/-- SLT (R379). -/
def execSlt (rs rt rd : Reg) (s : State) : Result := s.result rd (flagWord ((s.reg rs).slt (s.reg rt)))
/-- SLTU (R380). -/
def execSltu (rs rt rd : Reg) (s : State) : Result := s.result rd (flagWord ((s.reg rs).ult (s.reg rt)))
/-- DADD, a 64-bit operation (R381). -/
def execDadd (rs rt rd : Reg) (s : State) : Result :=
  s.need64 (s.arith64 rd ((s.reg rs).toInt + (s.reg rt).toInt))
/-- DADDU, a 64-bit operation (R382). -/
def execDaddu (rs rt rd : Reg) (s : State) : Result := s.need64 (s.result rd (s.reg rs + s.reg rt))
/-- DSUB, a 64-bit operation (R383). -/
def execDsub (rs rt rd : Reg) (s : State) : Result :=
  s.need64 (s.arith64 rd ((s.reg rs).toInt - (s.reg rt).toInt))
/-- DSUBU, a 64-bit operation (R384). -/
def execDsubu (rs rt rd : Reg) (s : State) : Result := s.need64 (s.result rd (s.reg rs - s.reg rt))

end Sys2Proof.Machine
end

