-- ==== Sys2Proof/Machine/Branch.lean ====
section
/-!
DEFINITION. Sys2Proof/Machine/Branch.lean: jumps and branches (45_jump_branch R440 to R474).
-/

namespace Sys2Proof.Machine

/-! ## Conditions on all 64 bits (R454 to R459) -/

/-- GPR[rs] <= 0, signed (R456). -/
def State.leZero (s : State) (rs : Reg) : Bool := (s.reg rs).msb || s.reg rs == 0

/-- GPR[rs] < 0, signed (R458). -/
def State.ltZero (s : State) (rs : Reg) : Bool := (s.reg rs).msb

/-- A branch on a condition (R441 to R446). -/
def State.branchOn (s : State) (cond likely : Bool) (offset : BitVec 16) : Result :=
  s.outsideSlot (s.branch cond likely offset)

/-- A branch that links: r31 is written whether or not it is taken; the condition reads the old r31 (R445, R460). -/
def State.branchLink (s : State) (cond likely : Bool) (offset : BitVec 16) : Result :=
  s.outsideSlot ((s.setReg 31 (s.pc + 8)).branch cond likely offset)

/-- A branch on the FPU condition: the usability test comes first, in a delay slot too (30_encoding R259, 47_coprocessor_cp0
R512; log 36); right behind an instruction that writes the C bit it may go either way (R470, U20). -/
def State.branchFpu (s : State) (sense likely : Bool) (offset : BitVec 16) : Result :=
  s.needCp1 <| s.outsideSlot <|
    if s.hazards.afterCond then s.drawn.branch (s.freeBool == sense) likely offset
    else s.branch (s.fpu.fcr31.c == sense) likely offset

/-! ## Jumps -/

/-- J (R450). -/
def execJ (target : BitVec 26) (s : State) : Result :=
  s.outsideSlot (.next (s.branchTo (jumpTarget s.pc target)))
/-- JAL (R451). -/
def execJal (target : BitVec 26) (s : State) : Result :=
  s.outsideSlot (.next ((s.setReg 31 (s.pc + 8)).branchTo (jumpTarget s.pc target)))
/-- JR (R452). -/
def execJr (rs : Reg) (s : State) : Result := s.outsideSlot (.next (s.branchTo (s.reg rs)))
/-- JALR (R453); rd = rs has no meaning (R445, U19). -/
def execJalr (rs rd : Reg) (s : State) : Result :=
  s.outsideSlot <|
    if rd = rs then .refused .jalrSameRegister
    else .next ((s.setReg rd (s.pc + 8)).branchTo (s.reg rs))

/-! ## Ordinary branches -/

/-- BEQ (R454). -/
def execBeq (rs rt : Reg) (offset : BitVec 16) (s : State) : Result :=
  s.branchOn (s.reg rs == s.reg rt) false offset
/-- BNE (R455). -/
def execBne (rs rt : Reg) (offset : BitVec 16) (s : State) : Result :=
  s.branchOn (s.reg rs != s.reg rt) false offset
/-- BLEZ (R456). -/
def execBlez (rs : Reg) (offset : BitVec 16) (s : State) : Result := s.branchOn (s.leZero rs) false offset
/-- BGTZ (R457). -/
def execBgtz (rs : Reg) (offset : BitVec 16) (s : State) : Result := s.branchOn (!s.leZero rs) false offset
/-- BLTZ (R458). -/
def execBltz (rs : Reg) (offset : BitVec 16) (s : State) : Result := s.branchOn (s.ltZero rs) false offset
/-- BGEZ (R459). -/
def execBgez (rs : Reg) (offset : BitVec 16) (s : State) : Result := s.branchOn (!s.ltZero rs) false offset
/-- BLTZAL (R460). -/
def execBltzal (rs : Reg) (offset : BitVec 16) (s : State) : Result := s.branchLink (s.ltZero rs) false offset
/-- BGEZAL (R461). -/
def execBgezal (rs : Reg) (offset : BitVec 16) (s : State) : Result := s.branchLink (!s.ltZero rs) false offset

/-! ## Likely branches -/

/-- BEQL (R462). -/
def execBeql (rs rt : Reg) (offset : BitVec 16) (s : State) : Result :=
  s.branchOn (s.reg rs == s.reg rt) true offset
/-- BNEL (R463). -/
def execBnel (rs rt : Reg) (offset : BitVec 16) (s : State) : Result :=
  s.branchOn (s.reg rs != s.reg rt) true offset
/-- BLEZL (R464). -/
def execBlezl (rs : Reg) (offset : BitVec 16) (s : State) : Result := s.branchOn (s.leZero rs) true offset
/-- BGTZL (R465). -/
def execBgtzl (rs : Reg) (offset : BitVec 16) (s : State) : Result := s.branchOn (!s.leZero rs) true offset
/-- BLTZL (R466). -/
def execBltzl (rs : Reg) (offset : BitVec 16) (s : State) : Result := s.branchOn (s.ltZero rs) true offset
/-- BGEZL (R467). -/
def execBgezl (rs : Reg) (offset : BitVec 16) (s : State) : Result := s.branchOn (!s.ltZero rs) true offset
/-- BLTZALL (R468). -/
def execBltzall (rs : Reg) (offset : BitVec 16) (s : State) : Result := s.branchLink (s.ltZero rs) true offset
/-- BGEZALL (R469). -/
def execBgezall (rs : Reg) (offset : BitVec 16) (s : State) : Result := s.branchLink (!s.ltZero rs) true offset

/-! ## Branches on the FPU condition -/

/-- BC1F (R471). -/
def execBc1f (offset : BitVec 16) (s : State) : Result := s.branchFpu false false offset
/-- BC1T (R472). -/
def execBc1t (offset : BitVec 16) (s : State) : Result := s.branchFpu true false offset
/-- BC1FL (R473). -/
def execBc1fl (offset : BitVec 16) (s : State) : Result := s.branchFpu false true offset
/-- BC1TL (R474). -/
def execBc1tl (offset : BitVec 16) (s : State) : Result := s.branchFpu true true offset

end Sys2Proof.Machine
end

