-- ==== Sys2Proof/Machine/Cache.lean ====
section
/-!
DEFINITION. Sys2Proof/Machine/Cache.lean: the two primary caches as storage: lookup, victim selection, refill,
write-back, parity (21_caches R200 to R230; 80_system_interface R830, R856).
-/

namespace Sys2Proof.Machine

/-! ## Lines -/

/-- The line index of an address, bits 11:5 (R200). -/
def lineIndex (a : Word) : BitVec 7 := a.extractLsb' 5 7

/-- The tag of a physical address, bits 31:12 (R200). -/
def lineTag (pa : Word) : BitVec 20 := pa.extractLsb' 12 20

/-- The physical address of the first byte of the line with a tag and an index (R214, R215). -/
def lineBase (tag : BitVec 20) (i : BitVec 7) : Nat := (tag ++ i ++ 0#5).toNat

/-- The line of way `w` at index `i`. -/
def DCache.line (c : DCache) (w : Way) (i : BitVec 7) : DLine :=
  match w with
  | .a => c.a[i.toNat]
  | .b => c.b[i.toNat]

/-- That line replaced. -/
def DCache.setLine (c : DCache) (w : Way) (i : BitVec 7) (l : DLine) : DCache :=
  match w with
  | .a => { c with a := c.a.set i.toNat l }
  | .b => { c with b := c.b.set i.toNat l }

/-- The line of way `w` at index `i`. -/
def ICache.line (c : ICache) (w : Way) (i : BitVec 7) : ILine :=
  match w with
  | .a => c.a[i.toNat]
  | .b => c.b[i.toNat]

/-- That line replaced. -/
def ICache.setLine (c : ICache) (w : Way) (i : BitVec 7) (l : ILine) : ICache :=
  match w with
  | .a => { c with a := c.a.set i.toNat l }
  | .b => { c with b := c.b.set i.toNat l }

/-- Any state but Invalid is valid (R205). -/
def DLine.valid (l : DLine) : Bool := l.cs != 0

/-- A line that a write-back must send to memory: valid, with W = 1 (R202, R214). -/
def DLine.dirty (l : DLine) : Bool := l.valid && l.w

/-- The parity bit of a data-cache tag: PTag and CS (R202). -/
def dTagParity (tag : BitVec 20) (cs : BitVec 2) : Bool := parity (tag ++ cs)

/-- The parity bit of an instruction-cache tag: PTag and V (R201). -/
def iTagParity (tag : BitVec 20) (v : Bool) : Bool := parity (tag ++ bit v)

/-! ## Lookup (R207) -/

/-- What a lookup finds. Only valid lines count: that a valid and an invalid way holding one tag are a plain hit is the
model's reading, since R207 speaks of the tag comparisons alone (log 35). -/
inductive Lookup where
  | hit (w : Way)
  | miss
  /-- Both ways hold the tag (U8). -/
  | both
deriving DecidableEq, Repr

/-- The answer of the two tag comparisons. -/
def lookupOf (hitA hitB : Bool) : Lookup :=
  match hitA, hitB with
  | true, true => .both
  | true, false => .hit .a
  | false, true => .hit .b
  | false, false => .miss

/-- The data cache looked up at a physical address. -/
def DCache.lookup (c : DCache) (pa : Word) : Lookup :=
  let i := lineIndex pa
  lookupOf (c.a[i.toNat].valid && c.a[i.toNat].tag == lineTag pa) (c.b[i.toNat].valid && c.b[i.toNat].tag == lineTag pa)

/-- The instruction cache looked up at a physical address. -/
def ICache.lookup (c : ICache) (pa : Word) : Lookup :=
  let i := lineIndex pa
  lookupOf (c.a[i.toNat].valid && c.a[i.toNat].tag == lineTag pa) (c.b[i.toNat].valid && c.b[i.toNat].tag == lineTag pa)

/-! ## Victim selection (R208, D12; 70_reset_and_hazards R776) -/

/-- The way to refill: `fA` says that A was refilled last; in the hazard window of a lock bit the choice between two
valid ways is `choice` (U23). -/
def victimOf (validA validB lock fA inWindow choice : Bool) : Way :=
  if !validA then .a
  else if !validB then .b
  else if inWindow then (if choice then .a else .b)
  else if lock then .b
  else if fA then .b
  else .a

/-- The victim of a data-cache refill at index `i`. -/
def State.dVictim (s : State) (i : BitVec 7) : Way :=
  victimOf (s.dcache.line .a i).valid (s.dcache.line .b i).valid s.cp0.status.dl (s.dcache.line .a i).f
    (decide (0 < s.hazards.dlWindow)) s.freeBool

/-- The victim of an instruction-cache refill at index `i`. -/
def State.iVictim (s : State) (i : BitVec 7) : Way :=
  victimOf (s.icache.line .a i).valid (s.icache.line .b i).valid s.cp0.status.il (s.icache.line .a i).f
    (decide (0 < s.hazards.ilWindow)) s.freeBool

/-! ## The line containing an address, as the bus returns it -/

/-- The physical addresses of the 32 bytes of a line. -/
def lineBytes (base : Nat) : List Nat := (List.range 32).map (base + ·)

/-- The first byte of the line containing `pa`. -/
def lineBaseOf (pa : Word) : Nat := lineBase (lineTag pa) (lineIndex pa)

/-- The number of bytes of a bus word. -/
def State.busWidth (s : State) : Nat := if s.boot.bus32 then 4 else 8

/-- The addresses of the bus word that holds the byte at `x`. -/
def State.busWord (s : State) (x : Nat) : List Nat := (List.range s.busWidth).map (x / s.busWidth * s.busWidth + ·)

/-- The lowest of some addresses. -/
def lowest : List Nat → Nat
  | [] => 0
  | [x] => x
  | x :: xs => min x (lowest xs)

/-- The first data element of a block read for an access to the bytes `xs`: the doubleword, or word on a 32-bit bus, of
the lowest-addressed byte the access touches (80_system_interface R822, R830; 20_memory R190). With ReverseEndian that is the
byte lowest behind the inversion of the address (log 46). -/
def State.firstElement (s : State) (xs : List Nat) : List Nat := s.busWord (lowest xs)

/-- The bus words of a single read of the bytes `xs`: parity is checked over all their bytes (80_system_interface R856). -/
def State.busWords (s : State) (xs : List Nat) : List Nat := xs.flatMap s.busWord

/-! ### The platform's answers (80_system_interface R868; log 7) -/

/-- The byte a read of the bus returns for the physical address `x`: any value from a device, and where nothing is in an
element whose error bit is ignored (20_memory R190). -/
def State.busByte (s : State) (x : Nat) : Byte :=
  match kindAt s.platform x with
  | some .device => (Config.freeBits 256 s.fresh).extractLsb' (8 * (x % 32)) 8
  | some .nothing => (Config.freeBits 256 s.fresh).extractLsb' (8 * (x % 32)) 8
  | _ => s.mem.get x

/-- Does that byte come with bad parity? From a device, either way. -/
def State.busBad (s : State) (x : Nat) : Bool :=
  match kindAt s.platform x with
  | some .badParity => true
  | some .device => (Config.freeBits 32 s.fresh).getLsbD (x % 32)
  | _ => false

/-- Is the answer for the bytes `xs` marked erroneous? Where nothing is, always; from a device, either way. -/
def State.busError (s : State) (xs : List Nat) : Bool :=
  anyOf .nothing s.platform xs || (anyOf .device s.platform xs && (Config.freeBits 3 s.fresh).getLsbD 0)

/-- The bytes of the line containing `pa` as the bus returns them. -/
def State.busLine (s : State) (pa : Word) : Vector Byte 32 := Vector.ofFn fun k => s.busByte (lineBaseOf pa + k.val)

/-! ## The data cache -/

/-- Is `l`, at index `i`, the line of the linked address (R247)? -/
def State.linkedLine (s : State) (i : BitVec 7) (l : DLine) : Bool :=
  s.llSeen && l.valid && lineIndex s.llAddr == i && lineTag s.llAddr == l.tag

/-- A line of the data cache replaced; a change of tag or state of the linked line clears LLbit (R247; 40_load_store
R330). -/
def State.setDLine (s : State) (w : Way) (i : BitVec 7) (l : DLine) : State :=
  let old := s.dcache.line w i
  { s with
    dcache := s.dcache.setLine w i l
    llBit := s.llBit && !(s.linkedLine i old && (l.tag != old.tag || l.cs != old.cs)) }

/-- "A was refilled last" (R208, D12): F of way A after a refill of way `w`. F of a refilled line of way B is complemented
(R202, R214), which no rule reads but Index Load Tag (log 21). -/
def State.setDFifo (s : State) (w : Way) (i : BitVec 7) : State :=
  let l := s.dcache.line .a i
  { s with dcache := s.dcache.setLine .a i { l with f := w == .a } }

/-- 32 bytes written to memory from `base` on, through the write buffer (R215; 20_memory R177). -/
def State.writeLine (s : State) (base : Nat) (data : Vector Byte 32) : State :=
  { s with mem := writeBytes s.platform s.mem ((lineBytes base).zip data.toList) }.buffered (bufferedLine base)

/-- The 32 bytes of a line written to memory, to the address its tag gives (R215). -/
def State.writeBackLine (s : State) (i : BitVec 7) (l : DLine) : State := s.writeLine (lineBase l.tag i) l.data

/-- The victim's write-back, when it is dirty (R214 step 2). -/
def State.evict (s : State) (w : Way) (i : BitVec 7) : State :=
  if (s.dcache.line w i).dirty then s.writeBackLine i (s.dcache.line w i) else s

/-- The line a refill at `pa` brings (R214 step 4, R205). -/
def State.dRefilled (s : State) (pa : Word) (f : Bool) : DLine :=
  let d := s.busLine pa
  { tag := lineTag pa
    tagHi := 0
    cs := 3
    w := false
    wPar := false
    f := f
    tagPar := dTagParity (lineTag pa) 3
    data := d
    par := Vector.ofFn fun k => xor (parity d[k]) (s.busBad (lineBaseOf pa + k.val)) }

/-- What a refill does before its line is installed: it draws its free values (the victim choice, the platform's answers),
drains the write buffer, reads, and then writes a dirty victim back (R214; 20_memory R176, R177). -/
def State.dRefillBegun (s : State) (w : Way) (i : BitVec 7) : State :=
  (s.drawn.drained.inTransit { instr := false, way := w, index := i }).evict w i

/-- A refill of the data cache at `pa` (R214). -/
def State.dRefill (s : State) (pa : Word) : State :=
  let i := lineIndex pa
  let w := s.dVictim i
  let l := s.dRefilled pa (!(s.dcache.line w i).f)
  ((s.dRefillBegun w i).setDLine w i l).setDFifo w i

/-- What a refill that ends in a Bus Error leaves (R214, U9): the victim written back, the line invalid, its tag and data
any value. -/
def State.dRefillFailed (s : State) (pa : Word) : State :=
  let i := lineIndex pa
  let w := s.dVictim i
  let s1 := s.dRefillBegun w i
  let old := s.dcache.line w i
  let tag := Config.freeBits 20 s1.fresh
  let d := Config.freeBits 256 (s1.fresh + 1)
  let p := Config.freeBits 32 (s1.fresh + 2)
  let s2 := s1.setDLine w i
    { old with
      tag := tag
      cs := 0
      w := false
      wPar := false
      tagPar := dTagParity tag 0
      data := Vector.ofFn fun k => d.extractLsb' (8 * k.val) 8
      par := Vector.ofFn fun k => p.getLsbD k.val }
  { s2 with fresh := s1.fresh + 3 }

/-- Is some byte at the addresses `xs` of the line wrong in parity (R230)? -/
def DLine.badData (l : DLine) (xs : List Nat) : Bool :=
  xs.any fun x => l.par[x % 32] != parity l.data[x % 32]

/-- Is the parity of tag and state, or of W, wrong (R230)? -/
def DLine.badTag (l : DLine) : Bool := l.tagPar != dTagParity l.tag l.cs || l.wPar != l.w

/-- The ECC bit of the byte at offset `k` of a doubleword: bit j covers bits 8j+7:8j (log 46). -/
def eccBit (bigEndian : Bool) (ecc : BitVec 8) (k : Nat) : Bool :=
  ecc.getLsbD (if bigEndian then 7 - k % 8 else k % 8)

/-- The bytes of a store put into a line, with their parity: computed, or from ECC when Status.CE = 1 (R213, R230). -/
def DLine.putBytes (l : DLine) (par : Nat → Byte → Bool) : List (Nat × Byte) → DLine
  | [] => l
  | (x, b) :: ws =>
    DLine.putBytes { l with data := l.data.set (x % 32) b, par := l.par.set (x % 32) (par x b) } par ws

/-- The parity a store writes for byte `b` at address `x` (R230). -/
def State.storeParity (s : State) (x : Nat) (b : Byte) : Bool :=
  if s.cp0.status.ce then eccBit s.boot.bigEndian s.cp0.ecc x else parity b

/-! ## The instruction cache -/

/-- Did the word at offset `k` of the line containing `pa` arrive with bad word parity? The byte parity bits are XORed in
groups of four (80_system_interface R855), so that two wrong bits give a good one. -/
def State.busBadWord (s : State) (pa : Word) (k : Nat) : Bool :=
  let b := lineBaseOf pa + k
  xor (xor (s.busBad b) (s.busBad (b + 1))) (xor (s.busBad (b + 2)) (s.busBad (b + 3)))

/-- The line a refill at `pa` brings (R214 step 4, R220). -/
def State.iRefilled (s : State) (pa : Word) (f : Bool) : ILine :=
  let d := s.busLine pa
  { tag := lineTag pa
    tagHi := 0
    valid := true
    f := f
    tagPar := iTagParity (lineTag pa) true
    data := d
    par := Vector.ofFn fun k =>
      xor
        (xor (xor (parity d[4 * k.val]) (parity d[4 * k.val + 1])) (xor (parity d[4 * k.val + 2]) (parity d[4 * k.val + 3])))
        (s.busBadWord pa (4 * k.val)) }

/-- A line of the instruction cache replaced. -/
def State.setILine (s : State) (w : Way) (i : BitVec 7) (l : ILine) : State :=
  { s with icache := s.icache.setLine w i l }

/-- "A was refilled last" for the instruction cache (R208, D12). -/
def State.setIFifo (s : State) (w : Way) (i : BitVec 7) : State :=
  let l := s.icache.line .a i
  { s with icache := s.icache.setLine .a i { l with f := w == .a } }

/-- What a refill does before its line is installed, as in the data cache, but nothing is written back (R220). -/
def State.iRefillBegun (s : State) (w : Way) (i : BitVec 7) : State :=
  s.drawn.drained.inTransit { instr := true, way := w, index := i }

/-- A refill of way `w` of the instruction cache at `pa`, `l` being the line it brings (R214, R220). -/
def State.iInstall (s : State) (w : Way) (pa : Word) (l : ILine) : State :=
  ((s.iRefillBegun w (lineIndex pa)).setILine w (lineIndex pa) l).setIFifo w (lineIndex pa)

/-- A refill of the instruction cache at `pa` (R214, R220). -/
def State.iRefill (s : State) (pa : Word) : State :=
  let w := s.iVictim (lineIndex pa)
  s.iInstall w pa (s.iRefilled pa (!(s.icache.line w (lineIndex pa)).f))

/-- What a refill of way `w` of the instruction cache that ends in a Bus Error leaves (U9). -/
def State.iFailed (s : State) (w : Way) (pa : Word) : State :=
  let i := lineIndex pa
  let s1 := s.iRefillBegun w i
  let old := s.icache.line w i
  let tag := Config.freeBits 20 s1.fresh
  let d := Config.freeBits 256 (s1.fresh + 1)
  let p := Config.freeBits 8 (s1.fresh + 2)
  let s2 := s1.setILine w i
    { old with
      tag := tag
      valid := false
      tagPar := iTagParity tag false
      data := Vector.ofFn fun k => d.extractLsb' (8 * k.val) 8
      par := Vector.ofFn fun k => p.getLsbD k.val }
  { s2 with fresh := s1.fresh + 3 }

/-- The same for the refill of a fetch. -/
def State.iRefillFailed (s : State) (pa : Word) : State := s.iFailed (s.iVictim (lineIndex pa)) pa

/-- The four bytes of the word at offset `k` (a multiple of 4) of a line. -/
def ILine.wordBytes (l : ILine) (k : Nat) : List Byte :=
  [l.data[k % 32], l.data[(k + 1) % 32], l.data[(k + 2) % 32], l.data[(k + 3) % 32]]

/-- Is the parity of the word at offset `k` of the line wrong (R230)? -/
def ILine.badData (l : ILine) (k : Nat) : Bool :=
  l.par[k / 4 % 8] != ((l.wordBytes k).map parity).foldl xor false

/-- Is the parity of the tag wrong (R230)? -/
def ILine.badTag (l : ILine) : Bool := l.tagPar != iTagParity l.tag l.valid

end Sys2Proof.Machine
end

