-- ==== Sys2Proof/Machine/Access.lean ====
section
/-!
DEFINITION. Sys2Proof/Machine/Access.lean: reaching memory: translation, the order of the checks of one access, loads,
stores and fetches through the caches (20_memory R141 to R191; 21_caches R210 to R220; 60_exceptions R679 to R696).
-/

namespace Sys2Proof.Machine

/-! ## What a memory operation answers -/

/-- A memory operation gives a value and the state after it, or has taken an exception, or stops. -/
inductive Access (α : Type) where
  | ok (v : α) (s : State)
  /-- An exception was taken: the state at its vector. -/
  | trap (s : State)
  | fault (r : Fault)
  | refused (r : Refusal)

/-- One memory operation after another. -/
def Access.bind {α β : Type} (x : Access α) (f : α → State → Access β) : Access β :=
  match x with
  | .ok v s => f v s
  | .trap s => .trap s
  | .fault r => .fault r
  | .refused r => .refused r

/-- The answer of an instruction that ends with `f` when its memory operation gives a value. -/
def Access.finish {α : Type} (x : Access α) (f : α → State → Result) : Result :=
  match x with
  | .ok v s => f v s
  | .trap s => .next s
  | .fault r => .fault r
  | .refused r => .refused r

/-! ## Translation (R145 to R148) -/

/-- What a translation gives. -/
inductive Translation where
  /-- The physical address and the code of the cache algorithm. -/
  | ok (pa : Word) (alg : BitVec 3)
  /-- A kernel address in User mode (R146). -/
  | kernelAddress
  /-- A kuseg address above the bound (R147). -/
  | outOfBounds
deriving DecidableEq, Repr

/-- AddressTranslation (R148) for the given base and bound. -/
def translate (user : Bool) (base : BitVec 20) (bound : BitVec 19) (calg : Word) (va : Word) : Translation :=
  let alg := calgField calg (va.extractLsb' 29 3)
  if va.msb then
    if user then .kernelAddress else .ok (0#3 ++ va.extractLsb' 0 29) alg
  else if bound.toNat < (va.extractLsb' 12 19).toNat then .outOfBounds
  else .ok ((va.extractLsb' 12 20 + base) ++ va.extractLsb' 0 12) alg

/-- Translation of a data address (kind DATA). -/
def State.translateData (s : State) (va : DWord) : Translation :=
  translate s.userMode s.cp0.dbase s.cp0.dbound s.cp0.calg (low32 va)

/-- Translation of the PC (kind INSTRUCTION). -/
def State.translateFetch (s : State) : Translation :=
  translate s.userMode s.cp0.ibase s.cp0.ibound s.cp0.calg (low32 s.pc)

/-! ## The bytes of an access -/

/-- The bytes of one data access: `n` bytes from `back` bytes below the effective address `va` on; `align` is the
alignment it needs (1 for none; R155). All lie in one aligned doubleword (R156). -/
structure Span where
  va : DWord
  back : Nat
  n : Nat
  align : Nat
deriving DecidableEq, Repr

/-- An aligned access of `n` bytes. -/
def aligned (va : DWord) (n : Nat) : Span := { va := va, back := 0, n := n, align := n }

/-- The bytes of a "left" access to the unit of `size` bytes that holds `va` (40_load_store R310, R313, R319, R322). -/
def leftSpan (bigEndian : Bool) (size : Nat) (va : DWord) : Span :=
  let o := va.toNat % size
  if bigEndian then { va := va, back := 0, n := size - o, align := 1 }
  else { va := va, back := o, n := o + 1, align := 1 }

/-- The bytes of a "right" access (R311, R314, R321, R323). -/
def rightSpan (bigEndian : Bool) (size : Nat) (va : DWord) : Span :=
  let o := va.toNat % size
  if bigEndian then { va := va, back := o, n := o + 1, align := 1 }
  else { va := va, back := 0, n := size - o, align := 1 }

/-- The physical addresses of the bytes of an access at ascending virtual addresses, `pa` being the translation of its
effective address: with ReverseEndian the three low bits are inverted (R154). -/
def Span.physical (sp : Span) (reverse : Bool) (pa : Word) : List Nat :=
  (List.range sp.n).map fun k =>
    ((pa - BitVec.ofNat 32 sp.back + BitVec.ofNat 32 k) ^^^ (if reverse then 7 else 0)).toNat

/-! ## The checks before a data access -/

/-- Hazards that leave a load, store or CACHE without meaning (70_reset_and_hazards R772, R778; U22, U23). A doubleword form
that Reserved Instruction stops for its mode, and LDC1 and SDC1, take their exception before this is asked: the model's choice
(log 14). -/
def State.memHazard (s : State) (va : DWord) : Option Refusal :=
  if s.hazards.afterTransWrite then some .memoryBesideTranslationWrite
  else if decide (0 < s.hazards.mappedWindow) && !(low32 va).msb then some .mappedSpaceInWindow
  else none

/-- Translation and alignment of a data access, in the order of R149. -/
def State.dataAddress (s : State) (va : DWord) (align : Nat) (store : Bool) : Access (Word × BitVec 3) :=
  match s.memHazard va with
  | some r => .refused r
  | none =>
    match s.translateData va with
    | .kernelAddress => .trap (s.raised (if store then .adES else .adEL) (some va))
    | .outOfBounds => .trap (s.raised .dBound (some va))
    | .ok pa alg =>
      if va.toNat % align ≠ 0 then .trap (s.raised (if store then .adES else .adEL) (some va))
      else .ok (pa, alg) s

/-- Does this access consult the data cache and have to refill it first (21_caches R212, R213)? -/
def State.needsRefill (s : State) (pa : Word) (alg : BitVec 3) (store : Bool) : Bool :=
  alg != 2 && !(store && alg == 0) && s.dcache.lookup pa == .miss

/-- The physical addresses of which an access makes the bus read. -/
def State.busReads (s : State) (pa : Word) (alg : BitVec 3) (xs : List Nat) (store : Bool) : List Nat :=
  if alg = 2 then (if store then [] else xs)
  else if s.needsRefill pa alg store then lineBytes (lineBaseOf pa)
  else []

/-- The parity error this access detects, if any (60_exceptions R686; 21_caches R230; 80_system_interface R856). A refill
meets the error of its read before that of its victim, which goes out behind it (20_memory R177; log 46). -/
def State.dataParityError (s : State) (va : DWord) (pa : Word) (alg : BitVec 3) (xs : List Nat) (store : Bool) :
    Option ParityError :=
  let err (ed et ee : Bool) : Option ParityError :=
    if ed || et then some { data := true, ed := ed, et := et, ee := ee, pa := pa, va := low32 va } else none
  if s.cp0.status.de then none
  else if alg = 2 then err (!store && (s.busWords xs).any s.busBad) false true
  else
    match s.dcache.lookup pa with
    | .hit w =>
      let l := s.dcache.line w (lineIndex pa)
      if store then none else err (l.badData xs) l.badTag false
    | .both => none
    | .miss =>
      if s.needsRefill pa alg store then
        let i := lineIndex pa
        let old := s.dcache.line (s.dVictim i) i
        if (s.firstElement xs).any s.busBad then err true false true
        else if old.dirty then err (old.badData (lineBytes 0)) old.badTag false
        else none
      else none

/-- Does the address match DWatch (60_exceptions R696)? -/
def State.dwatchMatches (s : State) (va : DWord) (store : Bool) : Bool :=
  (low32 va).extractLsb' 3 29 == s.cp0.dwatch.addr && (if store then s.cp0.dwatch.w else s.cp0.dwatch.r)

/-- Watch exceptions are taken at once, not postponed (60_exceptions R695). -/
def Status.watchNow (t : Status) : Bool := !t.exl && !t.erl

/-- Is this access in the window in which a match may go unnoticed (70_reset_and_hazards R777, U23)? -/
def State.dwatchUnsure (s : State) (va : DWord) (store : Bool) : Bool :=
  s.dwatchMatches va store && decide (0 < s.hazards.dwWindow)

/-- Is the match noticed? Outside the window always; inside it either way (U23). -/
def State.dwatchNoticed (s : State) (va : DWord) (store : Bool) : Bool :=
  s.dwatchMatches va store && (!s.dwatchUnsure va store || s.freeBool)

/-- A match of DWatch is postponed (60_exceptions R695). -/
def State.postponeDwatch (s : State) : State := { s with events := { s.events with dwPend := true } }

/-- A refill of the data cache for an access to the bytes `xs`, with or without a Bus Error (R214, U9). -/
def State.dRefillTried (s : State) (pa : Word) (xs : List Nat) : State :=
  if s.busError (s.firstElement xs) then s.dRefillFailed pa else s.dRefill pa

/-- Does a refill for this access write its dirty victim back to a silent region (80_system_interface R819)? -/
def State.victimHangs (s : State) (pa : Word) (alg : BitVec 3) (store : Bool) : Bool :=
  let i := lineIndex pa
  let old := s.dcache.line (s.dVictim i) i
  s.needsRefill pa alg store && old.dirty && anyOf .silent s.platform (lineBytes (lineBase old.tag i))

/-- How the bus traffic of an access, but for its own store, hangs, if it does: its read is never accepted, or the write-back
behind it (60_exceptions R677; 80_system_interface R819; log 7). -/
def State.busHangs (s : State) (pa : Word) (alg : BitVec 3) (xs : List Nat) (store : Bool) : Option Fault :=
  if anyOf .silent s.platform (s.busReads pa alg xs store) then some .readHangs
  else if s.victimHangs pa alg store then some .writeHangs
  else none

/-- The last part of an access: DWatch, then Bus Error, then the refill when the access needs one (60_exceptions R679,
R695, R687; 21_caches R214). `noticed` says that DWatch matches. A postponed match stays latched when the access then ends
in a Bus Error: the model's choice, for R695 has the instruction execute and R661 allows a killed one no other effect
(log 38). -/
def State.dataRefilled (s : State) (pa : Word) (alg : BitVec 3) (xs : List Nat) (store noticed : Bool) :
    Access Unit :=
  if noticed && s.cp0.status.watchNow then .trap (s.raised (.watch false true) none)
  else
    match s.busHangs pa alg xs store with
    | some r => .fault r
    | none =>
      let s := if noticed then s.postponeDwatch else s
      if alg = 2 then
        if store then .ok () s
        else if s.busError xs then .trap (s.singleRead.raised .dbe none)
        else .ok () s
      else if s.needsRefill pa alg store then
        if s.busError (s.firstElement xs) then .trap ((s.dRefillFailed pa).raised .dbe none)
        else .ok () (s.dRefill pa)
      else .ok () s

/-- A Cache Error of a data access is taken, behind the bus traffic that showed it: a read of the bus, a refill with its
victim's write-back, which goes out marked erroneous (80_system_interface R856, R840; log 46). -/
def State.dataCacheError (s : State) (p : ParityError) (pa : Word) (alg : BitVec 3) (xs : List Nat) (store : Bool) :
    Access Unit :=
  match s.busHangs pa alg xs store with
  | some r => .fault r
  | none =>
    let t :=
      if alg = 2 then s.singleRead
      else if s.needsRefill pa alg store then s.dRefillTried pa xs
      else s
    .trap (t.aged.takeCacheError p)

/-- Everything between the address and the bytes, in the order of 60_exceptions R679: Cache Error first, then
`dataRefilled`. A reserved algorithm (U7) and a hit of both ways (U8) are refused before any of these, a Watch exception among
them: the model's choice, no rule orders them (log 35). -/
def State.dataReady (s : State) (va : DWord) (pa : Word) (alg : BitVec 3) (xs : List Nat) (store : Bool) :
    Access Unit :=
  let noticed := s.dwatchNoticed va store
  let s := if s.dwatchUnsure va store then s.drawn else s
  if calgReserved alg then .refused .reservedCacheAlgorithm
  else if alg != 2 && s.dcache.lookup pa == .both then .refused .duplicateTag
  else
    match s.dataParityError va pa alg xs store with
    | some p => s.dataCacheError p pa alg xs store
    | none => s.dataRefilled pa alg xs store noticed

/-! ## Loads and stores -/

/-- The byte at physical address `x` of the line that holds `pa`, or of memory where no line does. -/
def State.cachedByte (s : State) (pa : Word) (x : Nat) : Byte :=
  match s.dcache.lookup pa with
  | .hit w => (s.dcache.line w (lineIndex pa)).data[x % 32]
  | _ => s.mem.get x

/-- The bytes of a load, once everything is ready (R160 step 4; 21_caches R211, R212). -/
def State.readBytes (s : State) (pa : Word) (alg : BitVec 3) (xs : List Nat) : List Byte :=
  xs.map fun x => if alg = 2 then s.busByte x else s.cachedByte pa x

/-- The state behind the read of a load: a single read of the bus has drained the write buffer (20_memory R176). -/
def State.afterRead (s : State) (alg : BitVec 3) : State := if alg = 2 then s.singleRead else s

/-- A load through the data cache or past it: its bytes at ascending virtual addresses, and its physical address and
algorithm (R160, R312). -/
def State.load (s : State) (sp : Span) : Access (List Byte × Word × BitVec 3) :=
  (s.dataAddress sp.va sp.align false).bind fun (pa, alg) s =>
    let xs := sp.physical s.cp0.status.reverseEndian pa
    (s.dataReady sp.va pa alg xs false).bind fun _ s => .ok (s.readBytes pa alg xs, pa, alg) (s.afterRead alg)

/-- A line stored to under a write-back policy: W set, the state Dirty Exclusive (21_caches R213; 80_system_interface
R845). -/
def DLine.stored (l : DLine) : DLine := { l with w := true, wPar := true, cs := 3, tagPar := dTagParity l.tag 3 }

/-- The bytes of a store, once everything is ready (R161 step 4; 21_caches R211, R213): into the line that holds them,
with W set under algorithm 3; to memory, through the write buffer, unless the algorithm is 3. -/
def State.writeStore (s : State) (va : DWord) (pa : Word) (alg : BitVec 3) (ws : List (Nat × Byte)) : State :=
  let i := lineIndex pa
  let cached :=
    if alg = 2 then s
    else
      match s.dcache.lookup pa with
      | .hit w =>
        let l := (s.dcache.line w i).putBytes s.storeParity ws
        s.setDLine w i (if alg = 3 then l.stored else l)
      | _ => s
  if alg = 3 then cached
  else { cached with mem := writeBytes s.platform s.mem ws }.buffered [bufferedStore (regionOf va) (ws.map Prod.fst)]

/-- The address, the checks and the readiness of a store (R161 steps 1 to 3). -/
def State.storeReady (s : State) (sp : Span) : Access (Word × BitVec 3 × List Nat) :=
  (s.dataAddress sp.va sp.align true).bind fun (pa, alg) s =>
    let xs := sp.physical s.cp0.status.reverseEndian pa
    (s.dataReady sp.va pa alg xs true).bind fun _ s => .ok (pa, alg, xs) s

/-- A store of the bytes `bs`, at ascending virtual addresses (R161, R320); a write that the bus never accepts hangs
(80_system_interface R819). -/
def State.store (s : State) (sp : Span) (bs : List Byte) : Access Unit :=
  (s.storeReady sp).bind fun (pa, alg, xs) s =>
    if alg ≠ 3 ∧ anyOf .silent s.platform xs then .fault .writeHangs
    else .ok () (s.writeStore sp.va pa alg (xs.zip bs))

/-! ## Instruction fetch (R158, R162) -/

/-- Does the PC match IWatch (60_exceptions R694)? -/
def State.iwatchMatches (s : State) : Bool :=
  s.cp0.iwatch.i && (low32 s.pc).extractLsb' 2 30 == s.cp0.iwatch.addr

/-- The IWatch check (R694, R695): a match in the window of R777 may go unnoticed (U23). A postponed match stays latched
when the fetch then ends in a Cache Error or Bus Error: the model's choice (log 38). -/
def State.iwatchCheck (s : State) : Access Unit :=
  if s.iwatchMatches then
    let s1 := if 0 < s.hazards.iwWindow then s.drawn else s
    if decide (0 < s.hazards.iwWindow) && !s.freeBool then .ok () s1
    else if s.cp0.status.watchNow then .trap (s1.takeException (.watch true false) none)
    else .ok () { s1 with events := { s1.events with iwPend := true } }
  else .ok () s

/-- The address of a fetch, in the order of R158 and R149. For an instruction in a delay slot EPC and BD are those of R670, the
branch and 1, where 60_exceptions R681 prints EPC = pc and BD = 0 for every IBound: the model's choice (log 53). -/
def State.fetchAddress (s : State) : Access (Word × BitVec 3) :=
  if decide (0 < s.hazards.mappedWindow) && !(low32 s.pc).msb then .refused .mappedSpaceInWindow
  else
    match s.translateFetch with
    | .kernelAddress => .trap (s.takeException .adEL (some s.pc))
    | .outOfBounds => .trap (s.takeException .iBound (some s.pc))
    | .ok pa alg =>
      if s.pc.toNat % 4 ≠ 0 then .trap (s.takeException .adEL (some s.pc)) else .ok (pa, alg) s

/-- The physical addresses of the word at `pa`. -/
def wordBytes (pa : Word) : List Nat := (List.range 4).map (pa.toNat + ·)

/-- What a parity error of the instruction fetch at `pa` records (R111). -/
def State.fetchParityError (s : State) (pa : Word) (ed et ee : Bool) : ParityError where
  data := false
  ed := ed
  et := et
  ee := ee
  pa := pa
  va := low32 s.pc

/-- The word of an uncached fetch (21_caches R211): Cache Error, then Bus Error. -/
def State.fetchUncached (s : State) (pa : Word) : Access Word :=
  let xs := wordBytes pa
  if anyOf .silent s.platform xs then .fault .readHangs
  else if !s.cp0.status.de && (s.busWords xs).any s.busBad then
    .trap (s.singleRead.takeCacheError (s.fetchParityError pa true false true))
  else if s.busError xs then .trap (s.singleRead.takeException .ibe none)
  else .ok (BitVec.ofNat 32 (fromBytes s.boot.bigEndian (xs.map s.busByte))) s.singleRead

/-- The word at `pa` of line `l`, as Config.BE orders its bytes (20_memory R154). -/
def State.wordOfLine (s : State) (l : ILine) (pa : Word) : Word :=
  BitVec.ofNat 32 (fromBytes s.boot.bigEndian (l.wordBytes (pa.toNat % 32)))

/-- The word of a cached fetch that hits way `w` (21_caches R212, R220, R230). -/
def State.fetchHit (s : State) (pa : Word) (w : Way) : Access Word :=
  let l := s.icache.line w (lineIndex pa)
  if !s.cp0.status.de && (l.badData (pa.toNat % 32) || l.badTag) then
    .trap (s.takeCacheError (s.fetchParityError pa (l.badData (pa.toNat % 32)) l.badTag false))
  else .ok (s.wordOfLine l pa) s

/-- The word of a cached fetch: a miss refills first (21_caches R220, R214). The first element of the block read is checked by
the parity of its bytes as they arrive: 80_system_interface R856 has both "bad parity for the first data" and "checked just
as if it had been read out of the cache", and the two differ where two bytes of a word are wrong (log 46). -/
def State.fetchCached (s : State) (pa : Word) : Access Word :=
  match s.icache.lookup pa with
  | .both => .refused .duplicateTag
  | .hit w => s.fetchHit pa w
  | .miss =>
    let first := s.firstElement (wordBytes pa)
    if anyOf .silent s.platform (lineBytes (lineBaseOf pa)) then .fault .readHangs
    else if !s.cp0.status.de && first.any s.busBad then
      .trap ((if s.busError first then s.iRefillFailed pa else s.iRefill pa).takeCacheError
        (s.fetchParityError pa true false true))
    else if s.busError first then .trap ((s.iRefillFailed pa).takeException .ibe none)
    else
      let w := s.iVictim (lineIndex pa)
      .ok ((s.iRefill pa).wordOfLine ((s.iRefill pa).icache.line w (lineIndex pa)) pa) (s.iRefill pa)

/-- Fetch(PC): the word of the next instruction (R158, R162); a reserved algorithm has no meaning (U7). The IWatch check comes
before that and before a hit of both ways (U8), which comes before Cache Error: the model's choice (log 35). -/
def State.fetch (s : State) : Access Word :=
  s.fetchAddress.bind fun (pa, alg) s =>
    s.iwatchCheck.bind fun _ s =>
      if alg = 2 then s.fetchUncached pa
      else if calgReserved alg then .refused .reservedCacheAlgorithm
      else s.fetchCached pa

end Sys2Proof.Machine
end

