-- ==== Sys2Proof/Machine/LoadStore.lean ====
section
/-!
DEFINITION. Sys2Proof/Machine/LoadStore.lean: the loads and stores of 40_load_store R300 to R339, LWC1 and SWC1
(49_fpu_instructions R640, R641) among them, and the loads and stores of the absent coprocessor 2.
-/

namespace Sys2Proof.Machine

/-! ## Shared operations -/

/-- The end of a load, store or CACHE: the next instruction stands next to it (70_reset_and_hazards R778). -/
def State.doneMem (s : State) : Result :=
  .next { s.advance with hazards := { s.agedHazards with afterMem := true } }

/-- The value of `n` loaded bytes in a register of 64 bits, sign- or zero-extended. -/
def extendBytes (bigEndian signed : Bool) (n : Nat) (bs : List Byte) : DWord :=
  let v := fromBytes bigEndian bs
  if signed then (BitVec.ofNat (8 * n) v).signExtend 64 else BitVec.ofNat 64 v

/-- An aligned load of `n` bytes into a general register (R303 to R309). -/
def State.loadAligned (s : State) (n : Nat) (signed : Bool) (base rt : Reg) (offset : BitVec 16) : Result :=
  (s.load (aligned (s.ea base offset) n)).finish fun (bs, _, _) s =>
    (s.setReg rt (extendBytes s.bigEndianCpu signed n bs)).doneMem

/-- A store of the `n` low bytes of a value (R315 to R318). -/
def State.storeAligned (s : State) (n v : Nat) (base : Reg) (offset : BitVec 16) : Result :=
  (s.store (aligned (s.ea base offset) n) (toBytes s.bigEndianCpu n v)).finish fun _ s => s.doneMem

/-- A register of `w` bits whose upper 8n bits come from memory (R310, R313). -/
def mergeLeft (w n old v : Nat) : Nat := v * 2 ^ (w - 8 * n) + old % 2 ^ (w - 8 * n)

/-- A register of `w` bits whose lower 8n bits come from memory (R311, R314). -/
def mergeRight (w n old v : Nat) : Nat := old % 2 ^ w / 2 ^ (8 * n) * 2 ^ (8 * n) + v

/-- LWL and LWR: a word register merged from memory and sign-extended (R310, R311). -/
def State.loadWordPart (s : State) (left : Bool) (base rt : Reg) (offset : BitVec 16) : Result :=
  let va := s.ea base offset
  let sp := if left then leftSpan s.bigEndianCpu 4 va else rightSpan s.bigEndianCpu 4 va
  (s.load sp).finish fun (bs, _, _) s =>
    let v := fromBytes s.bigEndianCpu bs
    let old := (low32 (s.reg rt)).toNat
    let new := if left then mergeLeft 32 sp.n old v else mergeRight 32 sp.n old v
    (s.setReg rt (sext32 (BitVec.ofNat 32 new))).doneMem

/-- LDL and LDR: a doubleword register merged from memory (R313, R314). -/
def State.loadDoublePart (s : State) (left : Bool) (base rt : Reg) (offset : BitVec 16) : Result :=
  let va := s.ea base offset
  let sp := if left then leftSpan s.bigEndianCpu 8 va else rightSpan s.bigEndianCpu 8 va
  (s.load sp).finish fun (bs, _, _) s =>
    let v := fromBytes s.bigEndianCpu bs
    let old := (s.reg rt).toNat
    let new := if left then mergeLeft 64 sp.n old v else mergeRight 64 sp.n old v
    (s.setReg rt (BitVec.ofNat 64 new)).doneMem

/-- SWL, SWR, SDL and SDR: the upper or lower bytes of a value of `8 * size` bits (R319, R321 to R323). -/
def State.storePart (s : State) (size : Nat) (left : Bool) (v : Nat) (base : Reg) (offset : BitVec 16) : Result :=
  let va := s.ea base offset
  let sp := if left then leftSpan s.bigEndianCpu size va else rightSpan s.bigEndianCpu size va
  let part := if left then v / 2 ^ (8 * (size - sp.n)) else v
  (s.store sp (toBytes s.bigEndianCpu sp.n part)).finish fun _ s => s.doneMem

/-- LL and LLD: a cached load that sets the link (R327, R328); an uncached one has no meaning (U11). The linked address is the
translation of the effective address, before the inversion of its low bits under ReverseEndian: the model's choice (log
39). An uncached one that takes an exception of its load (Watch, Cache Error, Bus Error), or whose read hangs, does that and
is not refused: the model's choice, for no rule orders U11 against them (log 35). -/
def State.loadLinked (s : State) (n : Nat) (base rt : Reg) (offset : BitVec 16) : Result :=
  (s.load (aligned (s.ea base offset) n)).finish fun (bs, pa, alg) s =>
    if alg = 2 then .refused .linkUncached
    else
      ({ s.setReg rt (extendBytes s.bigEndianCpu true n bs) with llBit := true, llAddr := pa, llSeen := true }).doneMem

/-- The address checks of a store conditional that will not store: translation, alignment and DWatch (R329, D30). -/
def State.conditionalFails (s : State) (va : DWord) : Access Unit :=
  let noticed := s.dwatchNoticed va true
  let s := if s.dwatchUnsure va true then s.drawn else s
  if noticed then
    if s.cp0.status.watchNow then .trap (s.raised (.watch false true) none) else .ok () s.postponeDwatch
  else .ok () s

/-- SC and SCD (R329, R331): the store happens when LLbit is set; the exceptions come either way. Another address than
the last LL's or LLD's has no meaning (U12), but takes a Watch exception first: the model's choice (log 35).
A store that itself moves the linked line from another state to Dirty Exclusive clears LLbit behind it, as R330 has every change
of cache state do, where R329 says that SC leaves LLbit alone: the model's choice too (log 39). -/
def State.storeConditional (s : State) (n v : Nat) (base rt : Reg) (offset : BitVec 16) : Result :=
  let va := s.ea base offset
  (s.dataAddress va n true).finish fun (pa, _) s =>
    if s.llSeen && s.llAddr != pa then
      (s.conditionalFails va).finish fun _ _ => .refused .conditionalElsewhere
    else if s.llBit then
      (s.store (aligned va n) (toBytes s.bigEndianCpu n v)).finish fun _ t => (t.setReg rt 1).doneMem
    else (s.conditionalFails va).finish fun _ t => (t.setReg rt 0).doneMem

/-! ## Aligned loads -/

/-- LB (R303). -/
def execLb (base rt : Reg) (offset : BitVec 16) (s : State) : Result := s.loadAligned 1 true base rt offset
/-- LBU (R304). -/
def execLbu (base rt : Reg) (offset : BitVec 16) (s : State) : Result := s.loadAligned 1 false base rt offset
/-- LH (R305). -/
def execLh (base rt : Reg) (offset : BitVec 16) (s : State) : Result := s.loadAligned 2 true base rt offset
/-- LHU (R306). -/
def execLhu (base rt : Reg) (offset : BitVec 16) (s : State) : Result := s.loadAligned 2 false base rt offset
/-- LW (R307). -/
def execLw (base rt : Reg) (offset : BitVec 16) (s : State) : Result := s.loadAligned 4 true base rt offset
/-- LWU, a 64-bit operation (R308). -/
def execLwu (base rt : Reg) (offset : BitVec 16) (s : State) : Result :=
  s.need64 (s.loadAligned 4 false base rt offset)
/-- LD, a 64-bit operation (R309). -/
def execLd (base rt : Reg) (offset : BitVec 16) (s : State) : Result :=
  s.need64 (s.loadAligned 8 false base rt offset)

/-! ## Unaligned loads -/

/-- LWL (R310). -/
def execLwl (base rt : Reg) (offset : BitVec 16) (s : State) : Result := s.loadWordPart true base rt offset
/-- LWR (R311). -/
def execLwr (base rt : Reg) (offset : BitVec 16) (s : State) : Result := s.loadWordPart false base rt offset
/-- LDL, a 64-bit operation (R313). -/
def execLdl (base rt : Reg) (offset : BitVec 16) (s : State) : Result :=
  s.need64 (s.loadDoublePart true base rt offset)
/-- LDR, a 64-bit operation (R314). -/
def execLdr (base rt : Reg) (offset : BitVec 16) (s : State) : Result :=
  s.need64 (s.loadDoublePart false base rt offset)

/-! ## Aligned stores -/

/-- SB (R315). -/
def execSb (base rt : Reg) (offset : BitVec 16) (s : State) : Result :=
  s.storeAligned 1 (s.reg rt).toNat base offset
/-- SH (R316). -/
def execSh (base rt : Reg) (offset : BitVec 16) (s : State) : Result :=
  s.storeAligned 2 (s.reg rt).toNat base offset
/-- SW (R317). -/
def execSw (base rt : Reg) (offset : BitVec 16) (s : State) : Result :=
  s.storeAligned 4 (s.reg rt).toNat base offset
/-- SD, a 64-bit operation (R318). -/
def execSd (base rt : Reg) (offset : BitVec 16) (s : State) : Result :=
  s.need64 (s.storeAligned 8 (s.reg rt).toNat base offset)

/-! ## Unaligned stores -/

/-- SWL (R319). -/
def execSwl (base rt : Reg) (offset : BitVec 16) (s : State) : Result :=
  s.storePart 4 true (low32 (s.reg rt)).toNat base offset
/-- SWR (R321). -/
def execSwr (base rt : Reg) (offset : BitVec 16) (s : State) : Result :=
  s.storePart 4 false (low32 (s.reg rt)).toNat base offset
/-- SDL, a 64-bit operation (R322). -/
def execSdl (base rt : Reg) (offset : BitVec 16) (s : State) : Result :=
  s.need64 (s.storePart 8 true (s.reg rt).toNat base offset)
/-- SDR, a 64-bit operation (R323). -/
def execSdr (base rt : Reg) (offset : BitVec 16) (s : State) : Result :=
  s.need64 (s.storePart 8 false (s.reg rt).toNat base offset)

/-! ## Load linked and store conditional -/

/-- LL (R327). -/
def execLl (base rt : Reg) (offset : BitVec 16) (s : State) : Result := s.loadLinked 4 base rt offset
/-- LLD, a 64-bit operation (R328). -/
def execLld (base rt : Reg) (offset : BitVec 16) (s : State) : Result := s.need64 (s.loadLinked 8 base rt offset)
/-- SC (R329). -/
def execSc (base rt : Reg) (offset : BitVec 16) (s : State) : Result :=
  s.storeConditional 4 (s.reg rt).toNat base rt offset
/-- SCD, a 64-bit operation (R331). -/
def execScd (base rt : Reg) (offset : BitVec 16) (s : State) : Result :=
  s.need64 (s.storeConditional 8 (s.reg rt).toNat base rt offset)

/-! ## Coprocessor loads and stores -/

/-- LWC1: a word into FGR[ft] (R335; 49_fpu_instructions R640). -/
def execLwc1 (base ft : Reg) (offset : BitVec 16) (s : State) : Result :=
  s.needCp1 <| (s.load (aligned (s.ea base offset) 4)).finish fun (bs, _, _) s =>
    (s.setFgr ft (BitVec.ofNat 32 (fromBytes s.bigEndianCpu bs))).doneMem
/-- SWC1: the word of FGR[ft] (R337; 49_fpu_instructions R641). -/
def execSwc1 (base ft : Reg) (offset : BitVec 16) (s : State) : Result :=
  s.needCp1 (s.storeAligned 4 (s.fgr ft).toNat base offset)
/-- LWC2: there is no coprocessor 2 (R335; 47_coprocessor_cp0 R513). -/
def execLwc2 (_base _rt : Reg) (_offset : BitVec 16) (s : State) : Result := s.cop2
/-- LDC2: there is no coprocessor 2 (R336; 47_coprocessor_cp0 R513). -/
def execLdc2 (_base _rt : Reg) (_offset : BitVec 16) (s : State) : Result := s.cop2
/-- SWC2: there is no coprocessor 2 (R337; 47_coprocessor_cp0 R513). -/
def execSwc2 (_base _rt : Reg) (_offset : BitVec 16) (s : State) : Result := s.cop2
/-- SDC2: there is no coprocessor 2 (R338; 47_coprocessor_cp0 R513). -/
def execSdc2 (_base _rt : Reg) (_offset : BitVec 16) (s : State) : Result := s.cop2

end Sys2Proof.Machine
end

