-- ==== Sys2Proof/Machine/CacheOp.lean ====
section
/-!
DEFINITION. Sys2Proof/Machine/CacheOp.lean: the CACHE instruction (21_caches R234 to R247).
-/

namespace Sys2Proof.Machine

/-- The way an Index operation and Fill select: bit 13 of the virtual address (R235, D14; log 22). -/
def wayOf (va : DWord) : Way := if va.getLsbD 13 then .b else .a

/-- The offset in its line of the doubleword that bits 4:3 of the virtual address select (R236). -/
def doubleOffset (va : DWord) : Nat := va.toNat % 32 / 8 * 8

/-- The cache operations of the table (R235). -/
inductive CacheOperation where
  | indexInvalidateI
  | indexWritebackInvalidateD
  | indexLoadTagI
  | indexLoadTagD
  | indexStoreTagI
  | indexStoreTagD
  | createDirtyExclusiveD
  | hitInvalidateI
  | hitInvalidateD
  | fillI
  | hitWritebackInvalidateD
  | hitWritebackI
  | hitWritebackD
deriving DecidableEq, Repr

/-- The operation that the op field names, if the table has it (R235, U10). Of 0x18 the spec conflicts with itself: R235, R238,
R240 and R246 define Hit Writeback of the instruction cache, and 90_conflicts C14 says that none is defined. The model follows
the rules: its choice (log 24). -/
def cacheOperation (op : BitVec 5) : Option CacheOperation :=
  match op.toNat with
  | 0x00 => some .indexInvalidateI
  | 0x01 => some .indexWritebackInvalidateD
  | 0x04 => some .indexLoadTagI
  | 0x05 => some .indexLoadTagD
  | 0x08 => some .indexStoreTagI
  | 0x09 => some .indexStoreTagD
  | 0x0D => some .createDirtyExclusiveD
  | 0x10 => some .hitInvalidateI
  | 0x11 => some .hitInvalidateD
  | 0x14 => some .fillI
  | 0x15 => some .hitWritebackInvalidateD
  | 0x18 => some .hitWritebackI
  | 0x19 => some .hitWritebackD
  | _ => none

/-! ## Lines changed by an operation -/

/-- The line with another state, its tag parity with it. -/
def DLine.withState (l : DLine) (cs : BitVec 2) : DLine := { l with cs := cs, tagPar := dTagParity l.tag cs }

/-- The line marked invalid, its tag parity with it. -/
def ILine.invalidated (l : ILine) : ILine := { l with valid := false, tagPar := iTagParity l.tag false }

/-- Status.CH (R240). -/
def State.setCh (s : State) (hit : Bool) : State := s.setStatus { s.cp0.status with ch := hit }

/-- TagLo and ECC as Index Load Tag leaves them (R236). -/
def State.setTag (s : State) (t : TagLo) (ecc : BitVec 8) : State :=
  { s with cp0 := { s.cp0 with tagLo := t, ecc := ecc } }

/-- The parity bits of eight bytes as ECC holds them: bit j is the bit of byte j of the doubleword (log 46). -/
def packEcc (par : Nat → Bool) : BitVec 8 :=
  bit (par 7) ++ bit (par 6) ++ bit (par 5) ++ bit (par 4) ++ bit (par 3) ++ bit (par 2) ++ bit (par 1) ++ bit (par 0)

/-- The ECC value of the doubleword at offset `k` of a data-cache line. -/
def DLine.ecc (l : DLine) (bigEndian : Bool) (k : Nat) : BitVec 8 :=
  packEcc fun j => l.par[(k + if bigEndian then 7 - j else j) % 32]

/-- The ECC value of the doubleword at offset `k` of an instruction-cache line: its two word bits (log 46). -/
def ILine.ecc (l : ILine) (bigEndian : Bool) (k : Nat) : BitVec 8 :=
  let lower := l.par[k / 4 % 8]
  let upper := l.par[(k / 4 + 1) % 8]
  packEcc fun j => if j = 0 then (if bigEndian then upper else lower)
    else if j = 1 then (if bigEndian then lower else upper) else false

/-- Index Load Tag of an instruction-cache line (R236). -/
def State.loadTagI (s : State) (l : ILine) (va : DWord) : State :=
  s.setTag { ptag := l.tagHi ++ l.tag, pstate := if l.valid then 3 else 0, f := l.f, p := l.tagPar }
    (l.ecc s.boot.bigEndian (doubleOffset va))

/-- Index Load Tag of a data-cache line (R236). -/
def State.loadTagD (s : State) (l : DLine) (va : DWord) : State :=
  s.setTag { ptag := l.tagHi ++ l.tag, pstate := l.cs, f := l.f, p := l.tagPar }
    (l.ecc s.boot.bigEndian (doubleOffset va))

/-- An instruction-cache line after Index Store Tag (R237). -/
def ILine.storeTag (l : ILine) (t : TagLo) : ILine :=
  let tag := t.ptag.truncate 20
  { l with tag := tag, tagHi := t.ptag.extractLsb' 20 4, valid := t.pstate != 0, f := t.f,
           tagPar := iTagParity tag (t.pstate != 0) }

/-- A data-cache line after Index Store Tag: W is cleared (R237, D15). -/
def DLine.storeTag (l : DLine) (t : TagLo) : DLine :=
  let tag := t.ptag.truncate 20
  { l with tag := tag, tagHi := t.ptag.extractLsb' 20 4, cs := t.pstate, w := false, wPar := false, f := t.f,
           tagPar := dTagParity tag t.pstate }

/-! ## Write-backs that CACHE asks for -/

/-- What a parity error that CACHE meets records in CacheErr (11_cp0_registers R111). A CACHE instruction reaches its cache as
a data reference, so ER is 1 whichever cache it is: the model's choice, R111 does not say (log 46). -/
def cacheParityError (va : DWord) (pa : Word) (ed et ee : Bool) : ParityError where
  data := true
  ed := ed
  et := et
  ee := ee
  pa := pa
  va := low32 va

/-- A line sent to memory for CACHE: its parity is checked on the way, and a line with an error goes out all the same,
marked erroneous, before the Cache Error is taken (80_system_interface R856, R840; log 46); a write that the bus never
accepts hangs (R819). -/
def State.sendChecked (s : State) (va : DWord) (pa : Word) (line : LineRef) (base : Nat) (data : Vector Byte 32)
    (ed et : Bool) : Access Unit :=
  let t := (s.writeLine base data).inTransit line
  if anyOf .silent s.platform (lineBytes base) then .fault .writeHangs
  else if !s.cp0.status.de && (ed || et) then .trap (t.aged.takeCacheError (cacheParityError va pa ed et false))
  else .ok () t

/-- A data-cache line with the check bits of the addressed doubleword from ECC when Status.CE = 1 (R230; log 46). -/
def State.eccLine (s : State) (va : DWord) (l : DLine) : DLine :=
  if s.cp0.status.ce then
    { l with par := Vector.ofFn fun k =>
        if k.val / 8 * 8 = doubleOffset va then eccBit s.boot.bigEndian s.cp0.ecc k.val else l.par[k] }
  else l

/-- The line of way `w` at index `i` of the data cache sent to memory (R215) with the check bits it holds. -/
def State.sendLine (s : State) (va : DWord) (pa : Word) (w : Way) (i : BitVec 7) (l : DLine) : Access Unit :=
  s.sendChecked va pa { instr := false, way := w, index := i } (lineBase l.tag i) l.data (l.badData (lineBytes 0)) l.badTag

/-- A line of the data cache sent to memory when it is dirty. -/
def State.sendIfDirty (s : State) (va : DWord) (pa : Word) (w : Way) (i : BitVec 7) (l : DLine) : Access Unit :=
  if l.dirty then s.sendLine va pa w i l else .ok () s

/-- The write-back of the operations 0x01, 0x15 and 0x19: when the line is dirty; with Status.CE = 1 of any valid line,
unconditionally, with the check bits of the addressed doubleword from ECC (R230, R238, R242, R244; log 46). The parity check of
that write-back is made on the line with ECC's bits put in, not on those it held: the model's choice, R230 does not say which
(log 46). -/
def State.writeBack (s : State) (va : DWord) (pa : Word) (w : Way) (i : BitVec 7) (l : DLine) : Access Unit :=
  if l.dirty || (s.cp0.status.ce && l.valid) then s.sendLine va pa w i (s.eccLine va l) else .ok () s

/-- An instruction-cache line sent to memory (R238). 90_conflicts C14 says that this cache has no Hit Writeback, R235, R238 and
R240 define it: that the model follows the rules is its choice (log 24). -/
def State.sendILine (s : State) (va : DWord) (pa : Word) (w : Way) (i : BitVec 7) (l : ILine) : Access Unit :=
  s.sendChecked va pa { instr := true, way := w, index := i } (lineBase l.tag i) l.data
    ((List.range 8).any fun k => l.badData (4 * k)) l.badTag

/-! ## Fill and Create Dirty Exclusive -/

/-- The parity of a filled line: with Status.CE = 1 the addressed doubleword takes ECC (R245; log 46). -/
def State.fillParity (s : State) (l : ILine) (va : DWord) : ILine :=
  if s.cp0.status.ce then
    let k := doubleOffset va / 4
    let b0 := s.cp0.ecc.getLsbD (if s.boot.bigEndian then 1 else 0)
    let b1 := s.cp0.ecc.getLsbD (if s.boot.bigEndian then 0 else 1)
    { l with par := (l.par.set (k % 8) b0).set ((k + 1) % 8) b1 }
  else l

/-- Fill (R245): a block read into the selected way, whatever the lookup says; a Bus Error is a data reference's (D13). -/
def State.fill (s : State) (va : DWord) (pa : Word) : Access Unit :=
  let w := wayOf va
  let first := s.firstElement [pa.toNat]
  let filled := s.iInstall w pa (s.fillParity (s.iRefilled pa (!(s.icache.line w (lineIndex pa)).f)) va)
  if anyOf .silent s.platform (lineBytes (lineBaseOf pa)) then .fault .readHangs
  else if !s.cp0.status.de && first.any s.busBad then
    .trap ((if s.busError first then s.iFailed w pa else filled).aged.takeCacheError
      (cacheParityError va pa true false true))
  else if s.busError first then .trap ((s.iFailed w pa).raised .dbe none)
  else .ok () filled

/-- The line that Create Dirty Exclusive claims on a miss: its data are any value (R243, U34). -/
def State.claimedLine (s : State) (pa : Word) (f : Bool) : DLine :=
  let d := Config.freeBits 256 s.fresh
  let p := Config.freeBits 32 (s.fresh + 1)
  { tag := lineTag pa
    tagHi := 0
    cs := 3
    w := false
    wPar := false
    f := f
    tagPar := dTagParity (lineTag pa) 3
    data := Vector.ofFn fun k => d.extractLsb' (8 * k.val) 8
    par := Vector.ofFn fun k => p.getLsbD k.val }

/-- Create Dirty Exclusive (R243). On a hit the four bits of a 24-bit PTagLo that lie above the tag are cleared with the tag set
anew ("in all cases, set the cache block tag"), though R243 also calls the line unchanged there: the model's choice (log
25). -/
def State.createDirtyExclusive (s : State) (va : DWord) (pa : Word) : Access Unit :=
  let i := lineIndex pa
  match s.dcache.lookup pa with
  | .both => .refused .duplicateTag
  | .hit w => .ok () (s.setDLine w i { (s.dcache.line w i).withState 3 with tagHi := 0 })
  | .miss =>
    let w := s.dVictim i
    let old := s.dcache.line w i
    (s.drawn.sendIfDirty va pa w i old).bind fun _ s =>
      let s1 := (s.setDLine w i (s.claimedLine pa (!old.f))).setDFifo w i
      .ok () { s1 with fresh := s.fresh + 2 }

/-! ## Hit operations -/

/-- A Hit operation on the data cache: `f` on a hit, nothing on a miss; Status.CH says which (R235, R240). -/
def State.hitD (s : State) (pa : Word) (f : Way → DLine → State → Access Unit) : Access Unit :=
  match s.dcache.lookup pa with
  | .both => .refused .duplicateTag
  | .miss => .ok () (s.setCh false)
  | .hit w => (f w (s.dcache.line w (lineIndex pa)) s).bind fun _ s => .ok () (s.setCh true)

/-- A Hit operation on the instruction cache (R235, R240). -/
def State.hitI (s : State) (pa : Word) (f : Way → ILine → State → Access Unit) : Access Unit :=
  match s.icache.lookup pa with
  | .both => .refused .duplicateTag
  | .miss => .ok () (s.setCh false)
  | .hit w => (f w (s.icache.line w (lineIndex pa)) s).bind fun _ s => .ok () (s.setCh true)

/-! ## The instruction -/

/-- CacheOp(op, vAddr, pAddr) (R234, R235). -/
def State.cacheOp (s : State) (op : CacheOperation) (va : DWord) (pa : Word) : Access Unit :=
  let w := wayOf va
  let i := lineIndex pa
  match op with
  | .indexInvalidateI =>
    .ok () (s.setILine w i { s.icache.line w i with
      tag := lineTag pa, tagHi := 0, valid := false, tagPar := iTagParity (lineTag pa) false })
  | .indexWritebackInvalidateD =>
    let l := s.dcache.line w i
    (s.writeBack va pa w i l).bind fun _ s => .ok () (s.setDLine w i (l.withState 0))
  | .indexLoadTagI => .ok () (s.loadTagI (s.icache.line w i) va)
  | .indexLoadTagD => .ok () (s.loadTagD (s.dcache.line w i) va)
  | .indexStoreTagI => .ok () (s.setILine w i ((s.icache.line w i).storeTag s.cp0.tagLo))
  | .indexStoreTagD => .ok () (s.setDLine w i ((s.dcache.line w i).storeTag s.cp0.tagLo))
  | .createDirtyExclusiveD => s.createDirtyExclusive va pa
  | .hitInvalidateI => s.hitI pa fun w l s => .ok () (s.setILine w i l.invalidated)
  | .hitInvalidateD => s.hitD pa fun w l s => .ok () (s.setDLine w i (l.withState 0))
  | .fillI => s.fill va pa
  | .hitWritebackInvalidateD =>
    s.hitD pa fun w l s => (s.writeBack va pa w i l).bind fun _ s => .ok () (s.setDLine w i (l.withState 0))
  | .hitWritebackI => s.hitI pa fun w l s => s.sendILine va pa w i l
  | .hitWritebackD =>
    s.hitD pa fun w l s =>
      (s.writeBack va pa w i l).bind fun _ s =>
        .ok () (s.setDLine w i (if l.dirty then { s.eccLine va l with w := false, wPar := false } else s.eccLine va l))

/-- CACHE: usability, the address translated as a load's (no alignment, no DWatch), the write buffer retired, then the operation
(R234, D13). An uncached or reserved region and an operation outside the table have no meaning (U10, U7). -/
def execCache (base : Reg) (op : BitVec 5) (offset : BitVec 16) (s : State) : Result :=
  s.needCp0 <|
    let va := s.ea base offset
    (s.dataAddress va 1 false).finish fun (pa, alg) s =>
      if alg = 2 then .refused .cacheOpUncached
      else if calgReserved alg then .refused .reservedCacheAlgorithm
      else
        match cacheOperation op with
        | none => .refused .cacheOpUndefined
        | some o => (s.drained.cacheOp o va pa).finish fun _ s => s.doneMem

end Sys2Proof.Machine
end

