-- ==== Sys2Proof/Machine/Fpu.lean ====
section
/-!
DEFINITION. Sys2Proof/Machine/Fpu.lean: single-precision arithmetic, exact and then rounded (48_fpu_state_and_rules R555
to R580; 49_fpu_instructions R601 to R625). Nothing here reads or writes the machine's state.
-/

namespace Sys2Proof.Machine

/-! ## The format S (R561 to R564) -/

/-- The biased exponent, bits 30:23. -/
def fpExp (x : Word) : Nat := (x.extractLsb' 23 8).toNat

/-- The fraction, bits 22:0. -/
def fpFrac (x : Word) : Nat := (x.extractLsb' 0 23).toNat

/-- The operand classes (R564). -/
inductive FpClass where
  | zero
  | denorm
  | normal
  | inf
  | snan
  | qnan
deriving DecidableEq, Repr

/-- The class of a single (R561, R562): a NaN is signaling when bit 22 is 1. -/
def fpClass (x : Word) : FpClass :=
  if fpExp x = 255 then
    if fpFrac x = 0 then .inf else if x.getLsbD 22 then .snan else .qnan
  else if fpExp x = 0 then
    if fpFrac x = 0 then .zero else .denorm
  else .normal

/-- Is the single infinite? -/
def isInf (x : Word) : Bool := fpClass x == .inf

/-- Is the single a zero? -/
def isZero (x : Word) : Bool := fpClass x == .zero

/-- Is the single a NaN? -/
def isNan (x : Word) : Bool := fpClass x == .snan || fpClass x == .qnan

/-- The significand of a finite single, its hidden bit with it. -/
def fpSig (x : Word) : Nat := if fpExp x = 0 then fpFrac x else 2 ^ 23 + fpFrac x

/-- The magnitude of a finite single is fpSig times 2 to the power of this minus 149. -/
def fpShift (x : Word) : Nat := fpExp x - 1

/-- The value of a finite single, in units of 2^-149. An infinity is put beyond every finite number, as R580 orders
it. -/
def fpScaled (x : Word) : Int :=
  if x.msb then -((fpSig x * 2 ^ fpShift x : Nat) : Int) else ((fpSig x * 2 ^ fpShift x : Nat) : Int)

/-- The quiet NaN of an invalid operation (R562, K13). -/
def qnanS : Word := 0x7FBFFFFF

/-- A zero with a sign. -/
def fpZero (neg : Bool) : Word := bit neg ++ 0#31

/-- An infinity with a sign. -/
def fpInf (neg : Bool) : Word := bit neg ++ 0x7F800000#31

/-- The largest finite number with a sign. -/
def fpMax (neg : Bool) : Word := bit neg ++ 0x7F7FFFFF#31

/-- The smallest normal number, 2^Emin, with a sign. -/
def fpMinNormal (neg : Bool) : Word := bit neg ++ 0x00800000#31

/-! ## Exception causes (R557) -/

/-- A Cause value: E V Z O U I. -/
abbrev FpCause := BitVec 6

/-- Unimplemented Operation. -/
def causeE : FpCause := 0b100000
/-- Invalid Operation. -/
def causeV : FpCause := 0b010000
/-- Division by Zero. -/
def causeZ : FpCause := 0b001000
/-- Overflow. -/
def causeO : FpCause := 0b000100
/-- Underflow. -/
def causeU : FpCause := 0b000010
/-- Inexact. -/
def causeI : FpCause := 0b000001

/-- I when the result is not exact, nothing otherwise (R567). -/
def inexactCause (inexact : Bool) : FpCause := if inexact then causeI else 0

/-- What an operation gives (R565 steps 5 to 7). -/
inductive FpResult where
  /-- A result, with the cause it raises: stored unless an enabled bit of the cause traps. -/
  | value (c : FpCause) (v : Word)
  /-- A cause that always traps: there is no result. -/
  | traps (c : FpCause)
deriving DecidableEq, Repr

/-- Unimplemented Operation (R572). -/
def unimplemented : FpResult := .traps causeE

/-! ## Rounding (R555, R566, R569, R570) -/

/-- The rounding modes (R555). -/
inductive RoundMode where
  | rn
  | rz
  | rp
  | rm
deriving DecidableEq, Repr

/-- The mode in FCR31.RM. -/
def RoundMode.ofBits (v : BitVec 2) : RoundMode :=
  match v.toNat with
  | 0 => .rn
  | 1 => .rz
  | 2 => .rp
  | _ => .rm

/-- Does the magnitude `q + r / d`, 0 <= r < d, round up to `q + 1`? -/
def roundsUp (mode : RoundMode) (neg : Bool) (q r d : Nat) : Bool :=
  match mode with
  | .rn => decide (d < 2 * r) || (decide (2 * r = d) && q % 2 == 1)
  | .rz => false
  | .rp => !neg && r != 0
  | .rm => neg && r != 0

/-- The magnitude `m / 2^k` rounded to an integer, and whether that is not exact. -/
def roundShift (mode : RoundMode) (neg : Bool) (m k : Nat) : Nat × Bool :=
  let q := m / 2 ^ k
  let r := m % 2 ^ k
  (if roundsUp mode neg q r (2 ^ k) then q + 1 else q, r != 0)

/-- An exact real magnitude `m * 2^e`, m not 0. A magnitude that has no such form (a quotient, a root) is given by an
odd m of 27 bits or more with the real value strictly between m - 1 and m + 1 times 2^e: it rounds to 24 bits alike. -/
structure Magnitude where
  m : Nat
  e : Int
deriving DecidableEq, Repr

/-- The magnitude rounded to 24 significant bits with an unbounded exponent (R566): significand, exponent of its unit,
inexact. -/
def Magnitude.round24 (x : Magnitude) (mode : RoundMode) (neg : Bool) : Nat × Int × Bool :=
  let m := x.m * 2 ^ 24
  let k := Nat.log2 m - 23
  let (sig, inexact) := roundShift mode neg m k
  if sig = 2 ^ 24 then (2 ^ 23, x.e - 24 + k + 1, inexact) else (sig, x.e - 24 + k, inexact)

/-- The result of an overflow with O not enabled (R569). -/
def overflowDefault (mode : RoundMode) (neg : Bool) : Word :=
  match mode with
  | .rn => fpInf neg
  | .rz => fpMax neg
  | .rp => if neg then fpMax true else fpInf false
  | .rm => if neg then fpInf true else fpMax false

/-- The result of a tiny value flushed under FS = 1 (R570). -/
def flushResult (mode : RoundMode) (neg : Bool) : Word :=
  match mode with
  | .rn => fpZero neg
  | .rz => fpZero neg
  | .rp => if neg then fpZero true else fpMinNormal false
  | .rm => if neg then fpMinNormal true else fpZero false

/-- The handling of a tiny result (R570, D25): enabled Underflow traps, FS = 0 is Unimplemented, FS = 1 flushes. -/
def underflow (f : Fcr31) (mode : RoundMode) (neg inexact : Bool) : FpResult :=
  if f.enables.getLsbD 1 then .traps (causeU ||| inexactCause inexact)
  else if f.fs then .value (causeU ||| causeI) (flushResult mode neg)
  else unimplemented

/-- The encoding of the normal number `sig * 2^e`, 2^23 <= sig < 2^24. -/
def encodeNormal (neg : Bool) (sig : Nat) (e : Int) : Word :=
  bit neg ++ BitVec.ofNat 8 (e + 150).toNat ++ BitVec.ofNat 23 sig

/-- RoundResult of a nonzero real (R566). -/
def roundResult (f : Fcr31) (neg : Bool) (x : Magnitude) : FpResult :=
  let mode := RoundMode.ofBits f.rm
  let (sig, e, inexact) := x.round24 mode neg
  if 127 < e + 23 then .value (causeO ||| causeI) (overflowDefault mode neg)
  else if e + 23 < -126 then underflow f mode neg inexact
  else .value (inexactCause inexact) (encodeNormal neg sig e)

/-- RoundResult of a nonzero integer times 2^e. -/
def roundInt (f : Fcr31) (x e : Int) : FpResult := roundResult f (x < 0) { m := x.natAbs, e := e }

/-! ## Arithmetic (49_fpu_instructions R601 to R608), on operands that passed the screening -/

/-- The operand screening of R565 step 5 for one or two sources of format S; `f` is the rest. -/
def screened (xs : List Word) (r : FpResult) : FpResult :=
  if xs.any fun x => fpClass x == .denorm || fpClass x == .qnan then unimplemented
  else if xs.any fun x => fpClass x == .snan then .value causeV qnanS
  else r

/-- ADD.S (R601, K14). -/
def fpAdd (f : Fcr31) (a b : Word) : FpResult :=
  if isInf a && isInf b && a.msb != b.msb then .value causeV qnanS
  else if isInf a then .value 0 a
  else if isInf b then .value 0 b
  else
    let x := fpScaled a + fpScaled b
    if x = 0 then
      .value 0 (fpZero (if isZero a && isZero b && a.msb == b.msb then a.msb
        else RoundMode.ofBits f.rm == .rm))
    else roundInt f x (-149)

/-- The same single with its sign inverted. -/
def fpFlip (x : Word) : Word := x ^^^ 0x80000000

/-- SUB.S: ADD.S with the sign of `b` inverted (R602). -/
def fpSub (f : Fcr31) (a b : Word) : FpResult := fpAdd f a (fpFlip b)

/-- MUL.S (R603). -/
def fpMul (f : Fcr31) (a b : Word) : FpResult :=
  let neg := xor a.msb b.msb
  if (isZero a && isInf b) || (isInf a && isZero b) then .value causeV qnanS
  else if isInf a || isInf b then .value 0 (fpInf neg)
  else if isZero a || isZero b then .value 0 (fpZero neg)
  else roundResult f neg { m := fpSig a * fpSig b, e := (fpShift a : Int) + fpShift b - 298 }

/-- The magnitude of the quotient of two normal singles. -/
def quotient (a b : Word) : Magnitude :=
  let n := fpSig a * 2 ^ 28
  { m := 2 * (n / fpSig b) + (if n % fpSig b = 0 then 0 else 1), e := (fpShift a : Int) - fpShift b - 29 }

/-- DIV.S (R604). -/
def fpDiv (f : Fcr31) (a b : Word) : FpResult :=
  let neg := xor a.msb b.msb
  if (isZero a && isZero b) || (isInf a && isInf b) then .value causeV qnanS
  else if isInf a then .value 0 (fpInf neg)
  else if isInf b then .value 0 (fpZero neg)
  else if isZero b then .value causeZ (fpInf neg)
  else if isZero a then .value 0 (fpZero neg)
  else roundResult f neg (quotient a b)

/-- The integer square root of `n`, found bit by bit: `r` and lower bits from `2^(k-1)` down. -/
def isqrt (n : Nat) : Nat → Nat → Nat
  | 0, r => r
  | k + 1, r => isqrt n k (if (r + 2 ^ k) * (r + 2 ^ k) ≤ n then r + 2 ^ k else r)

/-- The magnitude of the square root of a normal single: its unit's exponent is made even first. -/
def root (a : Word) : Magnitude :=
  let odd := fpShift a % 2 == 0
  let n := fpSig a * (if odd then 2 else 1) * 2 ^ 32
  let r := isqrt n 29 0
  { m := 2 * r + (if r * r = n then 0 else 1)
    e := ((fpShift a : Int) - 149 - (if odd then 1 else 0)) / 2 - 17 }

/-- SQRT.S (R605). -/
def fpSqrt (f : Fcr31) (a : Word) : FpResult :=
  if isZero a then .value 0 a
  else if a.msb then .value causeV qnanS
  else if isInf a then .value 0 a
  else roundResult f false (root a)

/-- ABS.S (R606). -/
def fpAbs (a : Word) : FpResult := .value 0 (a &&& 0x7FFFFFFF)

/-- NEG.S (R608). -/
def fpNeg (a : Word) : FpResult := .value 0 (fpFlip a)

/-! ## Conversions (R610 to R616) -/

/-- The magnitude of a finite single rounded to an integer, and whether that is not exact. -/
def roundToInt (mode : RoundMode) (a : Word) : Nat × Bool :=
  if 149 ≤ fpShift a then (fpSig a * 2 ^ (fpShift a - 149), false)
  else roundShift mode a.msb (fpSig a) (149 - fpShift a)

/-- Conversion to W (R610): every NaN, infinity, denormalized source and integer out of range is Unimplemented. -/
def fpToWord (mode : RoundMode) (a : Word) : FpResult :=
  match fpClass a with
  | .zero => .value 0 0
  | .normal =>
    let (m, inexact) := roundToInt mode a
    let n : Int := if a.msb then -(m : Int) else m
    if overflows 32 n then unimplemented else .value (inexactCause inexact) (BitVec.ofInt 32 n)
  | _ => unimplemented

/-- CVT.S.W (R616). -/
def fpFromWord (f : Fcr31) (a : Word) : FpResult := if a.toInt = 0 then .value 0 0 else roundInt f a.toInt 0

/-! ## Comparison (R580, R625) -/

/-- The condition of a compare with the code `cond`. -/
def fpCondition (cond : BitVec 4) (a b : Word) : Bool :=
  if isNan a || isNan b then cond.getLsbD 0
  else
    (cond.getLsbD 2 && decide (fpScaled a < fpScaled b)) || (cond.getLsbD 1 && decide (fpScaled a = fpScaled b))

/-- The cause of a compare: V when cond[3] = 1 and the operands are unordered. -/
def compareCause (cond : BitVec 4) (a b : Word) : FpCause :=
  if cond.getLsbD 3 && (isNan a || isNan b) then causeV else 0

end Sys2Proof.Machine
end

