-- ==== Sys2Proof/Machine/FpuInstr.lean ====
section
/-!
DEFINITION. Sys2Proof/Machine/FpuInstr.lean: the instructions of coprocessor 1 but for its branches and LWC1 and SWC1
(48_fpu_state_and_rules R551, R565, R573, R576; 49_fpu_instructions R601 to R643).
-/

namespace Sys2Proof.Machine

/-! ## Shared operations -/

/-- The Floating-Point exception with the cause `c` (R565 step 8, R573): Cause is written, nothing else. -/
def State.fpRaise (s : State) (c : FpCause) : Result := (s.setFcr31 { s.fpu.fcr31 with cause := c }).trap .fpe

/-- FCR31 after an operation that raises `c` and does not trap (R559, R565 step 8). -/
def Fcr31.commit (f : Fcr31) (c : FpCause) : Fcr31 :=
  { f with cause := c, flags := f.flags ||| c.extractLsb' 0 5 }

/-- FCR31 after such an operation. -/
def State.fpCommit (s : State) (c : FpCause) : State := s.setFcr31 (s.fpu.fcr31.commit c)

/-- An enabled bit of the cause traps; else the operation ends with `r` (R558, R565 step 8). -/
def State.fpUnlessTrap (s : State) (c : FpCause) (r : Result) : Result :=
  if fpTrap c s.fpu.fcr31.enables then s.fpRaise c else r

/-- The end of an operation with a result (R565 step 8). -/
def State.fpStore (s : State) (fd : Reg) (x : FpResult) : Result :=
  match x with
  | .traps c => s.fpRaise c
  | .value c v => s.fpUnlessTrap c ((s.fpCommit c).setFgr fd v).done

/-- Does FR = 0 forbid one of these register numbers (R551)? -/
def State.fpOddForbidden (s : State) (fs : List Reg) : Bool :=
  !s.cp0.status.fr && fs.any fun f => f.getLsbD 0

/-- Steps 1 to 4 of R565 for an executing pair that names the registers `fs`: usability, then odd numbers. -/
def State.fpOp (s : State) (fs : List Reg) (r : Result) : Result :=
  s.needCp1 (if s.fpOddForbidden fs then s.fpRaise causeE else r)

/-- An arithmetic operation of two sources (R601 to R604). -/
def State.fpBinary (s : State) (ft fs fd : Reg) (f : Fcr31 → Word → Word → FpResult) : Result :=
  s.fpOp [ft, fs, fd] <|
    s.fpStore fd (screened [s.fgr fs, s.fgr ft] (f s.fpu.fcr31 (s.fgr fs) (s.fgr ft)))

/-- An arithmetic operation of one source (R605, R606, R608). -/
def State.fpUnary (s : State) (fs fd : Reg) (f : Fcr31 → Word → FpResult) : Result :=
  s.fpOp [fs, fd] (s.fpStore fd (screened [s.fgr fs] (f s.fpu.fcr31 (s.fgr fs))))

/-- A conversion to W in a given mode (R610). -/
def State.fpConvertToWord (s : State) (fs fd : Reg) (mode : RoundMode) : Result :=
  s.fpOp [fs, fd] (s.fpStore fd (fpToWord mode (s.fgr fs)))

/-- A word whose pair of format and function does not execute (R572, R575, R617). -/
def State.fpUnimplemented (s : State) : Result := s.needCp1 (s.fpRaise causeE)

/-- The state after a compare that does not trap; the next instruction must not branch on the condition (R625; U20). -/
def State.fpCompared (s : State) (cond : BitVec 4) (a b : Word) : State :=
  let t := s.fpCommit (compareCause cond a b)
  let t := (t.setFcr31 { t.fpu.fcr31 with c := fpCondition cond a b }).advance
  { t with hazards := { t.hazards with afterCond := true } }

/-- C.cond.S (R625). -/
def State.fpCompare (s : State) (cond : BitVec 4) (ft fs : Reg) : Result :=
  s.fpOp [ft, fs] <|
    s.fpUnlessTrap (compareCause cond (s.fgr fs) (s.fgr ft)) (.next (s.fpCompared cond (s.fgr fs) (s.fgr ft)))

/-- A reserved word of the COP1 group with bit 25 = 0 (R576). -/
def State.reservedCop1 (s : State) : Result := s.fpUnimplemented

/-! ## Arithmetic -/

/-- ADD.S (R601). -/
def execAddS (ft fs fd : Reg) (s : State) : Result := s.fpBinary ft fs fd fpAdd
/-- SUB.S (R602). -/
def execSubS (ft fs fd : Reg) (s : State) : Result := s.fpBinary ft fs fd fpSub
/-- MUL.S (R603). -/
def execMulS (ft fs fd : Reg) (s : State) : Result := s.fpBinary ft fs fd fpMul
/-- DIV.S (R604). -/
def execDivS (ft fs fd : Reg) (s : State) : Result := s.fpBinary ft fs fd fpDiv
/-- SQRT.S (R605). -/
def execSqrtS (fs fd : Reg) (s : State) : Result := s.fpUnary fs fd fpSqrt
/-- ABS.S (R606). -/
def execAbsS (fs fd : Reg) (s : State) : Result := s.fpUnary fs fd fun _ => fpAbs
/-- MOV.S: any bit pattern; Cause becomes 0 (R607). -/
def execMovS (fs fd : Reg) (s : State) : Result := s.fpOp [fs, fd] (s.fpStore fd (.value 0 (s.fgr fs)))
/-- NEG.S (R608). -/
def execNegS (fs fd : Reg) (s : State) : Result := s.fpUnary fs fd fun _ => fpNeg

/-! ## Conversions -/

/-- ROUND.W.S (R611). -/
def execRoundWS (fs fd : Reg) (s : State) : Result := s.fpConvertToWord fs fd .rn
/-- TRUNC.W.S (R612). -/
def execTruncWS (fs fd : Reg) (s : State) : Result := s.fpConvertToWord fs fd .rz
/-- CEIL.W.S (R613). -/
def execCeilWS (fs fd : Reg) (s : State) : Result := s.fpConvertToWord fs fd .rp
/-- FLOOR.W.S (R614). -/
def execFloorWS (fs fd : Reg) (s : State) : Result := s.fpConvertToWord fs fd .rm
/-- CVT.W.S (R615). -/
def execCvtWS (fs fd : Reg) (s : State) : Result :=
  s.fpConvertToWord fs fd (RoundMode.ofBits s.fpu.fcr31.rm)
/-- CVT.S.W (R616). -/
def execCvtSW (fs fd : Reg) (s : State) : Result :=
  s.fpOp [fs, fd] (s.fpStore fd (fpFromWord s.fpu.fcr31 (s.fgr fs)))
/-- ROUND.L.S (R617). -/
def execRoundLS (_fs _fd : Reg) (s : State) : Result := s.fpUnimplemented
/-- TRUNC.L.S (R618). -/
def execTruncLS (_fs _fd : Reg) (s : State) : Result := s.fpUnimplemented
/-- CEIL.L.S (R619). -/
def execCeilLS (_fs _fd : Reg) (s : State) : Result := s.fpUnimplemented
/-- FLOOR.L.S (R620). -/
def execFloorLS (_fs _fd : Reg) (s : State) : Result := s.fpUnimplemented
/-- CVT.D.S (R622). -/
def execCvtDS (_fs _fd : Reg) (s : State) : Result := s.fpUnimplemented
/-- CVT.L.S (R621). -/
def execCvtLS (_fs _fd : Reg) (s : State) : Result := s.fpUnimplemented
/-- Any other R-type word: its pair of format and function does not execute (R575). -/
def execCop1Other (_fmtLow : BitVec 4) (_ft _fs _fd : Reg) (_fn : BitVec 6) (s : State) : Result :=
  s.fpUnimplemented

/-! ## Compares (R625, R626) -/

/-- C.F.S (R626). -/
def execCFS (ft fs : Reg) (s : State) : Result := s.fpCompare 0 ft fs
/-- C.UN.S (R626). -/
def execCUnS (ft fs : Reg) (s : State) : Result := s.fpCompare 1 ft fs
/-- C.EQ.S (R626). -/
def execCEqS (ft fs : Reg) (s : State) : Result := s.fpCompare 2 ft fs
/-- C.UEQ.S (R626). -/
def execCUeqS (ft fs : Reg) (s : State) : Result := s.fpCompare 3 ft fs
/-- C.OLT.S (R626). -/
def execCOltS (ft fs : Reg) (s : State) : Result := s.fpCompare 4 ft fs
/-- C.ULT.S (R626). -/
def execCUltS (ft fs : Reg) (s : State) : Result := s.fpCompare 5 ft fs
/-- C.OLE.S (R626). -/
def execCOleS (ft fs : Reg) (s : State) : Result := s.fpCompare 6 ft fs
/-- C.ULE.S (R626). -/
def execCUleS (ft fs : Reg) (s : State) : Result := s.fpCompare 7 ft fs
/-- C.SF.S (R626). -/
def execCSfS (ft fs : Reg) (s : State) : Result := s.fpCompare 8 ft fs
/-- C.NGLE.S (R626). -/
def execCNgleS (ft fs : Reg) (s : State) : Result := s.fpCompare 9 ft fs
/-- C.SEQ.S (R626). -/
def execCSeqS (ft fs : Reg) (s : State) : Result := s.fpCompare 10 ft fs
/-- C.NGL.S (R626). -/
def execCNglS (ft fs : Reg) (s : State) : Result := s.fpCompare 11 ft fs
/-- C.LT.S (R626). -/
def execCLtS (ft fs : Reg) (s : State) : Result := s.fpCompare 12 ft fs
/-- C.NGE.S (R626). -/
def execCNgeS (ft fs : Reg) (s : State) : Result := s.fpCompare 13 ft fs
/-- C.LE.S (R626). -/
def execCLeS (ft fs : Reg) (s : State) : Result := s.fpCompare 14 ft fs
/-- C.NGT.S (R626). -/
def execCNgtS (ft fs : Reg) (s : State) : Result := s.fpCompare 15 ft fs

/-! ## Moves -/

/-- MFC1: the word, sign-extended; any register in either FR setting (R630). -/
def execMfc1 (rt fs : Reg) (s : State) : Result := s.needCp1 (s.setReg rt (sext32 (s.fgr fs))).done
/-- MTC1 (R631). -/
def execMtc1 (rt fs : Reg) (s : State) : Result := s.needCp1 (s.setFgr fs (low32 (s.reg rt))).done
/-- DMFC1: usable and 64-bit operations allowed, it always traps as Unimplemented (R632). -/
def execDmfc1 (_rt _fs : Reg) (s : State) : Result := s.needCp1 (s.need64 (s.fpRaise causeE))
/-- DMTC1: the same (R633). -/
def execDmtc1 (_rt _fs : Reg) (s : State) : Result := s.needCp1 (s.need64 (s.fpRaise causeE))
/-- CFC1: FCR0 or FCR31, sign-extended; any value from another number (R634, U25). -/
def execCfc1 (rt fs : Reg) (s : State) : Result :=
  s.needCp1 <|
    if fs = 0 then (s.setReg rt (sext32 fcr0Word)).done
    else if fs = 31 then (s.setReg rt (sext32 s.fpu.fcr31.toWord)).done
    else (s.setReg rt (s.free 64)).drawn.done

/-- The state after a write of FCR31 that does not trap; a change of C is not to be branched on at once (R635; U20). -/
def State.wroteFcr31 (s : State) (new : Fcr31) : State :=
  let t := (s.setFcr31 new).advance
  { t with hazards := { t.hazards with afterCond := new.c != s.fpu.fcr31.c } }

/-- The state after a write of FCR31 that traps. That a change of C is not to be branched on by the first instruction of the
handler either is the model's reading of U20 (log 12). -/
def State.trappedFcr31 (s : State) (new : Fcr31) : State :=
  let t := (s.setFcr31 new).raised .fpe none
  { t with hazards := { t.hazards with afterCond := new.c != s.fpu.fcr31.c } }

/-- CTC1: FCR31 is written before a cause bit with its enable traps; another number has no meaning (R635, U25). -/
def execCtc1 (rt fs : Reg) (s : State) : Result :=
  s.needCp1 <|
    if fs = 31 then
      let new := Fcr31.ofWord (low32 (s.reg rt))
      if fpTrap new.cause new.enables then .next (s.trappedFcr31 new) else .next (s.wroteFcr31 new)
    else .refused .ctc1Reserved

/-! ## The doubleword loads and stores -/

/-- LDC1: usable, it always traps as Unimplemented; no address is formed (R642), and none of the refusals of a load
is asked for: the model's choice (log 14). -/
def execLdc1 (_base _ft : Reg) (_offset : BitVec 16) (s : State) : Result := s.needCp1 (s.fpRaise causeE)
/-- SDC1: the same (R643). -/
def execSdc1 (_base _ft : Reg) (_offset : BitVec 16) (s : State) : Result := s.needCp1 (s.fpRaise causeE)

end Sys2Proof.Machine
end

