-- ==== Sys2Proof/Machine/MulDiv.lean ====
section
/-!
DEFINITION. Sys2Proof/Machine/MulDiv.lean: multiply, divide, multiply-accumulate and the HI/LO moves
(44_multiply_divide R410 to R431).
-/

namespace Sys2Proof.Machine

/-! ## Shared operations -/

/-- The end of an instruction of R413 to R422: HI and LO now hold a pair (R431). -/
def State.donePair (s : State) : Result :=
  .next { s.advance with hazards := { s.agedHazards with hiloPair := true } }

/-- HI and LO written, or any value when that is what the spec gives (U1, U15). -/
def State.writeHiLo (s : State) (known : Bool) (hi lo : DWord) : Result :=
  (if known then (s.setHi hi).setLo lo else s.freeHiLo).donePair

/-- The high word of a doubleword result, sign-extended. -/
def high32 (t : DWord) : DWord := sext32 (t.extractLsb' 32 32)

/-- A 64-bit product or sum in HI and LO, each half sign-extended (R413, R414, R421). -/
def State.writeHalves (s : State) (known : Bool) (t : DWord) : Result :=
  s.writeHiLo known (high32 t) (sext32 (low32 t))

/-- A 128-bit product in HI and LO (R417, R418). -/
def State.writeDoubles (s : State) (t : BitVec 128) : Result :=
  s.writeHiLo true (t.extractLsb' 64 64) (t.extractLsb' 0 64)

/-! ## 32-bit forms -/

/-- MULT (R413). -/
def execMult (rs rt : Reg) (s : State) : Result :=
  let s := s.beforeHiLo
  s.writeHalves (s.bothSext32 rs rt)
    (BitVec.ofInt 64 ((low32 (s.reg rs)).toInt * (low32 (s.reg rt)).toInt))
/-- MULTU (R414). -/
def execMultu (rs rt : Reg) (s : State) : Result :=
  let s := s.beforeHiLo
  s.writeHalves (s.bothSext32 rs rt)
    (BitVec.ofNat 64 ((low32 (s.reg rs)).toNat * (low32 (s.reg rt)).toNat))
/-- DIV: the quotient toward zero, the remainder with the dividend's sign; any value for divisor 0 (R415, R411, R412). -/
def execDiv (rs rt : Reg) (s : State) : Result :=
  let s := s.beforeHiLo
  let a := (low32 (s.reg rs)).toInt
  let b := (low32 (s.reg rt)).toInt
  s.writeHiLo (s.bothSext32 rs rt && b != 0) (sext32 (BitVec.ofInt 32 (a.tmod b))) (sext32 (BitVec.ofInt 32 (a.tdiv b)))
/-- DIVU (R416). -/
def execDivu (rs rt : Reg) (s : State) : Result :=
  let s := s.beforeHiLo
  let a := (low32 (s.reg rs)).toNat
  let b := (low32 (s.reg rt)).toNat
  s.writeHiLo (s.bothSext32 rs rt && b != 0) (sext32 (BitVec.ofNat 32 (a % b))) (sext32 (BitVec.ofNat 32 (a / b)))

/-! ## 64-bit forms -/

/-- DMULT (R417). -/
def execDmult (rs rt : Reg) (s : State) : Result :=
  s.need64 <|
    let s := s.beforeHiLo
    s.writeDoubles (BitVec.ofInt 128 ((s.reg rs).toInt * (s.reg rt).toInt))
/-- DMULTU (R418). -/
def execDmultu (rs rt : Reg) (s : State) : Result :=
  s.need64 <|
    let s := s.beforeHiLo
    s.writeDoubles (BitVec.ofNat 128 ((s.reg rs).toNat * (s.reg rt).toNat))
/-- DDIV (R419, R412). -/
def execDdiv (rs rt : Reg) (s : State) : Result :=
  s.need64 <|
    let s := s.beforeHiLo
    let a := (s.reg rs).toInt
    let b := (s.reg rt).toInt
    s.writeHiLo (b != 0) (BitVec.ofInt 64 (a.tmod b)) (BitVec.ofInt 64 (a.tdiv b))
/-- DDIVU (R420, R412). -/
def execDdivu (rs rt : Reg) (s : State) : Result :=
  s.need64 <|
    let s := s.beforeHiLo
    let a := (s.reg rs).toNat
    let b := (s.reg rt).toNat
    s.writeHiLo (b != 0) (BitVec.ofNat 64 (a % b)) (BitVec.ofNat 64 (a / b))

/-! ## Multiply-accumulate and the three-operand multiply -/

/-- The accumulator: the low words of HI and LO (R421). -/
def State.accumulator (s : State) : DWord := low32 s.hi ++ low32 s.lo

/-- MAD (R421; operands as 10_state R31 asks, log 10). -/
def execMad (rs rt : Reg) (s : State) : Result :=
  let s := s.beforeHiLo
  s.writeHalves (s.bothSext32 rs rt) (s.accumulator + sext32 (low32 (s.reg rs)) * sext32 (low32 (s.reg rt)))
/-- MADU (R422). -/
def execMadu (rs rt : Reg) (s : State) : Result :=
  let s := s.beforeHiLo
  s.writeHalves (s.bothSext32 rs rt)
    (s.accumulator + (low32 (s.reg rs)).zeroExtend 64 * (low32 (s.reg rt)).zeroExtend 64)
/-- MUL: GPR[rd] takes the low word of the product; HI and LO are any value (R423, U16). -/
def execMul (rs rt rd : Reg) (s : State) : Result :=
  let s := s.beforeHiLo
  let s1 :=
    if s.bothSext32 rs rt then s.setReg rd (sext32 (low32 (s.reg rs) * low32 (s.reg rt)))
    else (s.setReg rd (s.free 64)).drawn
  s1.freeHiLo.done

/-! ## Moves -/

/-- MFHI (R424); the next two instructions may not write HI or LO (R430). -/
def execMfhi (rd : Reg) (s : State) : Result :=
  .next { (s.setReg rd s.hi).advance with
    hazards := { s.agedHazards with mfRd := rd, mfAge := 0, hiloPair := false } }
/-- MFLO (R425); the next two instructions may not write HI or LO (R430). -/
def execMflo (rd : Reg) (s : State) : Result :=
  .next { (s.setReg rd s.lo).advance with
    hazards := { s.agedHazards with mfRd := rd, mfAge := 0, hiloPair := false } }
/-- MTHI (R426): after a multiply or divide with no move between, LO is any value (R431). -/
def execMthi (rs : Reg) (s : State) : Result :=
  let s := s.beforeHiLo
  let s1 := s.setHi (s.reg rs)
  let s2 := if s.hazards.hiloPair then (s1.setLo (s1.free 64)).drawn else s1
  .next { s2.advance with hazards := { s.agedHazards with hiloPair := false } }
/-- MTLO (R427): after a multiply or divide with no move between, HI is any value (R431). -/
def execMtlo (rs : Reg) (s : State) : Result :=
  let s := s.beforeHiLo
  let s1 := s.setLo (s.reg rs)
  let s2 := if s.hazards.hiloPair then (s1.setHi (s1.free 64)).drawn else s1
  .next { s2.advance with hazards := { s.agedHazards with hiloPair := false } }

end Sys2Proof.Machine
end

