-- ==== Sys2Proof/Machine/Shift.lean ====
section
/-!
DEFINITION. Sys2Proof/Machine/Shift.lean: the shift instructions (43_shift R390 to R406).
-/

namespace Sys2Proof.Machine

/-- The low five bits of GPR[rs], the count of a variable word shift (R395). -/
def State.count5 (s : State) (rs : Reg) : Nat := ((s.reg rs).extractLsb' 0 5).toNat

/-- The low six bits of GPR[rs], the count of a variable doubleword shift (R401). -/
def State.count6 (s : State) (rs : Reg) : Nat := ((s.reg rs).extractLsb' 0 6).toNat

/-- A word shifted left by `n` (R392). -/
def State.shiftLeft32 (s : State) (rt rd : Reg) (n : Nat) : Result :=
  s.result32 (isSext32 (s.reg rt)) rd (low32 (s.reg rt) <<< n)

/-- A word shifted right by `n`, zeros in (R393). -/
def State.shiftRight32 (s : State) (rt rd : Reg) (n : Nat) : Result :=
  s.result32 (isSext32 (s.reg rt)) rd (low32 (s.reg rt) >>> n)

/-- A word shifted right by `n`, the sign in (R394). -/
def State.shiftArith32 (s : State) (rt rd : Reg) (n : Nat) : Result :=
  s.result32 (isSext32 (s.reg rt)) rd ((low32 (s.reg rt)).sshiftRight n)

/-- A doubleword shifted left by `n` (R398). -/
def State.shiftLeft64 (s : State) (rt rd : Reg) (n : Nat) : Result := s.need64 (s.result rd (s.reg rt <<< n))

/-- A doubleword shifted right by `n`, zeros in (R399). -/
def State.shiftRight64 (s : State) (rt rd : Reg) (n : Nat) : Result := s.need64 (s.result rd (s.reg rt >>> n))

/-- A doubleword shifted right by `n`, the sign in (R400). -/
def State.shiftArith64 (s : State) (rt rd : Reg) (n : Nat) : Result :=
  s.need64 (s.result rd ((s.reg rt).sshiftRight n))

/-- SLL (R392). -/
def execSll (rt rd : Reg) (sa : BitVec 5) (s : State) : Result := s.shiftLeft32 rt rd sa.toNat
/-- SRL (R393). -/
def execSrl (rt rd : Reg) (sa : BitVec 5) (s : State) : Result := s.shiftRight32 rt rd sa.toNat
/-- SRA (R394). -/
def execSra (rt rd : Reg) (sa : BitVec 5) (s : State) : Result := s.shiftArith32 rt rd sa.toNat
/-- SLLV (R395). -/
def execSllv (rs rt rd : Reg) (s : State) : Result := s.shiftLeft32 rt rd (s.count5 rs)
/-- SRLV (R396). -/
def execSrlv (rs rt rd : Reg) (s : State) : Result := s.shiftRight32 rt rd (s.count5 rs)
/-- SRAV (R397). -/
def execSrav (rs rt rd : Reg) (s : State) : Result := s.shiftArith32 rt rd (s.count5 rs)
/-- DSLL (R398). -/
def execDsll (rt rd : Reg) (sa : BitVec 5) (s : State) : Result := s.shiftLeft64 rt rd sa.toNat
/-- DSRL (R399). -/
def execDsrl (rt rd : Reg) (sa : BitVec 5) (s : State) : Result := s.shiftRight64 rt rd sa.toNat
/-- DSRA (R400). -/
def execDsra (rt rd : Reg) (sa : BitVec 5) (s : State) : Result := s.shiftArith64 rt rd sa.toNat
/-- DSLLV (R401). -/
def execDsllv (rs rt rd : Reg) (s : State) : Result := s.shiftLeft64 rt rd (s.count6 rs)
/-- DSRLV (R402). -/
def execDsrlv (rs rt rd : Reg) (s : State) : Result := s.shiftRight64 rt rd (s.count6 rs)
/-- DSRAV (R403). -/
def execDsrav (rs rt rd : Reg) (s : State) : Result := s.shiftArith64 rt rd (s.count6 rs)
/-- DSLL32: by 32 + sa (R404). -/
def execDsll32 (rt rd : Reg) (sa : BitVec 5) (s : State) : Result := s.shiftLeft64 rt rd (32 + sa.toNat)
/-- DSRL32: by 32 + sa (R405). -/
def execDsrl32 (rt rd : Reg) (sa : BitVec 5) (s : State) : Result := s.shiftRight64 rt rd (32 + sa.toNat)
/-- DSRA32: by 32 + sa (R406). -/
def execDsra32 (rt rd : Reg) (sa : BitVec 5) (s : State) : Result := s.shiftArith64 rt rd (32 + sa.toNat)

end Sys2Proof.Machine
end

