-- ==== Sys2Proof/Machine/System.lean ====
section
/-!
DEFINITION. Sys2Proof/Machine/System.lean: traps, SYSCALL, BREAK, SYNC, ERET and WAIT (46_trap_special R480 to R508), the
moves to and from coprocessor 0 and its TLB words, COP2 and COP3 (47_coprocessor_cp0 R510 to R535).
-/

namespace Sys2Proof.Machine

/-! ## SYSCALL, BREAK, traps, SYNC -/

/-- A conditional trap (R483, R491). -/
def State.trapIf (s : State) (cond : Bool) : Result := if cond then s.trap .tr else s.done

/-- SYSCALL (R481). -/
def execSyscall (_code : BitVec 20) (s : State) : Result := s.trap .sys
/-- BREAK (R482). -/
def execBreak (_code : BitVec 20) (s : State) : Result := s.trap .bp
/-- TGE (R484). -/
def execTge (rs rt : Reg) (_code : BitVec 10) (s : State) : Result := s.trapIf ((s.reg rt).sle (s.reg rs))
/-- TGEU (R485). -/
def execTgeu (rs rt : Reg) (_code : BitVec 10) (s : State) : Result := s.trapIf ((s.reg rt).ule (s.reg rs))
/-- TLT (R486). -/
def execTlt (rs rt : Reg) (_code : BitVec 10) (s : State) : Result := s.trapIf ((s.reg rs).slt (s.reg rt))
/-- TLTU (R487). -/
def execTltu (rs rt : Reg) (_code : BitVec 10) (s : State) : Result := s.trapIf ((s.reg rs).ult (s.reg rt))
/-- TEQ (R488). -/
def execTeq (rs rt : Reg) (_code : BitVec 10) (s : State) : Result := s.trapIf (s.reg rs == s.reg rt)
/-- TNE (R489). -/
def execTne (rs rt : Reg) (_code : BitVec 10) (s : State) : Result := s.trapIf (s.reg rs != s.reg rt)
/-- TGEI (R492). -/
def execTgei (rs : Reg) (imm : BitVec 16) (s : State) : Result := s.trapIf ((sextImm imm).sle (s.reg rs))
/-- TGEIU (R493). -/
def execTgeiu (rs : Reg) (imm : BitVec 16) (s : State) : Result := s.trapIf ((sextImm imm).ule (s.reg rs))
/-- TLTI (R494). -/
def execTlti (rs : Reg) (imm : BitVec 16) (s : State) : Result := s.trapIf ((s.reg rs).slt (sextImm imm))
/-- TLTIU (R495). -/
def execTltiu (rs : Reg) (imm : BitVec 16) (s : State) : Result := s.trapIf ((s.reg rs).ult (sextImm imm))
/-- TEQI (R496). -/
def execTeqi (rs : Reg) (imm : BitVec 16) (s : State) : Result := s.trapIf (s.reg rs == sextImm imm)
/-- TNEI (R497). -/
def execTnei (rs : Reg) (imm : BitVec 16) (s : State) : Result := s.trapIf (s.reg rs != sextImm imm)
/-- SYNC: no architectural effect (R490, D9). -/
def execSync (s : State) : Result := s.done

/-! ## ERET and WAIT -/

/-- ERET (R500, R501): the usability test comes first (30_encoding R259, 47_coprocessor_cp0 R511; log 36), and then it has no
meaning in a delay slot (U18). -/
def execEret (s : State) : Result := s.needCp0 (s.outsideSlot (.next s.returnFromException))

/-- BusIdle (R505, D20): ExtRqst* is not asserted and the write buffer is empty. While writes are on record that may still be
buffered, whether the last of them has left is a free choice (log 42). -/
def State.busIdle (s : State) : Bool := !s.events.extRqst && (s.bus.writes.isEmpty || s.freeBool)

/-- WAIT: standby, with the write buffer empty, when the bus is idle; else nothing (R505). -/
def execWait (s : State) : Result :=
  s.needCp0 <|
    if s.busIdle then .next { s.drawn.drained.advance with standby := true } else s.drawn.done

/-! ## Reading coprocessor 0 (11_cp0_registers R114) -/

/-- The 64-bit registers: BadVAddr, EPC, ErrorEPC (R72, D3). -/
def isCp0Reg64 (rd : Reg) : Bool := rd == 8 || rd == 14 || rd == 30

/-- The value of a CP0 register: a 64-bit register whole, a 32-bit one sign-extended; none for an unused number. -/
def State.readCp0 (s : State) (rd : Reg) : Option DWord :=
  let c := s.cp0
  match rd.toNat with
  | 0 => some (sext32 (baseWord c.ibase))
  | 1 => some (sext32 (boundWord c.ibound))
  | 2 => some (sext32 (baseWord c.dbase))
  | 3 => some (sext32 (boundWord c.dbound))
  | 8 => some c.badVAddr
  | 9 => some (sext32 c.count)
  | 11 => some (sext32 c.compare)
  | 12 => some (sext32 c.status.toWord)
  | 13 => some (sext32 (c.cause.toWord s.hardwareIp))
  | 14 => some c.epc
  | 15 => some (sext32 pridWord)
  | 16 => some (sext32 (configWord s.boot))
  | 17 => some (sext32 (c.calg &&& calgMask))
  | 18 => some (sext32 c.iwatch.toWord)
  | 19 => some (sext32 c.dwatch.toWord)
  | 26 => some (c.ecc.zeroExtend 64)
  | 27 => some (sext32 c.cacheErr)
  | 28 => some (sext32 c.tagLo.toWord)
  | 30 => some c.errorEpc
  | _ => none

/-! ## Writing coprocessor 0 (11_cp0_registers R114) -/

/-- What a write of a CP0 register does to the registers of coprocessor 0; a read-only register ignores it, an unused
number has none. -/
def Cp0.write (c : Cp0) (rd : Reg) (data : DWord) : Option Cp0 :=
  let v := low32 data
  match rd.toNat with
  | 0 => some { c with ibase := v.extractLsb' 12 20 }
  | 1 => some { c with ibound := v.extractLsb' 12 19 }
  | 2 => some { c with dbase := v.extractLsb' 12 20 }
  | 3 => some { c with dbound := v.extractLsb' 12 19 }
  | 8 => some c
  | 9 => some { c with count := v }
  | 11 => some { c with compare := v }
  | 12 => some { c with status := Status.ofWord v }
  | 13 => some { c with cause := c.cause.write v }
  | 14 => some { c with epc := data }
  | 15 => some c
  | 16 => some c
  | 17 => some { c with calg := v &&& calgMask }
  | 18 => some { c with iwatch := IWatch.ofWord v }
  | 19 => some { c with dwatch := DWatch.ofWord v }
  | 26 => some { c with ecc := v.truncate 8 }
  | 27 => some c
  | 28 => some { c with tagLo := TagLo.ofWord v }
  | 30 => some { c with errorEpc := data }
  | _ => none

/-- Is this a write of a base or bounds register (R772)? Every write counts, also one that leaves the value as it was: R772's
gloss, R784 and U23 speak of the MTC0. -/
def writesMapping (rd : Reg) : Bool := rd == 0 || rd == 1 || rd == 2 || rd == 3

/-- Is this a write of translation or mode state, next to which no load or store may stand (70_reset_and_hazards R778,
D24)? -/
def translationWrite (rd : Reg) (old new : Cp0) : Bool :=
  writesMapping rd || rd == 17 ||
  (old.status.um != new.status.um || old.status.exl != new.status.exl || old.status.erl != new.status.erl ||
    old.status.re != new.status.re)

/-- The hazard record after a write of CP0 register `rd` (R772, R775 to R778), `aged` being the one behind any instruction. -/
def Hazards.afterCp0Write (aged : Hazards) (rd : Reg) (old new : Cp0) : Hazards :=
  { aged with
    afterMtc0 := true
    afterTransWrite := translationWrite rd old new
    mappedWindow := if writesMapping rd then 5 else aged.mappedWindow
    ilWindow := if old.status.il != new.status.il then 5 else aged.ilWindow
    dlWindow := if old.status.dl != new.status.dl then 3 else aged.dlWindow
    iwWindow := if rd == 18 && new.iwatch.i then 5 else aged.iwWindow
    dwWindow := if rd == 19 && (new.dwatch.r || new.dwatch.w) then 2 else aged.dwWindow }

/-- The regions that are active while the instruction at the PC executes: its own, those of the instructions before and
behind it, and those of the stores that may still stand in the write buffer (70_reset_and_hazards R771; log 15). -/
def State.activeRegions (s : State) : List (BitVec 3) :=
  regionOf s.pc :: regionOf s.advance.pc :: (s.hazards.lastRegion.toList ++ s.bus.writes.filterMap (·.region))

/-- Does a write of CAlg change the field of an active region (R771)? -/
def State.changesActiveCalg (s : State) (new : Cp0) : Bool :=
  s.activeRegions.any fun r => calgField s.cp0.calg r != calgField new.calg r

/-- A write of CP0 register `rd` (R516): the forms the hazard rules leave without meaning, else the write, effective for
the next instruction (70_reset_and_hazards R773). A write of Compare clears the timer latch (11_cp0_registers R96). -/
def State.writeCp0 (s : State) (rd : Reg) (data : DWord) : Result :=
  match s.cp0.write rd data with
  | none => .refused .reservedCp0Register
  | some c =>
    if s.hazards.afterMem && translationWrite rd s.cp0 c then .refused .memoryBesideTranslationWrite
    else if !(low32 s.pc).msb && writesMapping rd then .refused .mappedSpaceInWindow
    else if rd == 17 && s.changesActiveCalg c then .refused .calgOfActiveRegion
    else
      .next { s.advance with
        cp0 := c
        events := if rd = 11 then { s.events with timerPending := false } else s.events
        hazards := s.agedHazards.afterCp0Write rd s.cp0 c }

/-! ## The moves -/

/-- MFC0 (R515): the low word, sign-extended; any value right behind an MTC0 or DMTC0 (70_reset_and_hazards R775, U21). -/
def execMfc0 (rt rd : Reg) (s : State) : Result :=
  s.needCp0 <|
    match s.readCp0 rd with
    | none => .refused .reservedCp0Register
    | some v =>
      if s.hazards.afterMtc0 then (s.setReg rt (s.free 64)).drawn.done
      else (s.setReg rt (sext32 (low32 v))).done

/-- DMFC0 (R517): all 64 bits; any value from a 32-bit register (U4) or right behind an MTC0 or DMTC0 (U21). -/
def execDmfc0 (rt rd : Reg) (s : State) : Result :=
  s.needCp0 <| s.need64 <|
    match s.readCp0 rd with
    | none => .refused .reservedCp0Register
    | some v =>
      if s.hazards.afterMtc0 || !isCp0Reg64 rd then (s.setReg rt (s.free 64)).drawn.done
      else (s.setReg rt v).done

/-- MTC0 (R516). -/
def execMtc0 (rt rd : Reg) (s : State) : Result := s.needCp0 (s.writeCp0 rd (s.reg rt))

/-- DMTC0 (R518): a 32-bit register takes any value (U4). -/
def execDmtc0 (rt rd : Reg) (s : State) : Result :=
  s.needCp0 <| s.need64 <|
    if isCp0Reg64 rd then s.writeCp0 rd (s.reg rt) else s.drawn.writeCp0 rd (s.free 64)

/-! ## Words without an operation on this processor -/

/-- TLBR (R530, U13). -/
def execTlbr (s : State) : Result := s.reservedCop0
/-- TLBWI (R530, U13). -/
def execTlbwi (s : State) : Result := s.reservedCop0
/-- TLBWR (R530, U13). -/
def execTlbwr (s : State) : Result := s.reservedCop0
/-- TLBP (R530, U13). -/
def execTlbp (s : State) : Result := s.reservedCop0
/-- A COP2 word (R513, U14). -/
def execCop2 (_cofun : BitVec 26) (s : State) : Result := s.cop2
/-- A COP3 word: Reserved Instruction, whatever CU3 holds (R513; 30_encoding R270). -/
def execCop3 (_cofun : BitVec 26) (s : State) : Result := s.trap .ri

end Sys2Proof.Machine
end

