-- ==== Sys2Proof/Machine/Run.lean ====
section
/-!
DEFINITION. Sys2Proof/Machine/Run.lean: what one step does around the meaning of an instruction: inputs, standby, the
events taken in place of an instruction, fetch and decode, the timer, resets (00_scope R14, R16; 46_trap_special R506;
60_exceptions R679, R695, R701, R706).
-/

namespace Sys2Proof.Machine

/-! ## Inputs (log 44) -/

/-- Does standby end (46_trap_special R506, D20)? -/
def State.wakes (s : State) : Bool := s.hardwareIp != 0 || s.events.nmiPending || s.events.extRqst

/-- The asserted ExtRqst* that an external request comes with ends standby (46_trap_special R506). -/
def State.awake (s : State) : State := { s with standby := false }

/-- Standby ended, when something that ends it is asserted now (R506). -/
def State.woken (s : State) : State := { s with standby := s.standby && !s.wakes }

/-- New pin levels. NMI* falling ends standby (R506), whether or not NMIpending is set by it: the NMI level of 60_exceptions
R706 is high already while bit 6 of the Interrupt register is set. -/
def State.setPins (s : State) (int : BitVec 6) (nmi extRqst : Bool) : State :=
  { s.setEvents { s.events with intPins := int, nmiPin := nmi, extRqst := extRqst } with
    standby := s.standby && !(nmi && !s.events.nmiPin) }

/-- What one input does. -/
def State.receive (s : State) : Input → Except Refusal State
  | .pins int nmi extRqst => .ok (s.setPins int nmi extRqst)
  | .externalWrite addr data =>
    .ok (s.setEvents { s.events with intReg := intRegAfter s.events.intReg addr data }).awake
  | .externalNull => .ok s.awake
  | .externalRead => .error .externalReadRequest
  | .agentWrite addr value => .ok { s with mem := writeByte s.platform s.mem addr.toNat value }

/-- One input delivered. What is asserted before it, or by it, ends standby at once, so that a later input of the same step
which releases it again comes too late (46_trap_special R506). -/
def State.deliver (s : State) (i : Input) : Except Refusal State :=
  match s.woken.receive i with
  | .ok t => .ok t.woken
  | .error q => .error q

/-- Some inputs delivered, one after the other. -/
def State.deliverAll (s : State) : List Input → Except Refusal State
  | [] => .ok s
  | i :: is =>
    match s.deliver i with
    | .ok t => t.deliverAll is
    | .error q => .error q

/-- The inputs that arrive within an instruction (80_system_interface R814). -/
def Access.deliver {α : Type} (x : Access α) (is : List Input) : Access α :=
  match x with
  | .ok v s =>
    match s.deliverAll is with
    | .ok t => .ok v t
    | .error q => .refused q
  | .trap s =>
    match s.deliverAll is with
    | .ok t => .trap t
    | .error q => .refused q
  | .fault r => .fault r
  | .refused q => .refused q

/-! ## One instruction -/

/-- A word that is no instruction of the table (30_encoding R275, R276). -/
def State.execUndefined (s : State) : DecodeError → Result
  | .reservedInstruction => s.trap .ri
  | .reservedCop0 => s.reservedCop0
  | .reservedCop1 => s.reservedCop1

/-- A fetched word executed. -/
def State.execWord (s : State) (w : Word) : Result :=
  match decode w with
  | .ok i => exec i s
  | .error e => s.execUndefined e

/-! ## One cycle -/

/-- The postponed Watch exception (60_exceptions R695). -/
def State.takePostponedWatch (s : State) : State :=
  let t := s.takeException (.watch s.events.iwPend s.events.dwPend) none
  { t with events := { t.events with iwPend := false, dwPend := false } }

/-- Is a postponed Watch exception due (R695)? -/
def State.watchDue (s : State) : Bool := s.cp0.status.watchNow && (s.events.iwPend || s.events.dwPend)

/-- An instruction boundary (60_exceptions R679, R695, R701, R706; D28, D30): NMI, a postponed watch, an interrupt, unless
the platform still hides it (U28), else the fetch of the next instruction. What is taken in place of an instruction ends
in `trap`. -/
def State.boundary (s : State) (hold : Bool) : Access Word :=
  if s.events.nmiPending then .trap s.takeNmi
  else if s.watchDue then .trap s.takePostponedWatch
  else if s.interruptRequest && !hold then .trap (s.takeException .int none)
  else s.fetch

/-- The first half of a cycle: standby, or an instruction boundary. -/
def State.begun (s : State) (hold : Bool) : Access Word :=
  if s.standby && !s.wakes then .trap s else s.awake.boundary hold

/-- A cycle: its first half, the inputs that arrive within the instruction, then its execution. -/
def State.cycle (s : State) (a : Arrivals) : Result :=
  ((s.begun a.hold).deliver a.within).finish fun w s => s.execWord w

/-- The end of a cycle: the timer runs as the platform's tick input says (11_cp0_registers R95, D5), and no line is in
transit. -/
def ticked (ticks : Option Nat) (r : Result) : Result :=
  match r with
  | .next s => .next (s.settled.timed ticks)
  | .fault f => .fault f
  | .refused q => .refused q

/-! ## Resets (60_exceptions R674, R675; 70_reset_and_hazards R743, R744; U27; log 20) -/

/-- A byte that a lost write was to change: any value. -/
def State.loseByte (s : State) (x : Word) : State :=
  { s with mem := writeByte s.platform s.mem x.toNat (s.free 8) }.drawn

/-- A cache line that was being refilled or written back: any value, its tag, state and parity with it. The linked line clears
LLbit when those values change its tag or state, on a warm reset too: 70_reset_and_hazards R744 keeps every register, while
40_load_store R330 and 21_caches R247 clear LLbit on such a change, and the choice between them is the model's (logs 20, 39). -/
def State.loseLine (s : State) (l : LineRef) : State :=
  let tag := Config.freeBits 20 s.fresh
  let bits := Config.freeBits 10 (s.fresh + 1)
  let d := Config.freeBits 256 (s.fresh + 2)
  let p := Config.freeBits 32 (s.fresh + 3)
  let data := Vector.ofFn fun k : Fin 32 => d.extractLsb' (8 * k.val) 8
  let t :=
    if l.instr then
      s.setILine l.way l.index
        { tag := tag, tagHi := bits.extractLsb' 6 4, valid := bits.getLsbD 0, f := bits.getLsbD 1, tagPar := bits.getLsbD 2,
          data := data, par := Vector.ofFn fun k => p.getLsbD k.val }
    else
      s.setDLine l.way l.index
        { tag := tag, tagHi := bits.extractLsb' 6 4, cs := bits.extractLsb' 0 2, f := bits.getLsbD 2, w := bits.getLsbD 3,
          wPar := bits.getLsbD 4, tagPar := bits.getLsbD 5, data := data, par := Vector.ofFn fun k => p.getLsbD k.val }
  { t with fresh := s.fresh + 4 }

/-- A reset empties the write buffer and abandons what the bus was doing: the lines in transit are any value, and so are the
bytes of the `lost` youngest writes, which have not been performed. -/
def State.interruptBus (s : State) (lost : Nat) : State :=
  { ((s.bus.writes.take lost).flatMap (·.bytes)).foldl State.loseByte (s.bus.lines.foldl State.loseLine s) with
    bus := Bus.reset }

/-- What the bus of an instruction that a reset cuts short was doing: it had the lines of `t` in transit, and `t`'s writes
may stand in the buffer in front of those of `s`. -/
def State.withBusOf (s t : State) : State :=
  { s with bus := { writes := t.bus.writes ++ s.bus.writes, lines := t.bus.lines } }

/-- The state with every silent region answering, so that what a hung read or write has in transit can be told. -/
def State.answering (s : State) : State :=
  { s with platform := s.platform.map fun r => if r.kind == .silent then { r with kind := .device } else r }

/-- The state an operation ends in, `s` when it stops. -/
def Access.stateOr {α : Type} (x : Access α) (s : State) : State :=
  match x with
  | .ok _ t => t
  | .trap t => t
  | _ => s

/-- The state a meaning ends in, `s` when it stops. -/
def nextOr (r : Result) (s : State) : State :=
  match r with
  | .next t => t
  | _ => s

/-- The machine as a reset finds it that arrives in this phase of a cycle: the registers and the memory from before the part
that it cuts short, and what the bus was doing in that part. -/
def State.cutShort (s : State) (a : Arrivals) : Phase → Except Refusal State
  | .boundary => s.settled.deliverAll a.within
  | .fetch =>
    (s.settled.withBusOf ((s.settled.answering.begun a.hold).stateOr s.settled)).deliverAll a.within
  | .execution =>
    match (s.settled.begun a.hold).deliver a.within with
    | .ok w t => .ok (t.settled.withBusOf (nextOr (t.settled.answering.execWord w) t.settled))
    | .trap t => .ok t.settled
    | .fault _ => .ok (s.settled.withBusOf ((s.settled.answering.begun a.hold).stateOr s.settled))
    | .refused q => .error q

/-- A reset taken: the bus interrupted, then the exception. -/
def State.takeReset (s : State) (r : ResetRequest) : Result :=
  match r.kind with
  | .warm => .next (s.interruptBus r.lost).warmReset
  | .cold stream =>
    if reservedStream s.part stream then .refused .reservedBootMode
    else .next ((s.interruptBus r.lost).coldReset (BootMode.ofStream stream))

/-! ## One step -/

/-- What arrives in the next step. -/
def State.arrivals (s : State) : Arrivals := s.inputs.headD Arrivals.quiet

/-- One step in which `a` arrives: the inputs at the boundary, then a reset or a cycle. -/
def State.runWith (s : State) (a : Arrivals) : Result :=
  match s.deliverAll a.before with
  | .error q => .refused q
  | .ok t =>
    match a.reset with
    | none => ticked a.ticks (t.cycle a)
    | some r =>
      match t.cutShort a r.phase with
      | .error q => .refused q
      | .ok u => u.takeReset r

/-- One step. -/
def State.run (s : State) : Result := { s with inputs := s.inputs.tail }.runWith s.arrivals

/-! ## Placing a word where it is fetched (log 8) -/

/-- The physical address of the PC; nothing when it has none. -/
def State.fetchPa (s : State) : Option (Word × BitVec 3) :=
  match s.translateFetch with
  | .ok pa alg => some (pa, alg)
  | _ => none

/-- The bytes of an instruction word, first address first, in the byte order of memory (20_memory R154). -/
def State.wordBytesOf (s : State) (w : Word) : List Byte := toBytes s.boot.bigEndian 4 w.toNat

/-- Bytes put into memory one after the other. -/
def putMem (m : Memory) (x : Nat) : List Byte → Memory
  | [] => m
  | b :: bs => putMem (m.set x b) (x + 1) bs

/-- Bytes put into the data of an instruction-cache line, the parity of their word with them. -/
def ILine.putWord (l : ILine) (k : Nat) (bs : List Byte) : ILine :=
  { l with
    data := (((l.data.set (k % 32) (bs.getD 0 0)).set ((k + 1) % 32) (bs.getD 1 0)).set ((k + 2) % 32)
      (bs.getD 2 0)).set ((k + 3) % 32) (bs.getD 3 0)
    par := l.par.set (k / 4 % 8) ((bs.map parity).foldl xor false) }

/-- The word stored where the next fetch reads it: in memory, and in the line that the fetch hits, if there is one. -/
def State.placeWord (s : State) (w : Word) : State :=
  match s.fetchPa with
  | none => s
  | some (pa, alg) =>
    let t := { s with mem := putMem s.mem pa.toNat (s.wordBytesOf w) }
    if alg = 2 then t
    else
      match s.icache.lookup pa with
      | .hit way =>
        t.setILine way (lineIndex pa)
          ((s.icache.line way (lineIndex pa)).putWord (pa.toNat % 32) (s.wordBytesOf w))
      | _ => t

end Sys2Proof.Machine
end

