-- ==== Sys2Proof/Machine/Step.lean ====
section
/-!
DEFINITION. Sys2Proof/Machine/Step.lean: the step of the machine, and the word a test places for it.
-/

namespace Sys2Proof.Machine

/-- One step of the machine (00_scope R14): `State.run`. -/
def step (s : State) : Host.Outcome State Fault Refusal := s.run

/-- `s` with the instruction of the table's `nbits` low bits of `w` stored where the next step fetches (log 8). -/
def State.withFetchWord (s : State) (nbits w : Nat) : State := s.placeWord (BitVec.ofNat 32 (w % 2 ^ nbits))

end Sys2Proof.Machine
end

