-- ==== Sys2Proof/Safety.lean ====
section
/-!
DEFINITION. Sys2Proof/Safety.lean: the terms the statements use: what an instruction leaves unchanged, what it means that
an exception was taken, the invariant of the machine, and the conditions of a plain memory access.
-/

namespace Sys2Proof.Machine

/-! ## What stays as it was -/

/-- Every general register reads as before. -/
def SameGpr (s t : State) : Prop := ∀ r, t.reg r = s.reg r

/-- Every general register but `rd` reads as before. -/
def SameGprBut (rd : Reg) (s t : State) : Prop := ∀ r, r ≠ rd → t.reg r = s.reg r

/-- GPR[rd] is `v` (r0 still reads 0) and every other general register reads as before. -/
def WritesGpr (rd : Reg) (v : DWord) (s t : State) : Prop :=
  t.reg rd = (if rd = 0 then 0 else v) ∧ SameGprBut rd s t

/-- HI and LO are as before. -/
def SameHiLo (s t : State) : Prop := t.hi = s.hi ∧ t.lo = s.lo

/-- LLbit and the linked address are as before. -/
def SameLink (s t : State) : Prop := t.llBit = s.llBit ∧ t.llAddr = s.llAddr ∧ t.llSeen = s.llSeen

/-- Both caches are as before. -/
def SameCaches (s t : State) : Prop := t.icache = s.icache ∧ t.dcache = s.dcache

/-- What the world outside the core has to say is as before: pins, latches, boot mode, map, pending inputs, standby. -/
def SameOutside (s t : State) : Prop :=
  t.events = s.events ∧ t.boot = s.boot ∧ t.part = s.part ∧ t.platform = s.platform ∧ t.inputs = s.inputs ∧
  t.standby = s.standby

/-- Every byte of memory reads as before. -/
def SameBytes (s t : State) : Prop := ∀ a, t.mem.get a = s.mem.get a

/-- Every byte of memory outside `xs` reads as before. -/
def SameBytesBut (xs : List Nat) (s t : State) : Prop := ∀ a, a ∉ xs → t.mem.get a = s.mem.get a

/-- Coprocessor 0, the link, the caches, memory and the outside are as before. -/
def SameSystem (s t : State) : Prop :=
  t.cp0 = s.cp0 ∧ SameLink s t ∧ SameCaches s t ∧ SameBytes s t ∧ SameOutside s t

/-- The frame of an instruction whose one result is GPR[rd]. -/
def FrameGpr (s t : State) : Prop := SameHiLo s t ∧ t.fpu = s.fpu ∧ SameSystem s t

/-- The frame of an instruction whose results are HI and LO. -/
def FrameHiLo (s t : State) : Prop := SameGpr s t ∧ t.fpu = s.fpu ∧ SameSystem s t

/-- The frame of an instruction whose results lie in the FPU. -/
def FrameFpu (s t : State) : Prop := SameGpr s t ∧ SameHiLo s t ∧ SameSystem s t

/-- The frame of an instruction that changes no register: a jump, a branch, a trap not taken. -/
def FrameNone (s t : State) : Prop := SameGpr s t ∧ SameHiLo s t ∧ t.fpu = s.fpu ∧ SameSystem s t

/-! ## The program counter -/

/-- The end of an instruction that is no jump (45_jump_branch R442): the branch target behind a delay slot of a taken
branch, else the next word. -/
def Advanced (s t : State) : Prop :=
  t.pc = (match s.inDelaySlot, s.nextPc with
    | true, some target => target
    | _, _ => s.pc + 4) ∧
  t.nextPc = none ∧ t.inDelaySlot = false

/-- The delay slot comes next, and after it `target` (R442). -/
def JumpsTo (target : DWord) (s t : State) : Prop :=
  t.pc = s.pc + 4 ∧ t.nextPc = some target ∧ t.inDelaySlot = true

/-- A branch that is not taken: the delay slot comes next, or is nullified when the branch is Likely (R441, R443). -/
def NotTaken (likely : Bool) (s t : State) : Prop :=
  if likely then t.pc = s.pc + 8 ∧ t.nextPc = none ∧ t.inDelaySlot = false
  else t.pc = s.pc + 4 ∧ t.nextPc = none ∧ t.inDelaySlot = true

/-- The end of a conditional branch with a byte displacement. -/
def Branches (taken likely : Bool) (target : DWord) (s t : State) : Prop :=
  if taken then JumpsTo target s t else NotTaken likely s t

/-! ## The record of the last instructions

The model's own (logs 14, 15): what the hazard rules need of the past. -/

/-- The record one instruction further on, the instruction at the PC having set nothing in it. -/
def agedRecord (s : State) : Hazards where
  lastRegion := some (s.pc.extractLsb' 29 3)
  mfRd := s.hazards.mfRd
  mfAge := min (s.hazards.mfAge + 1) 2
  hiloPair := s.hazards.hiloPair
  afterMtc0 := false
  afterTransWrite := false
  afterMem := false
  afterCond := false
  mappedWindow := s.hazards.mappedWindow - 1
  ilWindow := s.hazards.ilWindow - 1
  dlWindow := s.hazards.dlWindow - 1
  iwWindow := s.hazards.iwWindow - 1
  dwWindow := s.hazards.dwWindow - 1

/-- The record behind a load, store or CACHE (70_reset_and_hazards R778). -/
def RecordsMem (s t : State) : Prop := t.hazards = { agedRecord s with afterMem := true }

/-- The record behind a write of register `rd` that leaves coprocessor 0 as `c` (70_reset_and_hazards R772, R775 to R778). -/
def cp0Record (s : State) (rd : Reg) (c : Cp0) : Hazards :=
  let old := s.cp0
  { agedRecord s with
    afterMtc0 := true
    afterTransWrite := decide (rd ∈ [0#5, 1#5, 2#5, 3#5, 17#5] ∨ c.status.um ≠ old.status.um ∨
      c.status.exl ≠ old.status.exl ∨ c.status.erl ≠ old.status.erl ∨ c.status.re ≠ old.status.re)
    mappedWindow := if rd ∈ [0#5, 1#5, 2#5, 3#5] then 5 else s.hazards.mappedWindow - 1
    ilWindow := if c.status.il ≠ old.status.il then 5 else s.hazards.ilWindow - 1
    dlWindow := if c.status.dl ≠ old.status.dl then 3 else s.hazards.dlWindow - 1
    iwWindow := if rd = 18 ∧ c.iwatch.i = true then 5 else s.hazards.iwWindow - 1
    dwWindow := if rd = 19 ∧ (c.dwatch.r = true ∨ c.dwatch.w = true) then 2 else s.hazards.dwWindow - 1 }

/-! ## An exception was taken -/

/-- What general exception entry does to the registers it saves into (60_exceptions R670, R671, R673): with EXL = 0 the
restart address, BD and, for an address exception, BadVAddr; with EXL = 1 none of them. -/
def ExceptionSaved (bad : Option DWord) (s t : State) : Prop :=
  if s.cp0.status.exl then
    t.cp0.epc = s.cp0.epc ∧ t.cp0.cause.bd = s.cp0.cause.bd ∧ t.cp0.badVAddr = s.cp0.badVAddr
  else
    t.cp0.epc = (if s.inDelaySlot then s.pc - 4 else s.pc) ∧ t.cp0.cause.bd = s.inDelaySlot ∧
    t.cp0.badVAddr = bad.getD s.cp0.badVAddr

/-- The registers of coprocessor 0 that no general exception writes are as before. -/
def SameOtherCp0 (s t : State) : Prop :=
  t.cp0.ibase = s.cp0.ibase ∧ t.cp0.ibound = s.cp0.ibound ∧ t.cp0.dbase = s.cp0.dbase ∧
  t.cp0.dbound = s.cp0.dbound ∧ t.cp0.count = s.cp0.count ∧ t.cp0.compare = s.cp0.compare ∧
  t.cp0.calg = s.cp0.calg ∧ t.cp0.iwatch = s.cp0.iwatch ∧ t.cp0.dwatch = s.cp0.dwatch ∧ t.cp0.ecc = s.cp0.ecc ∧
  t.cp0.cacheErr = s.cp0.cacheErr ∧ t.cp0.tagLo = s.cp0.tagLo ∧ t.cp0.errorEpc = s.cp0.errorEpc

/-- What a general exception with this code and unit does to the registers, at the common vector (60_exceptions R670 to
R673). -/
def ExceptionRegisters (code : BitVec 5) (unit : BitVec 2) (bad : Option DWord) (s t : State) : Prop :=
  ExceptionSaved bad s t ∧ SameOtherCp0 s t ∧
  t.cp0.cause.excCode = code ∧ t.cp0.cause.ce = unit ∧ t.cp0.cause.iv = s.cp0.cause.iv ∧
  t.cp0.cause.ip = s.cp0.cause.ip ∧ t.cp0.status = { s.cp0.status with exl := true } ∧
  t.pc = (if s.cp0.status.bev then 0xFFFFFFFFBFC00380 else 0xFFFFFFFF80000180) ∧
  t.nextPc = none ∧ t.inDelaySlot = false ∧ SameGpr s t ∧ SameHiLo s t

/-- A general exception was taken and changed nothing else but, perhaps, the FPU and the outside. -/
def ExceptionEntered (code : BitVec 5) (unit : BitVec 2) (bad : Option DWord) (s t : State) : Prop :=
  ExceptionRegisters code unit bad s t ∧ SameLink s t ∧ SameCaches s t ∧ SameBytes s t

/-- A general exception was taken and changed nothing else. -/
def ExceptionTaken (code : BitVec 5) (unit : BitVec 2) (bad : Option DWord) (s t : State) : Prop :=
  ExceptionEntered code unit bad s t ∧ t.fpu = s.fpu ∧ SameOutside s t

/-- The Floating-Point exception was taken with FCR31.Cause = `c` and nothing else of the FPU changed
(48_fpu_state_and_rules R573). -/
def FpExceptionTaken (c : FpCause) (s t : State) : Prop :=
  ExceptionEntered 15 0 none s t ∧ SameOutside s t ∧ t.fpu = { s.fpu with fcr31 := { s.fpu.fcr31 with cause := c } }

/-- CacheErr, field by field (11_cp0_registers R111): ER, EC = 0, ED, ET, ES = 0, EE, EB = 0, SIdx, PIdx (log 46). -/
def cacheErrWord (er ed et ee : Bool) (pa va : Word) : Word :=
  bit er ++ 0#1 ++ bit ed ++ bit et ++ 0#1 ++ bit ee ++ 0#4 ++ pa.extractLsb' 3 19 ++ 0#1 ++ va.extractLsb' 12 2

/-- The Cache Error exception was taken with CacheErr = `v` (60_exceptions R685): Cause, EPC and EXL are untouched. -/
def CacheErrorTaken (v : Word) (s t : State) : Prop :=
  t.cp0 = { s.cp0 with
    errorEpc := if s.inDelaySlot then s.pc - 4 else s.pc
    cacheErr := v
    status := { s.cp0.status with erl := true } } ∧
  t.pc = (if s.cp0.status.bev then 0xFFFFFFFFBFC00300 else 0xFFFFFFFFA0000100) ∧ t.nextPc = none ∧
  t.inDelaySlot = false ∧ SameGpr s t ∧ SameHiLo s t ∧ t.fpu = s.fpu ∧ SameOutside s t

/-! ## The step -/

/-- The number in a list of bytes, the first the most significant. -/
def bigNumber (bs : List Byte) : Nat := bs.foldl (fun v b => v * 256 + b.toNat) 0

/-- The number in a list of bytes, the first the least significant. -/
def littleNumber (bs : List Byte) : Nat := bs.foldr (fun b v => b.toNat + 256 * v) 0

/-- Nothing but the instruction at the PC is due: nothing arrives, the core is not in standby, and no NMI, postponed watch or
interrupt comes first. -/
def NothingDue (s : State) : Prop :=
  s.inputs = [] ∧ s.standby = false ∧ s.events.nmiPending = false ∧ s.watchDue = false ∧ s.interruptRequest = false

/-- The step answers what the instruction answers, with the end of the cycle behind it: no line in transit, half a tick of the
timer. -/
def StepAnswers (s : State) (r : Result) : Prop :=
  step s = match r with
    | .next t => .next t.settled.tick
    | .fault f => .fault f
    | .refused q => .refused q

/-- `u` is `t` behind a step whose tick input is `n`: Count is `n` further, the timer latch is set when an increment met
Compare (11_cp0_registers R95, R96), no line is in transit. -/
def Ticked (n : Nat) (t u : State) : Prop :=
  (u.events.timerPending = true ↔
    t.events.timerPending = true ∨ ∃ k, 1 ≤ k ∧ k ≤ n ∧ t.cp0.count + BitVec.ofNat 32 k = t.cp0.compare) ∧
  u = { t with
    cp0 := { t.cp0 with count := t.cp0.count + BitVec.ofNat 32 n }
    bus := { t.bus with lines := [] }
    events := { t.events with timerPending := u.events.timerPending } }

/-- Cause.IP[7:2] (60_exceptions R702): the Interrupt register's bit or the pin, but IP7 the timer latch unless boot-mode bit
11 disables the timer interrupt. -/
def interruptLines (s : State) : BitVec 6 :=
  let line (n : Nat) : BitVec 1 := bit (s.events.intReg.getLsbD n || s.events.intPins.getLsbD n)
  (if s.boot.timerDisabled then line 5 else bit s.events.timerPending) ++ line 4 ++ line 3 ++ line 2 ++ line 1 ++ line 0

/-- What ends standby is asserted: an interrupt line, a pending NMI, or ExtRqst* (46_trap_special R506). -/
def WakeAsserted (s : State) : Prop :=
  interruptLines s ≠ 0#6 ∨ s.events.nmiPending = true ∨ s.events.extRqst = true

/-- The number that four bytes stand for in memory's byte order (20_memory R154). -/
def memNumber (s : State) (bs : List Byte) : Nat := if s.boot.bigEndian then bigNumber bs else littleNumber bs

/-- The bytes that the writes target. -/
def lostBytes (ws : List BufferedWrite) : List Nat := ws.flatMap fun w => w.bytes.map (·.toNat)

/-- A step in which a reset arrives and nothing else. -/
def onlyReset (r : ResetRequest) : Arrivals := { Arrivals.quiet with reset := some r }

/-! ## The invariant -/

/-- What every step keeps: memory in canonical form; nothing stored in r0's place; the unimplemented bits of CAlg and the
zero bits of CacheErr (24:22 and 2) zero; a branch target waits only in a delay slot. -/
def State.Inv (s : State) : Prop :=
  s.mem.wf = true ∧ s.gpr[0] = 0 ∧ s.cp0.calg &&& ~~~calgMask = 0 ∧ s.cp0.cacheErr &&& 0x01C00004 = 0 ∧
  (s.nextPc.isSome → s.inDelaySlot = true)

/-! ## Plain memory accesses -/

/-- No hazard of 70_reset_and_hazards R772, R777, R778 is outstanding, no region of the map is anything but RAM, and DWatch
does not match `va`. -/
def QuietData (s : State) (va : DWord) (store : Bool) : Prop :=
  s.hazards.afterTransWrite = false ∧ s.hazards.mappedWindow = 0 ∧ s.hazards.dwWindow = 0 ∧ s.platform = [] ∧
  s.dwatchMatches va store = false

/-- The physical address and the cache algorithm of an address that translation lets through, `base` being DBase's field, or
IBase's for a fetch (20_memory R142, R146 to R148). -/
def translated (s : State) (base : BitVec 20) (va : DWord) : Word × BitVec 3 :=
  (if va.getLsbD 31 then 0#3 ++ va.extractLsb' 0 29 else (va.extractLsb' 12 20 + base) ++ va.extractLsb' 0 12,
    s.cp0.calg.extractLsb' (4 * (va.toNat / 2 ^ 29 % 8)) 3)

/-- The data address `va` translates to `pa` with the algorithm `alg` (20_memory R145 to R148); which these are,
AddressExceptions states. -/
def MapsTo (s : State) (va : DWord) (pa : Word) (alg : BitVec 3) : Prop := s.translateData va = .ok pa alg

/-- An uncached data access to RAM: nothing stands in its way (20_memory R160, R161; 21_caches R211). -/
def UncachedRam (s : State) (va : DWord) (pa : Word) (store : Bool) : Prop :=
  MapsTo s va pa 2 ∧ QuietData s va store

/-- A cached data access to RAM, with at most one copy of the line, and parity errors masked (Status.DE = 1). -/
def CachedRam (s : State) (va : DWord) (pa : Word) (alg : BitVec 3) (store : Bool) : Prop :=
  MapsTo s va pa alg ∧ (alg = 0 ∨ alg = 1 ∨ alg = 3) ∧ QuietData s va store ∧ s.cp0.status.de = true ∧
  s.dcache.lookup pa ≠ .both

/-- No MFHI or MFLO stands within two instructions before (44_multiply_divide R430). -/
def NoHiLoHazard (s : State) : Prop := 2 ≤ s.hazards.mfAge

/-- The instruction may execute 64-bit operations (30_encoding R280): Kernel mode, or UX = 1. -/
def Allows64 (s : State) : Prop := s.userMode = false ∨ s.cp0.status.ux = true

/-- Coprocessor 0 is usable (47_coprocessor_cp0 R511): Kernel mode, or CU0 = 1. -/
def Cp0Usable (s : State) : Prop := s.userMode = false ∨ s.cp0.status.cu.getLsbD 0 = true

/-- Coprocessor 1 is usable (47_coprocessor_cp0 R512). -/
def Cp1Usable (s : State) : Prop := s.cp0.status.cu.getLsbD 1 = true

/-- The FPU may execute an R-type word with these register fields (48_fpu_state_and_rules R551). -/
def FpRegsLegal (s : State) (fs : List Reg) : Prop :=
  s.cp0.status.fr = true ∨ ∀ f ∈ fs, f.getLsbD 0 = false

/-- No load, store or CACHE is kept from executing by a neighbouring MTC0 (70_reset_and_hazards R772, R778). -/
def NoMemHazard (s : State) : Prop := s.hazards.afterTransWrite = false ∧ s.hazards.mappedWindow = 0

/-! ## Bytes and data, as 20_memory R154 orders them -/

/-- The physical address of byte `k` of a datum whose first byte translates to `pa`: reversed within the doubleword when
a User-mode program runs with RE = 1. -/
def byteAddr (s : State) (pa : Word) (k : Nat) : Nat :=
  ((pa + BitVec.ofNat 32 k) ^^^ (if s.cp0.status.re && s.userMode then 7 else 0)).toNat

/-- The physical addresses of `n` bytes from `pa` on. -/
def byteAddrs (s : State) (pa : Word) (n : Nat) : List Nat := (List.range n).map (byteAddr s pa)

/-- The value of the `n`-byte datum at `pa`, each byte read by `read`, in the byte order of `s`. -/
def datum (read : Nat → Byte) (s : State) (pa : Word) (n : Nat) : Nat :=
  if s.bigEndianCpu then bigNumber ((byteAddrs s pa n).map read) else littleNumber ((byteAddrs s pa n).map read)

/-! ## Parts of a unit (40_load_store R310 to R323)

`size` is the unit's width in bytes, `o` the number of its bytes before the address, from the most significant on; `v` is the
unit in memory and `r` the register. -/

/-- The register after LWL or LDL: its upper bytes are the unit's lower ones. -/
def loadedLeft (size o v r : Nat) : Nat := v * 2 ^ (8 * o) % 2 ^ (8 * size) + r % 2 ^ (8 * o)

/-- The register after LWR or LDR: its lower bytes are the unit's upper ones. -/
def loadedRight (size o v r : Nat) : Nat :=
  r / 2 ^ (8 * (o + 1)) * 2 ^ (8 * (o + 1)) + v / 2 ^ (8 * (size - 1 - o))

/-- The unit after SWL or SDL: its lower bytes are the register's upper ones. -/
def storedLeft (size o v r : Nat) : Nat := v / 2 ^ (8 * (size - o)) * 2 ^ (8 * (size - o)) + r / 2 ^ (8 * o)

/-- The unit after SWR or SDR: its upper bytes are the register's lower ones. -/
def storedRight (size o v r : Nat) : Nat :=
  r * 2 ^ (8 * (size - 1 - o)) % 2 ^ (8 * size) + v % 2 ^ (8 * (size - 1 - o))

/-- The physical addresses of the bytes that SWL, SWR, SDL and SDR store, in the unit of `size` bytes at `unit` whose byte `n`
the address names: from that byte to the least significant one (left), or to the most significant one (right). -/
def partAddrs (s : State) (left : Bool) (unit : Word) (size n : Nat) : List Nat :=
  ((List.range size).filter fun k => if left = s.bigEndianCpu then decide (n ≤ k) else decide (k ≤ n)).map (byteAddr s unit)

/-! ## Answers -/

/-- The instruction completes: GPR[rd] is `v`, nothing else changes, the next instruction follows. -/
def GprResult (i : Instr) (rd : Reg) (v : DWord) (s : State) : Prop :=
  ∃ t, exec i s = .next t ∧ WritesGpr rd v s t ∧ FrameGpr s t ∧ Advanced s t

/-- The instruction completes: HI and LO take these values, nothing else changes, the next instruction follows. -/
def HiLoResult (i : Instr) (hi lo : DWord) (s : State) : Prop :=
  ∃ t, exec i s = .next t ∧ t.hi = hi ∧ t.lo = lo ∧ FrameHiLo s t ∧ Advanced s t

/-- The instruction completes and changes nothing but the program counter. -/
def NoResult (i : Instr) (s : State) : Prop := ∃ t, exec i s = .next t ∧ FrameNone s t ∧ Advanced s t

/-- The instruction takes this exception, and nothing else changes. -/
def TrapResult (i : Instr) (code : BitVec 5) (unit : BitVec 2) (bad : Option DWord) (s : State) : Prop :=
  ∃ t, exec i s = .next t ∧ ExceptionTaken code unit bad s t

/-- The instruction takes the Floating-Point exception with FCR31.Cause = `c`. -/
def FpTrapResult (i : Instr) (c : FpCause) (s : State) : Prop := ∃ t, exec i s = .next t ∧ FpExceptionTaken c s t

/-- The instruction completes: FGR[fd] is `v`, FCR31 is `f`, nothing else changes, the next instruction follows. -/
def FgrResult (i : Instr) (fd : Reg) (v : Word) (f : Fcr31) (s : State) : Prop :=
  ∃ t, exec i s = .next t ∧ t.fgr fd = v ∧ (∀ g, g ≠ fd → t.fgr g = s.fgr g) ∧ t.fpu.fcr31 = f ∧ FrameFpu s t ∧
    Advanced s t

/-- The store completes: the `n` bytes at `pa` hold `v`, every other byte and everything else is as before. -/
def StoreResult (i : Instr) (pa : Word) (n v : Nat) (s : State) : Prop :=
  ∃ t, exec i s = .next t ∧ datum t.mem.get s pa n = v % 256 ^ n ∧ SameBytesBut (byteAddrs s pa n) s t ∧
    SameGpr s t ∧ SameHiLo s t ∧ t.fpu = s.fpu ∧ t.cp0 = s.cp0 ∧ SameLink s t ∧ SameCaches s t ∧ SameOutside s t ∧
    Advanced s t ∧ RecordsMem s t

/-- The write of register `rd` of coprocessor 0 by `move rd` completes: the registers are `c`, the latches and pins `e`,
nothing else changes, the next instruction follows, and the record says what was written. -/
def Cp0Result (move : Reg → Instr) (rd : Reg) (c : Cp0) (e : Events) (s : State) : Prop :=
  ∃ t, exec (move rd) s = .next t ∧ t.cp0 = c ∧ t.events = e ∧ t.hazards = cp0Record s rd c ∧ SameGpr s t ∧
    SameHiLo s t ∧ t.fpu = s.fpu ∧ SameLink s t ∧ SameCaches s t ∧ SameBytes s t ∧ t.boot = s.boot ∧ t.part = s.part ∧
    t.platform = s.platform ∧ t.inputs = s.inputs ∧ t.standby = s.standby ∧ Advanced s t

/-- Status with the fields of the word `v` (11_cp0_registers R97, R71). -/
def statusOf (v : Word) : Status where
  cu := v.extractLsb' 28 4
  fr := v.getLsbD 26
  re := v.getLsbD 25
  dl := v.getLsbD 24
  il := v.getLsbD 23
  bev := v.getLsbD 22
  sr := v.getLsbD 20
  ch := v.getLsbD 18
  ce := v.getLsbD 17
  de := v.getLsbD 16
  im := v.extractLsb' 8 8
  ux := v.getLsbD 5
  um := v.getLsbD 4
  erl := v.getLsbD 2
  exl := v.getLsbD 1
  ie := v.getLsbD 0

/-- FCR31, field by field (48_fpu_state_and_rules R554; the layout: log 27). -/
def fcr31Bits (f : Fcr31) : Word := 0#7 ++ bit f.fs ++ bit f.c ++ 0#5 ++ f.cause ++ f.enables ++ f.flags ++ f.rm

/-- The registers and latches that a write of the word `v` leaves, for the 32-bit registers of coprocessor 0 that neither
translation nor the cache algorithms depend on, field by field (11_cp0_registers R97, R100, R108 to R110, R112, R114; layouts
of IWatch, DWatch and TagLo: logs 25, 26); a read-only register stays. -/
def plainCp0Writes (s : State) (v : Word) : List (Reg × Cp0 × Events) :=
  [(9, { s.cp0 with count := v }, s.events),
    (11, { s.cp0 with compare := v }, { s.events with timerPending := false }),
    (12, { s.cp0 with status := statusOf v }, s.events),
    (13, { s.cp0 with cause := { s.cp0.cause with iv := v.getLsbD 23, ip := v.extractLsb' 8 2 } }, s.events),
    (15, s.cp0, s.events), (16, s.cp0, s.events),
    (18, { s.cp0 with iwatch := { addr := v.extractLsb' 2 30, i := v.getLsbD 0 } }, s.events),
    (19, { s.cp0 with dwatch := { addr := v.extractLsb' 3 29, r := v.getLsbD 1, w := v.getLsbD 0 } }, s.events),
    (26, { s.cp0 with ecc := v.extractLsb' 0 8 }, s.events), (27, s.cp0, s.events),
    (28, { s.cp0 with tagLo :=
      { ptag := v.extractLsb' 8 24, pstate := v.extractLsb' 6 2, f := v.getLsbD 2, p := v.getLsbD 0 } }, s.events)]

/-- The words that MFC0 reads, field by field (11_cp0_registers R73 to R76, R95 to R114; layouts of IWatch, DWatch and TagLo:
logs 25, 26). -/
def cp0Words (s : State) : List (Reg × Word) :=
  let t := s.cp0.status
  let c := s.cp0.cause
  let b := s.boot
  [(0, s.cp0.ibase ++ 0#12), (1, 0#1 ++ s.cp0.ibound ++ 0#12), (2, s.cp0.dbase ++ 0#12),
    (3, 0#1 ++ s.cp0.dbound ++ 0#12), (8, low32 s.cp0.badVAddr), (9, s.cp0.count), (11, s.cp0.compare),
    (12, t.cu ++ 0#1 ++ bit t.fr ++ bit t.re ++ bit t.dl ++ bit t.il ++ bit t.bev ++ 0#1 ++ bit t.sr ++ 0#1 ++ bit t.ch ++
      bit t.ce ++ bit t.de ++ t.im ++ 0#2 ++ bit t.ux ++ bit t.um ++ 0#1 ++ bit t.erl ++ bit t.exl ++ bit t.ie),
    (13, bit c.bd ++ 0#1 ++ c.ce ++ 0#2 ++ bit c.dw ++ bit c.iw ++ bit c.iv ++ 0#7 ++ interruptLines s ++ c.ip ++ 0#1 ++
      c.excCode ++ 0#2),
    (14, low32 s.cp0.epc), (15, 0x22#24 ++ Config.pridRev),
    (16, 0#1 ++ b.ec ++ b.ep ++ 0#4 ++ (if b.bus32 then 1#2 else 0#2) ++ 0#2 ++ bit b.bigEndian ++ 0b110#3 ++ 0b001#3 ++
      0b001#3 ++ 0b1#1 ++ 0b1#1 ++ 0#1 ++ 0#3),
    (17, s.cp0.calg &&& 0x77777777), (18, s.cp0.iwatch.addr ++ 0#1 ++ bit s.cp0.iwatch.i),
    (19, s.cp0.dwatch.addr ++ 0#1 ++ bit s.cp0.dwatch.r ++ bit s.cp0.dwatch.w), (26, 0#24 ++ s.cp0.ecc),
    (27, s.cp0.cacheErr),
    (28, s.cp0.tagLo.ptag ++ s.cp0.tagLo.pstate ++ 0#3 ++ bit s.cp0.tagLo.f ++ 0#1 ++ bit s.cp0.tagLo.p),
    (30, low32 s.cp0.errorEpc)]

/-- The registers of coprocessor 0 that a write of the base or bound `rd` with the word `v` leaves (11_cp0_registers R73 to
R76). -/
def mappingWrites (s : State) (v : Word) : List (Reg × Cp0) :=
  [(0, { s.cp0 with ibase := v.extractLsb' 12 20 }), (1, { s.cp0 with ibound := v.extractLsb' 12 19 }),
    (2, { s.cp0 with dbase := v.extractLsb' 12 20 }), (3, { s.cp0 with dbound := v.extractLsb' 12 19 })]

/-- The region `r` (address bits 31:29) is active (70_reset_and_hazards R771; the reading: log 15): the instruction at the PC,
the one before it or the one behind it is fetched from it, or a store to it may still stand in the write buffer. -/
def ActiveRegion (s : State) (r : BitVec 3) : Prop :=
  r = s.pc.extractLsb' 29 3 ∨ s.hazards.lastRegion = some r ∨ (∃ w ∈ s.bus.writes, w.region = some r) ∨
  ∀ t, Advanced s t → r = t.pc.extractLsb' 29 3

/-! ## The forms of loads and stores -/

/-- The loads, each with its alignment. -/
def loadForms (base r : Reg) (offset : BitVec 16) : List (Instr × Nat) :=
  [(.lb base r offset, 1), (.lbu base r offset, 1), (.lh base r offset, 2), (.lhu base r offset, 2),
    (.lw base r offset, 4), (.lwu base r offset, 4), (.ld base r offset, 8), (.lwl base r offset, 1),
    (.lwr base r offset, 1), (.ldl base r offset, 1), (.ldr base r offset, 1), (.ll base r offset, 4),
    (.lld base r offset, 8), (.lwc1 base r offset, 4)]

/-- The stores that are not conditional, each with its alignment. -/
def storeForms (base r : Reg) (offset : BitVec 16) : List (Instr × Nat) :=
  [(.sb base r offset, 1), (.sh base r offset, 2), (.sw base r offset, 4), (.sd base r offset, 8),
    (.swl base r offset, 1), (.swr base r offset, 1), (.sdl base r offset, 1), (.sdr base r offset, 1),
    (.swc1 base r offset, 4)]

/-- The conditional stores, each with its alignment. -/
def conditionalForms (base r : Reg) (offset : BitVec 16) : List (Instr × Nat) :=
  [(.sc base r offset, 4), (.scd base r offset, 8)]

/-- A load or store may execute in this mode: a 64-bit one needs Kernel mode or UX, LWC1 and SWC1 need coprocessor 1
(30_encoding R280, 47_coprocessor_cp0 R512). -/
def MayExecute (s : State) : Instr → Prop
  | .lwu _ _ _ | .ld _ _ _ | .ldl _ _ _ | .ldr _ _ _ | .lld _ _ _ => Allows64 s
  | .sd _ _ _ | .sdl _ _ _ | .sdr _ _ _ | .scd _ _ _ => Allows64 s
  | .lwc1 _ _ _ | .swc1 _ _ _ => Cp1Usable s
  | _ => True

/-- The addresses of the aligned doubleword that holds `pa`. -/
def doubleOf (pa : Word) : List Nat := (List.range 8).map (pa.toNat / 8 * 8 + ·)

/-! ## The caches -/

/-- `l` is the line at index `i` that holds the linked address (21_caches R247; before any LL no line does: log 39). -/
def LinkedLine (s : State) (i : BitVec 7) (l : DLine) : Prop :=
  s.llSeen = true ∧ l.valid = true ∧ lineIndex s.llAddr = i ∧ lineTag s.llAddr = l.tag

/-- The link is as before, but that LLbit is cleared when `broken`: the linked line was invalidated or replaced (40_load_store
R330, 21_caches R247). -/
def LinkKept (broken : Prop) (s t : State) : Prop :=
  t.llAddr = s.llAddr ∧ t.llSeen = s.llSeen ∧ (t.llBit = true ↔ s.llBit = true ∧ ¬broken)

/-- What no CACHE operation changes: registers, the link unless it is `broken`, the outside; the next instruction follows. -/
def CacheFrame (broken : Prop) (s t : State) : Prop :=
  SameGpr s t ∧ SameHiLo s t ∧ t.fpu = s.fpu ∧ LinkKept broken s t ∧ SameOutside s t ∧ Advanced s t ∧ RecordsMem s t

/-- The data-cache lines at every other index are as before. -/
def SameDLines (i : BitVec 7) (s t : State) : Prop := ∀ w j, j ≠ i → t.dcache.line w j = s.dcache.line w j

/-- The instruction-cache lines at every other index are as before. -/
def SameILines (i : BitVec 7) (s t : State) : Prop := ∀ w j, j ≠ i → t.icache.line w j = s.icache.line w j

/-- Every other line of the data cache is as before. -/
def SameDLinesBut (w : Way) (i : BitVec 7) (s t : State) : Prop :=
  ∀ v j, ¬(v = w ∧ j = i) → t.dcache.line v j = s.dcache.line v j

/-- Every other line of the instruction cache is as before. -/
def SameILinesBut (w : Way) (i : BitVec 7) (s t : State) : Prop :=
  ∀ v j, ¬(v = w ∧ j = i) → t.icache.line v j = s.icache.line v j

/-- A refill of way `w` at index `i` touches no other line of the data cache but for F of way A (21_caches R208; log 21). -/
def RefillsD (w : Way) (i : BitVec 7) (s t : State) : Prop :=
  SameDLines i s t ∧ (t.dcache.line .a i).f = (w == .a) ∧
  ∀ v, v ≠ w → t.dcache.line v i = { s.dcache.line v i with f := (t.dcache.line v i).f }

/-- The same for the instruction cache. -/
def RefillsI (w : Way) (i : BitVec 7) (s t : State) : Prop :=
  SameILines i s t ∧ (t.icache.line .a i).f = (w == .a) ∧
  ∀ v, v ≠ w → t.icache.line v i = { s.icache.line v i with f := (t.icache.line v i).f }

/-- The way that a refill replaces, outside the window of a lock bit (21_caches R208; the choice between two valid unlocked
ways: log 21). -/
def victimWay (validA validB lock fA : Bool) : Way :=
  if validA = false then .a else if validB = false then .b else if lock = true ∨ fA = true then .b else .a

/-- The way of the data cache that a refill at index `i` replaces is `w`: outside the window of Status.DL, as R208 has it. -/
def Replaces (s : State) (i : BitVec 7) (w : Way) : Prop :=
  s.hazards.dlWindow = 0 →
    w = victimWay (s.dcache.line .a i).valid (s.dcache.line .b i).valid s.cp0.status.dl (s.dcache.line .a i).f

/-- `l` is the line of RAM that a refill at `pa` brings into the data cache, its parity generated (21_caches R214, R230; the
upper four bits of the tag zero: conflict C59). -/
def RefilledD (pa : Word) (l : DLine) (s : State) : Prop :=
  l.tag = lineTag pa ∧ l.tagHi = 0 ∧ l.cs = 3 ∧ l.tagPar = parity (l.tag ++ l.cs) ∧ l.w = false ∧ l.wPar = false ∧
  ∀ k : Fin 32, l.data[k] = s.mem.get (lineBaseOf pa + k) ∧ l.par[k] = parity l.data[k]

/-- The even-parity bit of word `k` of an instruction-cache line (21_caches R230). -/
def wordParity (l : ILine) (k : Nat) : Bool :=
  ((List.range 4).map fun j => parity l.data[(4 * k + j) % 32]).foldl xor false

/-- `l` is the line of RAM that a refill at `pa` brings into the instruction cache, but for its data parity (21_caches R214,
R230; C59). -/
def RefilledI (pa : Word) (l : ILine) (s : State) : Prop :=
  l.tag = lineTag pa ∧ l.tagHi = 0 ∧ l.valid = true ∧ l.tagPar = parity (l.tag ++ bit l.valid) ∧
  ∀ k : Fin 32, l.data[k] = s.mem.get (lineBaseOf pa + k)

/-- The bit of ECC that stands for byte `k` of a doubleword (log 46). -/
def eccByte (s : State) (k : Nat) : Bool := s.cp0.ecc.getLsbD (if s.boot.bigEndian then 7 - k % 8 else k % 8)

/-- The data parity of the line `l` behind a store of the bytes `xs` of the line containing `pa`: of these bytes their even
parity, or with Status.CE = 1 the bits of ECC; of the others what `par` has (21_caches R230; the layout of ECC: log 46). -/
def StoresParity (pa : Word) (xs : List Nat) (par : Vector Bool 32) (l : DLine) (s : State) : Prop :=
  ∀ k : Fin 32, l.par[k] =
    if lineBaseOf pa + k ∈ xs then (if s.cp0.status.ce then eccByte s k else parity l.data[k]) else par[k]

/-- What a store that hits under the algorithm `alg` makes of the line `old` besides its bytes: under algorithm 3 it is marked
written and Dirty Exclusive, under the others nothing (21_caches R211, R213; 80_system_interface R845). -/
def StoredState (alg : BitVec 3) (old l : DLine) : Prop :=
  l.tag = old.tag ∧ l.tagHi = old.tagHi ∧ l.f = old.f ∧
  if alg = 3 then l.cs = 3 ∧ l.tagPar = parity (l.tag ++ l.cs) ∧ l.w = true ∧ l.wPar = true
  else l.cs = old.cs ∧ l.tagPar = old.tagPar ∧ l.w = old.w ∧ l.wPar = old.wPar

/-- The line that an operation which invalidates the data-cache line `l` leaves (21_caches R239, R242, R244). -/
def invalidD (l : DLine) : DLine := { l with cs := 0, tagPar := parity (l.tag ++ 0#2) }

/-- The 32 bytes stand in memory from `base` on, and no other byte of memory changed. -/
def LineWritten (base : Nat) (data : Vector Byte 32) (s t : State) : Prop :=
  (∀ k : Fin 32, t.mem.get (base + k) = data[k]) ∧ SameBytesBut (lineBytes base) s t

/-- The write-back of the data-cache line `l` at index `i`: its bytes in memory when it is dirty, nothing otherwise
(21_caches R214, R215). -/
def WrittenBack (l : DLine) (i : BitVec 7) (s t : State) : Prop :=
  if l.dirty then LineWritten (lineBase l.tag i) l.data s t else SameBytes s t

/-- The write-back of CACHE 0x01, 0x15 and 0x19: as `WrittenBack`; with Status.CE = 1 of any valid line (21_caches R230, as
log 46 reads it). -/
def SentBack (l : DLine) (i : BitVec 7) (s t : State) : Prop :=
  if l.dirty ∨ s.cp0.status.ce = true ∧ l.valid then LineWritten (lineBase l.tag i) l.data s t else SameBytes s t

/-- What a load through the data cache does besides its register: nothing on a hit; on a miss a dirty victim's bytes reach
memory and the line, as memory holds it, takes the victim's place, with which the link is broken when it was the linked line
(21_caches R212, R214, R247). -/
def CachedLoadFrame (pa : Word) (s t : State) : Prop :=
  SameHiLo s t ∧ t.cp0 = s.cp0 ∧ t.icache = s.icache ∧ SameOutside s t ∧ Advanced s t ∧ RecordsMem s t ∧
  ((∃ w, s.dcache.lookup pa = .hit w) → SameBytes s t ∧ t.dcache = s.dcache ∧ LinkKept False s t) ∧
  (s.dcache.lookup pa = .miss →
    ∀ (i : BitVec 7) (w : Way) (old : DLine), i = lineIndex pa → w = s.dVictim i → old = s.dcache.line w i →
      Replaces s i w ∧ WrittenBack old i s t ∧ RefillsD w i s t ∧ t.dcache.lookup pa = .hit w ∧
      RefilledD pa (t.dcache.line w i) s ∧ LinkKept (LinkedLine s i old) s t)

/-- What a store through the data cache of the bytes `xs` does besides those bytes (21_caches R211, R213, R214, R230, R247):
under algorithm 3 the line is marked written and Dirty Exclusive; under the others memory is written as well; a miss under
algorithm 0 leaves the cache alone; a dirty victim's bytes reach memory. The link is broken when the linked line is replaced,
or when its state changes to Dirty Exclusive (log 39). -/
def CachedStoreFrame (pa : Word) (alg : BitVec 3) (xs : List Nat) (s t : State) : Prop :=
  SameGpr s t ∧ SameHiLo s t ∧ t.fpu = s.fpu ∧ t.cp0 = s.cp0 ∧ t.icache = s.icache ∧ SameOutside s t ∧ Advanced s t ∧
  RecordsMem s t ∧
  ∀ (i : BitVec 7) (v : Way) (old : DLine), i = lineIndex pa → v = s.dVictim i → old = s.dcache.line v i →
    (∀ x ∈ lineBytes (lineBaseOf pa), x ∉ xs → t.cachedByte pa x = s.cachedByte pa x) ∧
    (alg = 3 → ∃ w, t.dcache.lookup pa = .hit w ∧ (t.dcache.line w i).w = true ∧ (t.dcache.line w i).cs = 3) ∧
    (∀ (w : Way) (o l : DLine), s.dcache.lookup pa = .hit w → o = s.dcache.line w i → l = t.dcache.line w i →
      SameDLinesBut w i s t ∧ SameBytesBut (if alg = 3 then [] else xs) s t ∧ StoredState alg o l ∧
      StoresParity pa xs o.par l s ∧ LinkKept (alg = 3 ∧ o.cs ≠ 3 ∧ LinkedLine s i o) s t) ∧
    (s.dcache.lookup pa = .miss →
      (alg = 0 → t.dcache = s.dcache ∧ SameBytesBut xs s t ∧ LinkKept False s t) ∧
      (alg ≠ 0 → Replaces s i v ∧ t.dcache.lookup pa = .hit v ∧ RefillsD v i s t ∧
        SameBytesBut ((if alg = 3 then [] else xs) ++ (if old.dirty then lineBytes (lineBase old.tag i) else [])) s t ∧
        (old.dirty → ∀ k : Fin 32, t.mem.get (lineBase old.tag i + k) = old.data[k]) ∧
        LinkKept (LinkedLine s i old) s t ∧
        ∀ l : DLine, l = t.dcache.line v i →
          l.tag = lineTag pa ∧ l.tagHi = 0 ∧ l.cs = 3 ∧ l.tagPar = parity (l.tag ++ l.cs) ∧ l.w = decide (alg = 3) ∧
          l.wPar = l.w ∧ StoresParity pa xs (l.data.map parity) l s))

/-! ## Rounding, as 48_fpu_state_and_rules R555 words it -/

/-- Is the single a finite number? -/
def fpFinite (x : Word) : Prop := fpClass x = .zero ∨ fpClass x = .denorm ∨ fpClass x = .normal

/-- `v` is the finite single that the mode selects for the exact value `x / d` (in units of 2^-149, d > 0). -/
def RoundsTo (mode : RoundMode) (x : Int) (d : Nat) (v : Word) : Prop :=
  fpFinite v ∧
  match mode with
  | .rn => ∀ w, fpFinite w →
      |fpScaled v * d - x| ≤ |fpScaled w * d - x| ∧
      (|fpScaled v * d - x| = |fpScaled w * d - x| → fpScaled w = fpScaled v ∨ v.getLsbD 0 = false)
  | .rz => |fpScaled v * d| ≤ |x| ∧ 0 ≤ fpScaled v * x ∧
      ∀ w, fpFinite w → |fpScaled w * d| ≤ |x| → |fpScaled w| ≤ |fpScaled v|
  | .rp => x ≤ fpScaled v * d ∧ ∀ w, fpFinite w → x ≤ fpScaled w * d → fpScaled v ≤ fpScaled w
  | .rm => fpScaled v * d ≤ x ∧ ∀ w, fpFinite w → fpScaled w * d ≤ x → fpScaled w ≤ fpScaled v

/-- `v` is the finite single that the mode selects for the square root of `x` (in units of 2^-149), `x` not negative: the
squares compared, to the nearest through the middle between `v` and another single. -/
def RootRoundsTo (mode : RoundMode) (x : Int) (v : Word) : Prop :=
  fpFinite v ∧ 0 ≤ fpScaled v ∧
  match mode with
  | .rn => ∀ w, fpFinite w → 0 ≤ fpScaled w →
      (fpScaled v < fpScaled w → 4 * x ≤ (fpScaled v + fpScaled w) ^ 2) ∧
      (fpScaled w < fpScaled v → (fpScaled v + fpScaled w) ^ 2 ≤ 4 * x) ∧
      ((fpScaled v + fpScaled w) ^ 2 = 4 * x → fpScaled w = fpScaled v ∨ v.getLsbD 0 = false)
  | .rp => x ≤ fpScaled v ^ 2 ∧ ∀ w, fpFinite w → 0 ≤ fpScaled w → x ≤ fpScaled w ^ 2 → fpScaled v ≤ fpScaled w
  | _ => fpScaled v ^ 2 ≤ x ∧ ∀ w, fpFinite w → 0 ≤ fpScaled w → fpScaled w ^ 2 ≤ x → fpScaled w ≤ fpScaled v

/-- The directed modes that round a value of this sign away from zero. -/
abbrev RoundsAway (mode : RoundMode) (x : Int) : Prop := mode = .rp ∧ 0 < x ∨ mode = .rm ∧ x < 0

/-- The nonzero exact value `x / d` (in units of 2^-149, d > 0), rounded to 24 bits with an unbounded exponent, is beyond the
largest finite single (R566, R569): from half a unit above that on to the nearest, from anything above it on away from zero,
from 2^128 on toward zero. -/
def Overflows (mode : RoundMode) (x : Int) (d : Nat) : Prop :=
  if mode = .rn then (2 ^ 25 - 1) * 2 ^ 252 * d ≤ |x|
  else if RoundsAway mode x then (2 ^ 24 - 1) * 2 ^ 253 * d < |x|
  else 2 ^ 277 * d ≤ |x|

/-- The same value, rounded in the same way, lies below the smallest normal single, 2^-126, in magnitude (R566, R570): the
24-bit number next below that is smaller by half a unit, 2^-150. -/
def Tiny (mode : RoundMode) (x : Int) (d : Nat) : Prop :=
  if mode = .rn then 4 * |x| < (2 ^ 25 - 1) * d
  else if RoundsAway mode x then 2 * |x| ≤ (2 ^ 24 - 1) * d
  else |x| < 2 ^ 23 * d

/-- `n` is the integer that the mode selects for `x / d`, d > 0 (49_fpu_instructions R610). -/
def RoundsToInteger (mode : RoundMode) (x : Int) (d : Nat) (n : Int) : Prop :=
  match mode with
  | .rn => 2 * |n * d - x| ≤ d ∧ (2 * |n * d - x| = d → n % 2 = 0)
  | .rz => |n * d| ≤ |x| ∧ |x| < |n * d| + d ∧ 0 ≤ n * x
  | .rp => x ≤ n * d ∧ n * d < x + d
  | .rm => n * d ≤ x ∧ x < n * d + d

end Sys2Proof.Machine
end

