-- ==== Sys2Proof/Certificates/Slice0/Obligations.lean ====
section
/-!
DEFINITION. Sys2Proof/Certificates/Slice0/Obligations.lean: the statements for the provers, each from the rules of spec/
its docstring names. The terms they use are those of Sys2Proof/Safety.lean.
-/

open Sys2Proof Sys2Proof.Machine

/-! ## Encoding -/

/-- Decoding an encoded well-formed instruction gives it back (30_encoding R255 to R264). -/
def Obligations.DecodeEncode : Prop := ∀ i : Instr, i.WellFormed = true → decode (encode i) = .ok i

/-- A word decodes only to an instruction whose row of the opcode table matches it, and to a well-formed one
(30_encoding R255 to R264). -/
def Obligations.DecodeRow : Prop :=
  ∀ (w : Word) (i : Instr), decode w = .ok i → w &&& i.row.1 = i.row.2 ∧ i.WellFormed = true

/-- The example words of the instruction pages decode to the instructions they stand for (49_fpu_instructions R601, R616,
R625, R630, R635, R640; 46_trap_special R505). -/
def Obligations.DecodeWords : Prop :=
  decode 0x46062080 = .ok (.addS 6 4 2) ∧ decode 0x468020A0 = .ok (.cvtSW 4 2) ∧
  decode 0x4604103C = .ok (.cLtS 4 2) ∧ decode 0x44022000 = .ok (.mfc1 2 4) ∧
  decode 0x44C2F800 = .ok (.ctc1 2 31) ∧ decode 0xC4A40008 = .ok (.lwc1 5 4 8) ∧ decode 0x42000020 = .ok .wait ∧
  decode 0 = .ok (.sll 0 0 0)

/-- A word in a `*` cell of the opcode tables raises Reserved Instruction; that the SPECIAL2 functions 3 to 63 are such cells
is the model's choice, as D18 has it (log 33) (30_encoding R255 to R258, R275; 60_exceptions R697). -/
def Obligations.ReservedCells : Prop :=
  ∀ (s : State) (w : Word),
    (opOf w ∈ [29#6, 30#6, 31#6, 51#6, 59#6] ∨
      opOf w = 0#6 ∧ fnOf w ∈ [1#6, 5#6, 10#6, 11#6, 14#6, 21#6, 40#6, 41#6, 53#6, 55#6, 57#6, 61#6] ∨
      opOf w = 28#6 ∧ 3 ≤ (fnOf w).toNat ∨
      opOf w = 1#6 ∧ ((rtOf w).toNat / 4 ∈ [1, 5, 6, 7] ∨ rtOf w = 13#5 ∨ rtOf w = 15#5)) →
    ∃ t, s.execWord w = .next t ∧ ExceptionTaken 10 0 none s t

/-! ## The step -/

/-- When the fetch at the program counter gives a word that decodes to `i`, and nothing else is due at the boundary, the step
is `exec i` with the end of the cycle behind it (00_scope R14; 60_exceptions R679). -/
def Obligations.StepRunsDecoded : Prop :=
  ∀ (s s1 : State) (w : Word) (i : Instr), NothingDue s → s.fetch = .ok w s1 → decode w = .ok i →
    StepAnswers s (exec i s1)

/-- When the four bytes at the program counter, uncached RAM, encode the well-formed `i` in the byte order of memory, and
nothing else is due at the boundary, the step is `exec i`, behind the read that empties the write buffer, with the end of
the cycle behind it (20_memory R145, R154, R158, R162, R176; the write buffer: log 20). -/
def Obligations.StepFetchesUncached : Prop :=
  ∀ (s : State) (pa : Word) (i : Instr), NothingDue s → s.platform = [] → s.iwatchMatches = false →
    s.hazards.mappedWindow = 0 → s.translateFetch = .ok pa 2 → s.pc.toNat % 4 = 0 → i.WellFormed = true →
    memNumber s ((List.range 4).map fun k => s.mem.get (pa.toNat + k)) = (encode i).toNat →
    ∃ u, u = { s with bus := { s.bus with writes := [] }, fresh := u.fresh } ∧ StepAnswers s (exec i u)

/-- The fetch through the instruction cache. On a hit of good parity the step is the instruction in the line; a bad word or
tag, with DE = 0, is Cache Error. On a miss the line of RAM replaces the way that R208 chooses and the step is the
instruction in it; where nothing answers the miss is a Bus Error of the fetch, and the line is left invalid, which is the
model's reading of R214 and U9 (log 28); where the answer is of bad parity it is, with DE = 0, Cache Error behind the refill.
A line in both ways has no meaning (21_caches R207, R208, R212, R214, R220, R230; 60_exceptions R685, R687;
93_implementation_defined U8; the victim among valid ways: log 21; that U8 comes before Cache Error: log 35; parity: log 46;
the platform: log 7). -/
def Obligations.StepFetchesCached : Prop :=
  ∀ (s : State) (pa : Word) (alg : BitVec 3) (x : BitVec 7) (a b : ILine), NothingDue s →
    s.hazards.mappedWindow = 0 → s.hazards.ilWindow = 0 → s.iwatchMatches = false → s.translateFetch = .ok pa alg →
    (alg = 0 ∨ alg = 1 ∨ alg = 3) → s.pc.toNat % 4 = 0 → x = lineIndex pa → a = s.icache.line .a x →
    b = s.icache.line .b x →
    (s.icache.lookup pa = .both → step s = .refused .duplicateTag) ∧
    (∀ (w : Way) (l : ILine) (word : List Byte) (ed et : Bool), s.icache.lookup pa = .hit w → l = s.icache.line w x →
      word = (List.range 4).map (fun k => l.data[(pa.toNat + k) % 32]) →
      ed = decide (l.par[pa.toNat / 4 % 8] ≠ (word.map parity).foldl xor false) →
      et = decide (l.tagPar ≠ parity (l.tag ++ bit l.valid)) →
      (s.cp0.status.de = true ∨ ed = false ∧ et = false →
        ∀ i : Instr, i.WellFormed = true → memNumber s word = (encode i).toNat → StepAnswers s (exec i s)) ∧
      (s.cp0.status.de = false → ed = true ∨ et = true →
        ∃ t, step s = .next t.settled.tick ∧ CacheErrorTaken (cacheErrWord false ed et false pa (low32 s.pc)) s t ∧
          SameLink s t ∧ SameCaches s t ∧ SameBytes s t)) ∧
    (s.icache.lookup pa = .miss → ∀ w : Way, w = victimWay a.valid b.valid s.cp0.status.il a.f →
      (s.platform = [] → ∃ u,
        (∀ i : Instr, i.WellFormed = true →
          memNumber s ((List.range 4).map fun k => s.mem.get (pa.toNat + k)) = (encode i).toNat →
          StepAnswers s (exec i u)) ∧
        RefilledI pa (u.icache.line w x) s ∧ (∀ k : Fin 8, (u.icache.line w x).par[k] = wordParity (u.icache.line w x) k) ∧
        RefillsI w x s u ∧
        u = { s with icache := u.icache, bus := u.bus, fresh := u.fresh } ∧ u.bus.writes = []) ∧
      ((∀ y ∈ lineBytes (lineBaseOf pa), kindAt s.platform y = some .nothing) →
        ∃ t, step s = .next t.settled.tick ∧ ExceptionRegisters 6 0 none s t ∧ (t.icache.line w x).valid = false ∧
          SameILinesBut w x s t ∧ t.dcache = s.dcache ∧ SameBytes s t ∧ SameLink s t ∧ t.fpu = s.fpu ∧
          SameOutside s t) ∧
      ((∀ y ∈ lineBytes (lineBaseOf pa), kindAt s.platform y = some .badParity) → s.cp0.status.de = false →
        ∃ t, step s = .next t.settled.tick ∧
          CacheErrorTaken (cacheErrWord false true false true pa (low32 s.pc)) s t ∧
          (t.icache.line w x).valid = true ∧ (t.icache.line w x).tag = lineTag pa ∧ RefillsI w x s t ∧
          t.dcache = s.dcache ∧ SameBytes s t ∧ SameLink s t))

/-- The exceptions of the fetch, in their order: a kernel address in User mode, a kuseg address above IBound, a misaligned
address; every other address translates, in kuseg by IBase and elsewhere by clearing bits 31:29, with the algorithm of its
region, and the watched word takes the Watch exception when EXL = ERL = 0 (20_memory R142, R146 to R149, R158; 60_exceptions
R679, R680, R681, R694). That it does so before a reserved algorithm or a hit of both ways is refused is the model's choice
(log 35), and so is the delay slot, where EPC and BD are the branch and 1, as R670 has it, though R681 prints EPC = pc and BD
= 0 (log 53). The timer's half tick follows. -/
def Obligations.FetchExceptions : Prop :=
  ∀ s : State, NothingDue s → s.hazards.mappedWindow = 0 →
    if s.pc.getLsbD 31 = true ∧ s.userMode = true then
      ∃ t, step s = .next t.settled.tick ∧ ExceptionTaken 4 0 (some s.pc) s t
    else if s.pc.getLsbD 31 = false ∧ s.cp0.ibound.toNat < (s.pc.extractLsb' 12 19).toNat then
      ∃ t, step s = .next t.settled.tick ∧ ExceptionTaken 2 0 (some s.pc) s t
    else if s.pc.toNat % 4 ≠ 0 then ∃ t, step s = .next t.settled.tick ∧ ExceptionTaken 4 0 (some s.pc) s t
    else
      s.translateFetch = .ok (translated s s.cp0.ibase s.pc).1 (translated s s.cp0.ibase s.pc).2 ∧
      (s.cp0.iwatch.i = true → (low32 s.pc).extractLsb' 2 30 = s.cp0.iwatch.addr → s.hazards.iwWindow = 0 →
        s.cp0.status.exl = false → s.cp0.status.erl = false →
        ∃ t, step s = .next t.settled.tick ∧ ExceptionTaken 23 0 none s t ∧ t.cp0.cause.iw = true ∧
          t.cp0.cause.dw = false)

/-- Every step keeps the invariant (20_memory R140; 10_state R30, R34; 11_cp0_registers R107, R111). -/
def Obligations.StepKeepsInvariant : Prop := ∀ s t : State, s.Inv → step s = .next t → t.Inv

/-- The invariant holds right after reset. -/
def Obligations.ResetHasInvariant : Prop := State.reset.Inv

/-- A User-mode instruction without coprocessor 0 changes no register of coprocessor 0, unless it takes an exception; then
the registers that software controls are as before, but for Status.EXL or ERL, which leave User mode (47_coprocessor_cp0
R511; 60_exceptions R670, R685). -/
def Obligations.UserModeKeepsCp0 : Prop :=
  ∀ (s t : State) (i : Instr), s.userMode = true → s.cp0.status.cu.getLsbD 0 = false → exec i s = .next t →
    t.cp0 = s.cp0 ∨
    (t.userMode = false ∧
      (t.cp0.status = { s.cp0.status with exl := true } ∨ t.cp0.status = { s.cp0.status with erl := true }) ∧
      t.cp0.ibase = s.cp0.ibase ∧ t.cp0.ibound = s.cp0.ibound ∧ t.cp0.dbase = s.cp0.dbase ∧
      t.cp0.dbound = s.cp0.dbound ∧ t.cp0.count = s.cp0.count ∧ t.cp0.compare = s.cp0.compare ∧
      t.cp0.calg = s.cp0.calg ∧ t.cp0.iwatch = s.cp0.iwatch ∧ t.cp0.dwatch = s.cp0.dwatch ∧
      t.cp0.ecc = s.cp0.ecc ∧ t.cp0.tagLo = s.cp0.tagLo)

/-- What a cold reset between two instructions leaves, whatever state it finds (60_exceptions R674): the reset vector, SR = 0,
ERL = BEV = 1, Cause.IV = 0, CAlg, the watch enables, the boot mode of the stream. The model's choices: DL = IL = 0 (conflict
C20); ErrorEPC the restart address, which 10_state R61 leaves undefined (log 4); memory as before, but for the bytes of the
writes that had not left the write buffer, which are any value (log 20). -/
def Obligations.ColdResetLeaves : Prop :=
  ∀ (s : State) (stream : BitVec 256) (lost : Nat) (rest : List Arrivals),
    s.inputs = onlyReset { kind := .cold stream, phase := .boundary, lost := lost } :: rest →
    (reservedStream s.part stream = true → step s = .refused .reservedBootMode) ∧
    (reservedStream s.part stream = false →
      ∃ t, step s = .next t ∧ t.pc = 0xFFFFFFFFBFC00000 ∧ t.nextPc = none ∧ t.inDelaySlot = false ∧
        t.cp0.status.sr = false ∧ t.cp0.status.erl = true ∧ t.cp0.status.bev = true ∧ t.cp0.status.dl = false ∧
        t.cp0.status.il = false ∧ t.cp0.cause.iv = false ∧ t.cp0.calg = 0x22233333 ∧ t.cp0.iwatch.i = false ∧
        t.cp0.dwatch.r = false ∧ t.cp0.dwatch.w = false ∧
        t.cp0.errorEpc = (if s.inDelaySlot then s.pc - 4 else s.pc) ∧ t.standby = false ∧
        t.boot = { ep := stream.extractLsb' 1 4, ec := stream.extractLsb' 5 3, bigEndian := stream.getLsbD 8,
                   nbw := stream.extractLsb' 9 2, timerDisabled := stream.getLsbD 11, bus32 := stream.getLsbD 12,
                   drvOut := stream.extractLsb' 13 2 } ∧
        t.bus.writes = [] ∧ SameBytesBut (lostBytes (s.bus.writes.take lost)) s t)

/-- An enabled interrupt is taken in place of the next instruction, at the vector that Cause.IV selects; in standby, which an
asserted interrupt line or ExtRqst* ends, EPC is then the instruction behind the WAIT (60_exceptions R701, R702, R708, R672,
R670; 46_trap_special R506). That it comes at the first boundary and before the fetch is the model's choice (log 41, D28);
while the platform still hides it (U28) the instruction runs instead. -/
def Obligations.InterruptTaken : Prop :=
  ∀ (s u : State) (a : Arrivals), a.before = [] → a.within = [] → a.reset = none →
    (s.standby = true → WakeAsserted s) →
    s.events.nmiPending = false → s.watchDue = false → s.cp0.status.ie = true → s.cp0.status.exl = false →
    s.cp0.status.erl = false → (interruptLines s ++ s.cp0.cause.ip) &&& s.cp0.status.im ≠ 0#8 →
    u = { s with inputs := s.inputs.tail, standby := false } →
    (s.inputs = [] ∨ s.inputs.head? = some a ∧ a.hold = false →
      ∃ t, step s = .next t ∧ t.standby = false ∧ t.cp0.cause.excCode = 0 ∧ t.cp0.cause.ce = 0 ∧
        t.cp0.epc = (if s.inDelaySlot then s.pc - 4 else s.pc) ∧ t.cp0.cause.bd = s.inDelaySlot ∧
        t.cp0.status = { s.cp0.status with exl := true } ∧ t.cp0.badVAddr = s.cp0.badVAddr ∧
        t.pc = (if s.cp0.status.bev then 0xFFFFFFFFBFC00200 else 0xFFFFFFFF80000000) +
          (if s.cp0.cause.iv then 0x200 else 0x180) ∧
        t.nextPc = none ∧ t.inDelaySlot = false ∧ SameGpr s t ∧ SameHiLo s t ∧ t.fpu = s.fpu ∧ SameLink s t ∧
        SameCaches s t ∧ SameBytes s t) ∧
    (s.inputs.head? = some a → a.hold = true → a.ticks = none → ∀ (w : Word) (i : Instr) (s1 : State),
      u.fetch = .ok w s1 → decode w = .ok i → StepAnswers s (exec i s1))

/-- What arrives at a boundary is delivered one by one: pin levels (a rising NMI level is latched; whatever they assert ends
standby, even when the next input releases it, and so does NMI* falling while bit 6 of the Interrupt register is set), an
external write to the Interrupt register (its bits 22:16 enable its bits 6:0, and the request ends standby; elsewhere it
changes nothing), a null request, another master's write of a byte of RAM; an external read has no meaning. What arrives
within an instruction is delivered between its fetch and its execution, and the tick input says how far Count advances in the
step (46_trap_special R506; 60_exceptions R702, R705, R706; 80_system_interface R814, R850 to R852; 20_memory R185;
11_cp0_registers R95, R96; 70_reset_and_hazards R790; the lists of arrivals are the model's own, log 44; the tick input: log
40). -/
def Obligations.InputsDelivered : Prop :=
  ∀ (s u : State) (a : Arrivals) (rest : List Arrivals) (is : List Input) (int : BitVec 6) (nmi ext : Bool)
      (addr data : Word) (value : Byte), u = { s with inputs := { a with before := is } :: rest } →
    (s.inputs = { a with before := .pins int nmi ext :: is } :: rest → ∀ (e : Events) (standby : Bool),
      e = { s.events with
        intPins := int
        nmiPin := nmi
        extRqst := ext
        nmiPending := s.events.nmiPending ||
          ((s.events.intReg.getLsbD 6 || nmi) && !(s.events.intReg.getLsbD 6 || s.events.nmiPin)) } →
      (standby = true ↔ s.standby = true ∧ ¬WakeAsserted s ∧ ¬WakeAsserted { s with events := e } ∧
        ¬(nmi = true ∧ s.events.nmiPin = false)) →
      step s = step { u with standby := standby, events := e }) ∧
    (s.inputs = { a with before := .externalWrite addr data :: is } :: rest → ∀ r : BitVec 7,
      (∀ k : Nat, k < 7 → r.getLsbD k =
        if addr.extractLsb' 4 3 = 0 ∧ data.getLsbD (16 + k) = true then data.getLsbD k else s.events.intReg.getLsbD k) →
      step s = step { u with
        standby := false
        events := { s.events with
          intReg := r
          nmiPending := s.events.nmiPending ||
            ((r.getLsbD 6 || s.events.nmiPin) && !(s.events.intReg.getLsbD 6 || s.events.nmiPin)) } }) ∧
    (s.inputs = { a with before := .externalNull :: is } :: rest → step s = step { u with standby := false }) ∧
    (s.inputs = { a with before := .agentWrite addr value :: is } :: rest → s.platform = [] → ∀ standby : Bool,
      (standby = true ↔ s.standby = true ∧ ¬WakeAsserted s) →
      step s = step { u with standby := standby, mem := s.mem.set addr.toNat value }) ∧
    (s.inputs = { a with before := .externalRead :: is } :: rest → step s = .refused .externalReadRequest) ∧
    (s.inputs = { Arrivals.quiet with within := is } :: rest → NothingDue { s with inputs := [] } →
      ∀ (w : Word) (i : Instr) (s1 s2 : State), State.fetch { s with inputs := rest } = .ok w s1 → decode w = .ok i →
        s1.deliverAll is = .ok s2 → StepAnswers s (exec i s2)) ∧
    ∀ n : Nat, s.inputs = { Arrivals.quiet with ticks := some n } :: rest → NothingDue { s with inputs := [] } →
      ∀ (w : Word) (i : Instr) (s1 t : State), State.fetch { s with inputs := rest } = .ok w s1 → decode w = .ok i →
        exec i s1 = .next t → ∃ v, step s = .next v ∧ Ticked n t v

/-- A pending NMI and a warm reset between two instructions go to the reset vector with ErrorEPC the restart address and
BEV = SR = ERL = 1, every other register as before but for Count, which the timer of the same step may advance (60_exceptions
R675 to R677, R706; 70_reset_and_hazards R744). The model's reading: caches and memory as before, but for the bytes of the
writes that a warm reset finds in the write buffer (log 20); standby ends and NMIpending is cleared. -/
def Obligations.NmiAndWarmReset : Prop :=
  ∀ (s : State) (lost : Nat) (rest : List Arrivals),
    (s.inputs = [] ∧ s.events.nmiPending = true ∧ lost = 0 ∨
      s.inputs = onlyReset { kind := .warm, phase := .boundary, lost := lost } :: rest) →
    ∃ t, step s = .next t ∧ t.pc = 0xFFFFFFFFBFC00000 ∧ t.nextPc = none ∧ t.inDelaySlot = false ∧
      t.cp0 = { s.cp0 with
        errorEpc := if s.inDelaySlot then s.pc - 4 else s.pc
        status := { s.cp0.status with bev := true, sr := true, erl := true }
        count := t.cp0.count } ∧
      (s.inputs ≠ [] → t.cp0.count = s.cp0.count ∧ t.events.iwPend = false ∧ t.events.dwPend = false) ∧
      t.events.nmiPending = false ∧ t.standby = false ∧ SameGpr s t ∧ SameHiLo s t ∧ t.fpu = s.fpu ∧ SameLink s t ∧
      SameCaches s t ∧ SameBytesBut (lostBytes (s.bus.writes.take lost)) s t

/-- The write buffer and a warm reset in the middle of an instruction. A store to uncached RAM is the youngest of at most four
buffered writes; a load from there leaves the buffer empty. A warm reset that cuts an instruction short leaves the registers
as the fetch left them and goes to the reset vector with ErrorEPC the instruction's restart address; of memory it can change
the bytes of buffered writes alone and, where the instruction was a store, that store's, or, where it was a load that missed,
the bytes of a dirty victim and of the caches the line in refill alone (20_memory R175 to R179; 60_exceptions R675, R676;
70_reset_and_hazards R744; 93_implementation_defined U27; the record of the buffer: log 20). -/
def Obligations.ResetCutsShort : Prop :=
  (∀ (s : State) (base rt : Reg) (offset : BitVec 16) (pa : Word),
    (s.ea base offset).toNat % 4 = 0 →
    (UncachedRam s (s.ea base offset) pa true → ∃ t w, exec (.sw base rt offset) s = .next t ∧
      t.bus.writes = (w :: s.bus.writes).take 4 ∧ w.bytes.map (·.toNat) = byteAddrs s pa 4 ∧
      w.region = some ((s.ea base offset).extractLsb' 29 3)) ∧
    (UncachedRam s (s.ea base offset) pa false → ∃ t, exec (.lw base rt offset) s = .next t ∧ t.bus.writes = [])) ∧
  ∀ (s s0 s1 : State) (lost : Nat) (rest : List Arrivals) (w : Word) (i : Instr),
    s.inputs = onlyReset { kind := .warm, phase := .execution, lost := lost } :: rest → s.platform = [] →
    s0 = { s with inputs := rest, bus := { s.bus with lines := [] } } → NothingDue { s0 with inputs := [] } →
    s0.fetch = .ok w s1 → decode w = .ok i →
    ∃ t, step s = .next t ∧ t.pc = 0xFFFFFFFFBFC00000 ∧ t.nextPc = none ∧ t.inDelaySlot = false ∧
      t.cp0 = { s.cp0 with
        errorEpc := if s.inDelaySlot then s.pc - 4 else s.pc
        status := { s.cp0.status with bev := true, sr := true, erl := true } } ∧
      SameGpr s t ∧ SameHiLo s t ∧ t.fpu = s.fpu ∧ t.bus = Bus.reset ∧
      ∀ (base rt : Reg) (offset : BitVec 16) (pa : Word), (s.ea base offset).toNat % 4 = 0 →
        (i = .sw base rt offset → UncachedRam s1 (s.ea base offset) pa true →
          SameCaches s1 t ∧ SameBytesBut (byteAddrs s pa 4 ++ lostBytes s1.bus.writes) s t) ∧
        (∀ (alg : BitVec 3) (x : BitVec 7) (v : Way) (old : DLine), i = .lw base rt offset →
          CachedRam s1 (s.ea base offset) pa alg false → s1.dcache.lookup pa = .miss → x = lineIndex pa →
          v = s1.dVictim x → old = s1.dcache.line v x →
          t.icache = s1.icache ∧ SameDLinesBut v x s1 t ∧
          SameBytesBut (lostBytes s1.bus.writes ++
            (if old.dirty then lineBytes (lineBase old.tag x) else [])) s t)

/-- In standby with nothing asserted a step moves the timer alone: Count advances as the tick input says, by default by one
every second step (the rate is the model's choice, log 40), and TimerPending is set when an increment makes Count equal to
Compare. An asserted interrupt line, a pending NMI or ExtRqst* ends standby: the step is that of the same machine awake; what
arrives while nothing executes, NMI* falling among it, is delivered all the same (46_trap_special R506; 60_exceptions R702,
R708; 11_cp0_registers R95, R96). -/
def Obligations.StandbyHolds : Prop :=
  ∀ s : State, s.standby = true →
    (¬WakeAsserted s →
      (s.inputs = [] →
        step s = .next { s with
          cp0 := { s.cp0 with count := if s.events.countPhase then s.cp0.count + 1 else s.cp0.count }
          bus := { s.bus with lines := [] }
          events := { s.events with
            countPhase := !s.events.countPhase
            timerPending := s.events.timerPending || (s.events.countPhase && s.cp0.count + 1 == s.cp0.compare) } }) ∧
      (∀ (n : Nat) (rest : List Arrivals), s.inputs = { Arrivals.quiet with ticks := some n } :: rest →
        ∃ t, step s = .next t ∧ Ticked n { s with inputs := rest } t) ∧
      ∀ (is : List Input) (rest : List Arrivals) (u : State), s.inputs = { Arrivals.quiet with within := is } :: rest →
        State.deliverAll { s with inputs := rest } is = .ok u → step s = .next u.settled.tick) ∧
    (WakeAsserted s →
      (∀ a : Arrivals, s.inputs.head? = some a → a.before = [] ∧ a.reset = none) → step s = step { s with standby := false })

/-! ## Exceptions -/

/-- General exception entry, for every exception but an interrupt (60_exceptions R670 to R673; 11_cp0_registers R101). -/
def Obligations.ExceptionEntry : Prop :=
  ∀ (s : State) (e : Exc) (bad : Option DWord), e ≠ .int →
    ExceptionTaken e.code e.unit bad s (s.raised e bad)

/-- ERET, outside a delay slot and with coprocessor 0 usable: pc from ErrorEPC and ERL cleared, or pc from EPC and EXL
cleared; LLbit cleared; no delay slot. Behind a general exception taken with EXL = ERL = 0 it resumes at the restart address
with the old Status: an instruction behind a branch is reached again through the branch (46_trap_special R500; 60_exceptions
R670, R678). -/
def Obligations.EretReturns : Prop :=
  (∀ s : State, Cp0Usable s → s.inDelaySlot = false →
    ∃ t, exec .eret s = .next t ∧
      (if s.cp0.status.erl then
        t.pc = s.cp0.errorEpc ∧ t.cp0 = { s.cp0 with status := { s.cp0.status with erl := false } }
      else t.pc = s.cp0.epc ∧ t.cp0 = { s.cp0 with status := { s.cp0.status with exl := false } }) ∧
      t.nextPc = none ∧ t.inDelaySlot = false ∧ t.llBit = false ∧ t.llAddr = s.llAddr ∧ t.llSeen = s.llSeen ∧
      SameGpr s t ∧ SameHiLo s t ∧ t.fpu = s.fpu ∧ SameCaches s t ∧ SameBytes s t ∧ SameOutside s t) ∧
  ∀ (s : State) (e : Exc) (bad : Option DWord), s.cp0.status.exl = false → s.cp0.status.erl = false →
    ∃ t, exec .eret (s.raised e bad) = .next t ∧ t.pc = (if s.inDelaySlot then s.pc - 4 else s.pc) ∧
      t.cp0.status = s.cp0.status ∧ t.llBit = false

/-- Cache Error entry: ErrorEPC, CacheErr field by field, ERL and the special vector; Cause, EPC and EXL untouched
(60_exceptions R685; 11_cp0_registers R111; the bits of CacheErr: log 46). -/
def Obligations.CacheErrorEntry : Prop :=
  ∀ (s : State) (p : ParityError),
    CacheErrorTaken (cacheErrWord p.data p.ed p.et p.ee p.pa p.va) s (s.takeCacheError p) ∧
    SameLink s (s.takeCacheError p) ∧ SameCaches s (s.takeCacheError p) ∧ SameBytes s (s.takeCacheError p)

/-- A load from, or a store to, a doubleword that DWatch watches takes the Watch exception with Cause.DW = 1, IW = 0 when EXL
= ERL = 0, and has no other effect, for every load and store; in RAM, uncached or through the data cache with parity errors
masked (60_exceptions R696, R679). That a store conditional takes it whether or not it would store is the model's choice, as
D30 has it: R696 does not state it (log 38). That it comes before the refusal of a store conditional to another address than
the linked one (U12) is the model's choice too (log 35). That an LL or LLD of an uncached address takes it in place of U11's
refusal is the model's choice (log 35). -/
def Obligations.DataWatchTaken : Prop :=
  ∀ (s : State) (base rt : Reg) (offset : BitVec 16) (pa : Word) (alg : BitVec 3), NoMemHazard s →
    s.hazards.dwWindow = 0 → s.platform = [] → MapsTo s (s.ea base offset) pa alg →
    (alg = 2 ∨ (alg = 0 ∨ alg = 1 ∨ alg = 3) ∧ s.cp0.status.de = true ∧ s.dcache.lookup pa ≠ .both) →
    s.cp0.status.exl = false → s.cp0.status.erl = false →
    (low32 (s.ea base offset)).extractLsb' 3 29 = s.cp0.dwatch.addr →
    ∀ p ∈ (loadForms base rt offset).map (fun p => (p, s.cp0.dwatch.r)) ++
        (storeForms base rt offset ++ conditionalForms base rt offset).map (fun p => (p, s.cp0.dwatch.w)),
      MayExecute s p.1.1 → (s.ea base offset).toNat % p.1.2 = 0 → p.2 = true →
      ∃ t, exec p.1.1 s = .next t ∧ ExceptionTaken 23 0 none s t ∧ t.cp0.cause.dw = true ∧ t.cp0.cause.iw = false

/-- Postponed Watch: a match of the fetch or of a data access while EXL or ERL is set is latched and the instruction executes;
at the first boundary with both clear a latched match is taken as a Watch exception before that instruction, with IW and DW
the latches, which it clears (60_exceptions R695; 10_state R44; D30). -/
def Obligations.PostponedWatch : Prop :=
  (∀ s : State, s.inputs = [] → s.standby = false → s.events.nmiPending = false → s.cp0.status.exl = false →
    s.cp0.status.erl = false → s.events.iwPend = true ∨ s.events.dwPend = true →
    ∃ t, step s = .next t.settled.tick ∧ ExceptionEntered 23 0 none s t ∧ t.fpu = s.fpu ∧
      t.cp0.cause.iw = s.events.iwPend ∧ t.cp0.cause.dw = s.events.dwPend ∧
      t.events = { s.events with iwPend := false, dwPend := false } ∧ t.standby = false) ∧
  (∀ (s : State) (pa : Word) (i : Instr), NothingDue s → s.cp0.status.exl = true ∨ s.cp0.status.erl = true →
    s.platform = [] → s.iwatchMatches = true → s.hazards.iwWindow = 0 → s.hazards.mappedWindow = 0 →
    s.translateFetch = .ok pa 2 → s.pc.toNat % 4 = 0 → i.WellFormed = true →
    memNumber s ((List.range 4).map fun k => s.mem.get (pa.toNat + k)) = (encode i).toNat →
    ∃ u, u = { s with events := { s.events with iwPend := true }, bus := { s.bus with writes := [] }, fresh := u.fresh } ∧
      StepAnswers s (exec i u)) ∧
  ∀ (s : State) (base rt : Reg) (offset : BitVec 16) (pa : Word), s.cp0.status.exl = true ∨ s.cp0.status.erl = true →
    NoMemHazard s → s.hazards.dwWindow = 0 → s.platform = [] → MapsTo s (s.ea base offset) pa 2 →
    (s.ea base offset).toNat % 4 = 0 →
    (s.dwatchMatches (s.ea base offset) false = true →
      ∃ t, exec (.lw base rt offset) s = .next t ∧
        WritesGpr rt ((BitVec.ofNat 32 (datum s.mem.get s pa 4)).signExtend 64) s t ∧
        t.events = { s.events with dwPend := true } ∧ t.cp0 = s.cp0 ∧ SameBytes s t ∧ Advanced s t) ∧
    (s.dwatchMatches (s.ea base offset) true = true →
      ∃ t, exec (.sw base rt offset) s = .next t ∧ datum t.mem.get s pa 4 = (s.reg rt).toNat % 256 ^ 4 ∧
        t.events = { s.events with dwPend := true } ∧ t.cp0 = s.cp0 ∧ SameGpr s t ∧
        SameBytesBut (byteAddrs s pa 4) s t ∧ Advanced s t)

/-! ## Arithmetic and logic -/

/-- AND, OR, XOR, NOR, their immediate forms (the immediate zero-extended) and LUI on all 64 bits; SLT, SLTU, SLTI and SLTIU
compare all 64 bits, the immediate sign-extended; the record of the last instructions moves on (logs 14, 15); their words
(42_alu_three_operand R375 to R380; 41_alu_immediate R353 to R358; the opcode of SLTI is PRESUMED, K9: log 48). -/
def Obligations.LogicalResults : Prop :=
  ∀ (s : State) (rs rt rd : Reg) (imm : BitVec 16),
    GprResult (.and rs rt rd) rd (s.reg rs &&& s.reg rt) s ∧
    GprResult (.or rs rt rd) rd (s.reg rs ||| s.reg rt) s ∧
    GprResult (.xor rs rt rd) rd (s.reg rs ^^^ s.reg rt) s ∧
    GprResult (.nor rs rt rd) rd (~~~s.reg rs &&& ~~~s.reg rt) s ∧
    GprResult (.andi rs rt imm) rt (s.reg rs &&& (0#48 ++ imm)) s ∧
    GprResult (.ori rs rt imm) rt (s.reg rs ||| (0#48 ++ imm)) s ∧
    GprResult (.xori rs rt imm) rt (s.reg rs ^^^ (0#48 ++ imm)) s ∧
    GprResult (.lui rt imm) rt (BitVec.ofInt 64 (imm.toInt * 2 ^ 16)) s ∧
    GprResult (.slt rs rt rd) rd (if (s.reg rs).toInt < (s.reg rt).toInt then 1 else 0) s ∧
    GprResult (.sltu rs rt rd) rd (if (s.reg rs).toNat < (s.reg rt).toNat then 1 else 0) s ∧
    GprResult (.slti rs rt imm) rt (if (s.reg rs).toInt < imm.toInt then 1 else 0) s ∧
    GprResult (.sltiu rs rt imm) rt
      (if (s.reg rs).toNat < (BitVec.ofInt 64 imm.toInt).toNat then 1 else 0) s ∧
    (∀ i ∈ [Instr.and rs rt rd, .or rs rt rd, .xor rs rt rd, .nor rs rt rd, .andi rs rt imm, .ori rs rt imm,
        .xori rs rt imm, .lui rt imm, .slt rs rt rd, .sltu rs rt rd, .slti rs rt imm, .sltiu rs rt imm],
      ∀ t, exec i s = .next t → t.hazards = agedRecord s) ∧
    (∀ p ∈ [(Instr.and rs rt rd, 0b100100#6), (.or rs rt rd, 0b100101#6), (.xor rs rt rd, 0b100110#6),
        (.nor rs rt rd, 0b100111#6), (.slt rs rt rd, 0b101010#6), (.sltu rs rt rd, 0b101011#6)],
      encode p.1 = 0#6 ++ rs ++ rt ++ rd ++ 0#5 ++ p.2) ∧
    (∀ p ∈ [(Instr.slti rs rt imm, 0b001010#6), (.sltiu rs rt imm, 0b001011#6), (.andi rs rt imm, 0b001100#6),
        (.ori rs rt imm, 0b001101#6), (.xori rs rt imm, 0b001110#6)], encode p.1 = p.2 ++ rs ++ rt ++ imm) ∧
    encode (.lui rt imm) = 0b001111#6 ++ 0#5 ++ rt ++ imm

/-- ADD, ADDI and SUB of sign-extended words: the exact result where it fits in 32 bits, else Integer Overflow and no
register written; ADDU, ADDIU and SUBU: the result modulo 2^32, sign-extended, with no exception; their words
(42_alu_three_operand R371 to R374; 41_alu_immediate R351, R352; 60_exceptions R689). -/
def Obligations.AddWords : Prop :=
  ∀ (s : State) (rs rt rd : Reg) (imm : BitVec 16), isSext32 (s.reg rs) = true →
    (∀ x : Int, x = (s.reg rs).toInt + imm.toInt →
      GprResult (.addiu rs rt imm) rt ((BitVec.ofInt 32 x).signExtend 64) s ∧
      if -2 ^ 31 ≤ x ∧ x < 2 ^ 31 then GprResult (.addi rs rt imm) rt (BitVec.ofInt 64 x) s
      else TrapResult (.addi rs rt imm) 12 0 none s) ∧
    (isSext32 (s.reg rt) = true →
      (∀ x : Int, x = (s.reg rs).toInt + (s.reg rt).toInt →
        GprResult (.addu rs rt rd) rd ((BitVec.ofInt 32 x).signExtend 64) s ∧
        if -2 ^ 31 ≤ x ∧ x < 2 ^ 31 then GprResult (.add rs rt rd) rd (BitVec.ofInt 64 x) s
        else TrapResult (.add rs rt rd) 12 0 none s) ∧
      (∀ x : Int, x = (s.reg rs).toInt - (s.reg rt).toInt →
        GprResult (.subu rs rt rd) rd ((BitVec.ofInt 32 x).signExtend 64) s ∧
        if -2 ^ 31 ≤ x ∧ x < 2 ^ 31 then GprResult (.sub rs rt rd) rd (BitVec.ofInt 64 x) s
        else TrapResult (.sub rs rt rd) 12 0 none s)) ∧
    (∀ p ∈ [(Instr.add rs rt rd, 0b100000#6), (.addu rs rt rd, 0b100001#6), (.sub rs rt rd, 0b100010#6),
        (.subu rs rt rd, 0b100011#6)], encode p.1 = 0#6 ++ rs ++ rt ++ rd ++ 0#5 ++ p.2) ∧
    encode (.addi rs rt imm) = 0b001000#6 ++ rs ++ rt ++ imm ∧ encode (.addiu rs rt imm) = 0b001001#6 ++ rs ++ rt ++ imm

/-- The doubleword sums and differences: exact where they fit, else Integer Overflow and no register written (DADD, DADDI,
DSUB); modulo 2^64 (DADDU, DADDIU, DSUBU); their words (42_alu_three_operand R381 to R384; 41_alu_immediate R359, R360;
60_exceptions R689). -/
def Obligations.AddDoubles : Prop :=
  ∀ (s : State) (rs rt rd : Reg) (imm : BitVec 16),
    (Allows64 s →
      (∀ x : Int, x = (s.reg rs).toInt + (s.reg rt).toInt →
        GprResult (.daddu rs rt rd) rd (BitVec.ofInt 64 x) s ∧
        if -2 ^ 63 ≤ x ∧ x < 2 ^ 63 then GprResult (.dadd rs rt rd) rd (BitVec.ofInt 64 x) s
        else TrapResult (.dadd rs rt rd) 12 0 none s) ∧
      (∀ x : Int, x = (s.reg rs).toInt - (s.reg rt).toInt →
        GprResult (.dsubu rs rt rd) rd (BitVec.ofInt 64 x) s ∧
        if -2 ^ 63 ≤ x ∧ x < 2 ^ 63 then GprResult (.dsub rs rt rd) rd (BitVec.ofInt 64 x) s
        else TrapResult (.dsub rs rt rd) 12 0 none s) ∧
      (∀ x : Int, x = (s.reg rs).toInt + imm.toInt →
        GprResult (.daddiu rs rt imm) rt (BitVec.ofInt 64 x) s ∧
        if -2 ^ 63 ≤ x ∧ x < 2 ^ 63 then GprResult (.daddi rs rt imm) rt (BitVec.ofInt 64 x) s
        else TrapResult (.daddi rs rt imm) 12 0 none s)) ∧
    (∀ p ∈ [(Instr.dadd rs rt rd, 0b101100#6), (.daddu rs rt rd, 0b101101#6), (.dsub rs rt rd, 0b101110#6),
        (.dsubu rs rt rd, 0b101111#6)], encode p.1 = 0#6 ++ rs ++ rt ++ rd ++ 0#5 ++ p.2) ∧
    encode (.daddi rs rt imm) = 0b011000#6 ++ rs ++ rt ++ imm ∧
    encode (.daddiu rs rt imm) = 0b011001#6 ++ rs ++ rt ++ imm

/-- The word shifts of a sign-extended word by sa or by the low five bits of rs, and the doubleword shifts by sa, by 32 + sa
or by the low six bits of rs; their words (43_shift R392 to R406). -/
def Obligations.Shifts : Prop :=
  ∀ (s : State) (rs rt rd : Reg) (sa : BitVec 5),
    (isSext32 (s.reg rt) = true → ∀ (x : Word) (n : Nat), x = low32 (s.reg rt) → n = (s.reg rs).toNat % 32 →
      GprResult (.sll rt rd sa) rd (sext32 (BitVec.ofNat 32 (x.toNat * 2 ^ sa.toNat))) s ∧
      GprResult (.srl rt rd sa) rd (sext32 (BitVec.ofNat 32 (x.toNat / 2 ^ sa.toNat))) s ∧
      GprResult (.sra rt rd sa) rd (BitVec.ofInt 64 (x.toInt / 2 ^ sa.toNat)) s ∧
      GprResult (.sllv rs rt rd) rd (sext32 (BitVec.ofNat 32 (x.toNat * 2 ^ n))) s ∧
      GprResult (.srlv rs rt rd) rd (sext32 (BitVec.ofNat 32 (x.toNat / 2 ^ n))) s ∧
      GprResult (.srav rs rt rd) rd (BitVec.ofInt 64 (x.toInt / 2 ^ n)) s) ∧
    (Allows64 s → ∀ (x : DWord) (n : Nat), x = s.reg rt → n = (s.reg rs).toNat % 64 →
      GprResult (.dsll rt rd sa) rd (BitVec.ofNat 64 (x.toNat * 2 ^ sa.toNat)) s ∧
      GprResult (.dsrl rt rd sa) rd (BitVec.ofNat 64 (x.toNat / 2 ^ sa.toNat)) s ∧
      GprResult (.dsra rt rd sa) rd (BitVec.ofInt 64 (x.toInt / 2 ^ sa.toNat)) s ∧
      GprResult (.dsll32 rt rd sa) rd (BitVec.ofNat 64 (x.toNat * 2 ^ (32 + sa.toNat))) s ∧
      GprResult (.dsrl32 rt rd sa) rd (BitVec.ofNat 64 (x.toNat / 2 ^ (32 + sa.toNat))) s ∧
      GprResult (.dsra32 rt rd sa) rd (BitVec.ofInt 64 (x.toInt / 2 ^ (32 + sa.toNat))) s ∧
      GprResult (.dsllv rs rt rd) rd (BitVec.ofNat 64 (x.toNat * 2 ^ n)) s ∧
      GprResult (.dsrlv rs rt rd) rd (BitVec.ofNat 64 (x.toNat / 2 ^ n)) s ∧
      GprResult (.dsrav rs rt rd) rd (BitVec.ofInt 64 (x.toInt / 2 ^ n)) s) ∧
    (∀ p ∈ [(Instr.sll rt rd sa, 0b000000#6), (.srl rt rd sa, 0b000010#6), (.sra rt rd sa, 0b000011#6),
        (.dsll rt rd sa, 0b111000#6), (.dsrl rt rd sa, 0b111010#6), (.dsra rt rd sa, 0b111011#6),
        (.dsll32 rt rd sa, 0b111100#6), (.dsrl32 rt rd sa, 0b111110#6), (.dsra32 rt rd sa, 0b111111#6)],
      encode p.1 = 0#6 ++ 0#5 ++ rt ++ rd ++ sa ++ p.2) ∧
    ∀ p ∈ [(Instr.sllv rs rt rd, 0b000100#6), (.srlv rs rt rd, 0b000110#6), (.srav rs rt rd, 0b000111#6),
        (.dsllv rs rt rd, 0b010100#6), (.dsrlv rs rt rd, 0b010110#6), (.dsrav rs rt rd, 0b010111#6)],
      encode p.1 = 0#6 ++ rs ++ rt ++ rd ++ 0#5 ++ p.2

/-- A word operation on operands that are sign-extended or not completes, writing its one register (or HI and LO, or for MUL
all three) with some value; ADD, ADDI and SUB may take Integer Overflow instead (10_state R31; 93_implementation_defined U1;
log 10). -/
def Obligations.NotSignExtended : Prop :=
  ∀ (s : State) (rs rt rd : Reg) (imm : BitVec 16) (sa : BitVec 5),
    (∀ i ∈ [Instr.addu rs rt rd, .subu rs rt rd, .sll rt rd sa, .srl rt rd sa, .sra rt rd sa, .sllv rs rt rd,
      .srlv rs rt rd, .srav rs rt rd], ∃ v, GprResult i rd v s) ∧
    (∃ v, GprResult (.addiu rs rt imm) rt v s) ∧
    (∀ i ∈ [Instr.add rs rt rd, .sub rs rt rd], (∃ v, GprResult i rd v s) ∨ TrapResult i 12 0 none s) ∧
    ((∃ v, GprResult (.addi rs rt imm) rt v s) ∨ TrapResult (.addi rs rt imm) 12 0 none s) ∧
    (NoHiLoHazard s →
      ∀ i ∈ [Instr.mult rs rt, .multu rs rt, .div rs rt, .divu rs rt, .mad rs rt, .madu rs rt],
        ∃ hi lo, HiLoResult i hi lo s) ∧
    (NoHiLoHazard s → ∃ v t, exec (.mul rs rt rd) s = .next t ∧ WritesGpr rd v s t ∧ t.fpu = s.fpu ∧ SameSystem s t ∧
      Advanced s t)

/-! ## Multiply and divide -/

/-- MULT, MULTU, DMULT and DMULTU: the exact product, its halves in HI and LO; MAD and MADU add the product to the 64-bit
accumulator in the low words of HI and LO, modulo 2^64; MUL writes the low word of the product to rd and leaves any value in
HI and LO (44_multiply_divide R413, R414, R417, R418, R421 to R423, with the operands that 10_state R31 asks for, log
10). -/
def Obligations.Multiply : Prop :=
  ∀ (s : State) (rs rt rd : Reg), NoHiLoHazard s →
    (isSext32 (s.reg rs) = true → isSext32 (s.reg rt) = true →
      (∀ x y : Int, x = (s.reg rs).toInt * (s.reg rt).toInt → y = (low32 s.hi ++ low32 s.lo).toInt + x →
        HiLoResult (.mult rs rt) (sext32 (BitVec.ofInt 32 (x / 2 ^ 32))) (sext32 (BitVec.ofInt 32 x)) s ∧
        HiLoResult (.mad rs rt) (sext32 (BitVec.ofInt 32 (y / 2 ^ 32))) (sext32 (BitVec.ofInt 32 y)) s ∧
        ∃ t, exec (.mul rs rt rd) s = .next t ∧ WritesGpr rd (sext32 (BitVec.ofInt 32 x)) s t ∧ t.fpu = s.fpu ∧
          SameSystem s t ∧ Advanced s t) ∧
      (∀ x y : Nat, x = ((s.reg rs).toNat % 2 ^ 32) * ((s.reg rt).toNat % 2 ^ 32) →
        y = (low32 s.hi ++ low32 s.lo).toNat + x →
        HiLoResult (.multu rs rt) (sext32 (BitVec.ofNat 32 (x / 2 ^ 32))) (sext32 (BitVec.ofNat 32 x)) s ∧
        HiLoResult (.madu rs rt) (sext32 (BitVec.ofNat 32 (y / 2 ^ 32))) (sext32 (BitVec.ofNat 32 y)) s)) ∧
    (Allows64 s →
      (∀ x : Int, x = (s.reg rs).toInt * (s.reg rt).toInt →
        HiLoResult (.dmult rs rt) (BitVec.ofInt 64 (x / 2 ^ 64)) (BitVec.ofInt 64 x) s) ∧
      (∀ x : Nat, x = (s.reg rs).toNat * (s.reg rt).toNat →
        HiLoResult (.dmultu rs rt) (BitVec.ofNat 64 (x / 2 ^ 64)) (BitVec.ofNat 64 x) s))

/-- DIV, DIVU, DDIV and DDIVU by a divisor that is not zero: LO the quotient and HI the remainder, with dividend = quotient *
divisor + remainder, the remainder smaller than the divisor and of the dividend's sign; the one quotient that does not fit
wraps. A division by zero raises no exception: it completes with some values in HI and LO (44_multiply_divide R411, R412,
R415, R416, R419, R420). That the quotient is truncated toward zero, the remainder has the dividend's sign and the one
quotient wraps is PRESUMED, K5 (log 47). -/
def Obligations.Divide : Prop :=
  ∀ (s : State) (rs rt : Reg), NoHiLoHazard s →
    (isSext32 (s.reg rs) = true → isSext32 (s.reg rt) = true → s.reg rt ≠ 0 →
      (∃ q r : Int, (s.reg rs).toInt = q * (s.reg rt).toInt + r ∧ |r| < |(s.reg rt).toInt| ∧
        0 ≤ r * (s.reg rs).toInt ∧
        HiLoResult (.div rs rt) (sext32 (BitVec.ofInt 32 r)) (sext32 (BitVec.ofInt 32 q)) s) ∧
      (∃ q r : Nat, (s.reg rs).toNat % 2 ^ 32 = q * ((s.reg rt).toNat % 2 ^ 32) + r ∧
        r < (s.reg rt).toNat % 2 ^ 32 ∧
        HiLoResult (.divu rs rt) (sext32 (BitVec.ofNat 32 r)) (sext32 (BitVec.ofNat 32 q)) s)) ∧
    (Allows64 s → s.reg rt ≠ 0 →
      (∃ q r : Int, (s.reg rs).toInt = q * (s.reg rt).toInt + r ∧ |r| < |(s.reg rt).toInt| ∧
        0 ≤ r * (s.reg rs).toInt ∧ HiLoResult (.ddiv rs rt) (BitVec.ofInt 64 r) (BitVec.ofInt 64 q) s) ∧
      (∃ q r : Nat, (s.reg rs).toNat = q * (s.reg rt).toNat + r ∧ r < (s.reg rt).toNat ∧
        HiLoResult (.ddivu rs rt) (BitVec.ofNat 64 r) (BitVec.ofNat 64 q) s)) ∧
    (s.reg rt = 0 →
      (∀ i ∈ [Instr.div rs rt, .divu rs rt], ∃ hi lo, HiLoResult i hi lo s) ∧
      (Allows64 s → ∀ i ∈ [Instr.ddiv rs rt, .ddivu rs rt], ∃ hi lo, HiLoResult i hi lo s))

/-- MFHI and MFLO read, MTHI and MTLO write, HI and LO, when no MFHI or MFLO stands within two instructions; with a multiply
or divide that still awaits its moves, the half that is not written holds any value. Every write of HI or LO within two
instructions behind an MFHI or MFLO completes all the same, and the register that the last of those moves wrote holds any value:
nothing is said of it, and every other register is as before. An MFHI or MFLO records its register, and each instruction behind
it counts; a multiply, divide, MAD or MADU records that it awaits its moves, which any of the four moves ends
(44_multiply_divide R424 to R427, R430, R431; 93_implementation_defined U17; log 11). -/
def Obligations.HiLoMoves : Prop :=
  ∀ (s : State) (r rs rt rd : Reg),
    GprResult (.mfhi r) r s.hi s ∧ GprResult (.mflo r) r s.lo s ∧
    (∀ i ∈ [Instr.mfhi r, .mflo r], ∀ t, exec i s = .next t →
      t.hazards = { agedRecord s with mfRd := r, mfAge := 0, hiloPair := false }) ∧
    (NoHiLoHazard s → ∃ lo hi, HiLoResult (.mthi r) (s.reg r) lo s ∧ HiLoResult (.mtlo r) hi (s.reg r) s ∧
      (s.hazards.hiloPair = false → lo = s.lo ∧ hi = s.hi)) ∧
    ∀ p ∈ [(Instr.mthi rs, [], false, false), (.mtlo rs, [], false, false), (.mult rs rt, [], true, false),
        (.multu rs rt, [], true, false), (.div rs rt, [], true, false), (.divu rs rt, [], true, false),
        (.mad rs rt, [], true, false), (.madu rs rt, [], true, false), (.mul rs rt rd, [rd], s.hazards.hiloPair, false),
        (.dmult rs rt, [], true, true), (.dmultu rs rt, [], true, true), (.ddiv rs rt, [], true, true),
        (.ddivu rs rt, [], true, true)],
      (p.2.2.2 = true → Allows64 s) →
      ∃ t, exec p.1 s = .next t ∧
        (∀ q : Reg, q = 0 ∨ q ∉ p.2.1 ∧ (q = s.hazards.mfRd → NoHiLoHazard s) → t.reg q = s.reg q) ∧ t.fpu = s.fpu ∧
        SameSystem s t ∧ Advanced s t ∧ t.hazards = { agedRecord s with hiloPair := p.2.2.1 }

/-! ## Jumps and branches -/

/-- J, JAL, JR and JALR outside a delay slot: the target, the link, nothing else; JALR with rd = rs has no meaning (refused:
log 36, U19); their words, JAL's opcode PRESUMED (K9: log 48) (45_jump_branch R450 to R453, R445). -/
def Obligations.Jumps : Prop :=
  ∀ (s : State) (target : BitVec 26) (rs rd : Reg), s.inDelaySlot = false →
    (∃ t, exec (.j target) s = .next t ∧ JumpsTo ((s.pc + 4).extractLsb' 28 36 ++ target ++ 0#2) s t ∧ FrameNone s t) ∧
    (∃ t, exec (.jal target) s = .next t ∧ JumpsTo ((s.pc + 4).extractLsb' 28 36 ++ target ++ 0#2) s t ∧
      WritesGpr 31 (s.pc + 8) s t ∧ FrameGpr s t) ∧
    (∃ t, exec (.jr rs) s = .next t ∧ JumpsTo (s.reg rs) s t ∧ FrameNone s t) ∧
    (rd ≠ rs → ∃ t, exec (.jalr rs rd) s = .next t ∧ JumpsTo (s.reg rs) s t ∧ WritesGpr rd (s.pc + 8) s t ∧
      FrameGpr s t) ∧
    exec (.jalr rs rs) s = .refused .jalrSameRegister ∧
    encode (.j target) = 0b000010#6 ++ target ∧ encode (.jal target) = 0b000011#6 ++ target ∧
    encode (.jr rs) = 0#6 ++ rs ++ 0#15 ++ 0b001000#6 ∧ encode (.jalr rs rd) = 0#6 ++ rs ++ 0#5 ++ rd ++ 0#5 ++ 0b001001#6

/-- The conditional branches outside a delay slot: the sixteen on registers, with the condition on all 64 bits, the target
pc + 4 + 4 * offset and the link in r31 whether or not taken; BC1F, BC1T, BC1FL and BC1TL, which branch on the condition and,
right behind an instruction that writes it, may go either way: that a compare was the last instruction is put on record
(45_jump_branch R454 to R469, R470 to R474; 70_reset_and_hazards R782; 93_implementation_defined U20; the record: log 14). -/
def Obligations.ConditionalBranches : Prop :=
  ∀ (s : State) (rs rt : Reg) (offset : BitVec 16), s.inDelaySlot = false →
    (∀ p ∈ [(Instr.beq rs rt offset, s.reg rs == s.reg rt, false), (.bne rs rt offset, s.reg rs != s.reg rt, false),
        (.blez rs offset, decide ((s.reg rs).toInt ≤ 0), false), (.bgtz rs offset, decide (0 < (s.reg rs).toInt), false),
        (.bltz rs offset, decide ((s.reg rs).toInt < 0), false), (.bgez rs offset, decide (0 ≤ (s.reg rs).toInt), false),
        (.beql rs rt offset, s.reg rs == s.reg rt, true), (.bnel rs rt offset, s.reg rs != s.reg rt, true),
        (.blezl rs offset, decide ((s.reg rs).toInt ≤ 0), true), (.bgtzl rs offset, decide (0 < (s.reg rs).toInt), true),
        (.bltzl rs offset, decide ((s.reg rs).toInt < 0), true), (.bgezl rs offset, decide (0 ≤ (s.reg rs).toInt), true)],
      ∃ t, exec p.1 s = .next t ∧ Branches p.2.1 p.2.2 (s.pc + 4 + BitVec.ofInt 64 (4 * offset.toInt)) s t ∧
        FrameNone s t) ∧
    (∀ p ∈ [(Instr.bltzal rs offset, decide ((s.reg rs).toInt < 0), false),
        (.bgezal rs offset, decide (0 ≤ (s.reg rs).toInt), false),
        (.bltzall rs offset, decide ((s.reg rs).toInt < 0), true),
        (.bgezall rs offset, decide (0 ≤ (s.reg rs).toInt), true)],
      ∃ t, exec p.1 s = .next t ∧ Branches p.2.1 p.2.2 (s.pc + 4 + BitVec.ofInt 64 (4 * offset.toInt)) s t ∧
        WritesGpr 31 (s.pc + 8) s t ∧ FrameGpr s t) ∧
    (Cp1Usable s →
      ∀ p ∈ [(Instr.bc1f offset, !s.fpu.fcr31.c, false), (.bc1t offset, s.fpu.fcr31.c, false),
          (.bc1fl offset, !s.fpu.fcr31.c, true), (.bc1tl offset, s.fpu.fcr31.c, true)],
        ∃ t taken, exec p.1 s = .next t ∧ (s.hazards.afterCond = false → taken = p.2.1) ∧
          Branches taken p.2.2 (s.pc + 4 + BitVec.ofInt 64 (4 * offset.toInt)) s t ∧ FrameNone s t) ∧
    (Cp1Usable s → FpRegsLegal s [rt, rs] →
      (s.fpu.fcr31.enables.getLsbD 4 = true → ∀ x ∈ [s.fgr rs, s.fgr rt], fpClass x ∉ [.snan, .qnan]) →
      ∀ i ∈ [Instr.cFS rt rs, .cUnS rt rs, .cEqS rt rs, .cUeqS rt rs, .cOltS rt rs, .cUltS rt rs, .cOleS rt rs,
          .cUleS rt rs, .cSfS rt rs, .cNgleS rt rs, .cSeqS rt rs, .cNglS rt rs, .cLtS rt rs, .cNgeS rt rs, .cLeS rt rs,
          .cNgtS rt rs], ∀ t, exec i s = .next t → t.hazards = { agedRecord s with afterCond := true })

/-- A jump, branch or ERET in a delay slot has no meaning, BC1x and ERET when their coprocessor is usable (45_jump_branch R444;
93_implementation_defined U18); when it is not, they are CoprocessorUnusable's: the order is read from 47_coprocessor_cp0 R511
and R512 (log 36). -/
def Obligations.BranchStops : Prop :=
  ∀ (s : State) (rs rt : Reg) (offset : BitVec 16) (target : BitVec 26),
    s.inDelaySlot = true →
      ∀ i ∈ [Instr.j target, .jal target, .jr rs, .jalr rs rt, .beq rs rt offset, .bne rs rt offset, .blez rs offset,
        .bgtz rs offset, .bltz rs offset, .bgez rs offset, .bltzal rs offset, .bgezal rs offset, .beql rs rt offset,
        .bnel rs rt offset, .blezl rs offset, .bgtzl rs offset, .bltzl rs offset, .bgezl rs offset, .bltzall rs offset,
        .bgezall rs offset, .bc1f offset, .bc1t offset, .bc1fl offset, .bc1tl offset, .eret],
        (i ∈ [Instr.bc1f offset, .bc1t offset, .bc1fl offset, .bc1tl offset] → Cp1Usable s) → (i = .eret → Cp0Usable s) →
        exec i s = .refused .branchInDelaySlot

/-! ## Traps and system instructions -/

/-- The twelve traps: with the condition, on all 64 bits and a sign-extended immediate, the Trap exception; without it,
nothing; their words (46_trap_special R484 to R489, R491 to R497). -/
def Obligations.Traps : Prop :=
  ∀ (s : State) (rs rt : Reg) (code : BitVec 10) (imm : BitVec 16) (a b i : Int) (ua ub ui : Nat),
    a = (s.reg rs).toInt → b = (s.reg rt).toInt → i = imm.toInt → ua = (s.reg rs).toNat → ub = (s.reg rt).toNat →
    ui = (BitVec.ofInt 64 imm.toInt).toNat →
    (∀ p ∈ [(Instr.tge rs rt code, decide (b ≤ a)), (.tgeu rs rt code, decide (ub ≤ ua)),
        (.tlt rs rt code, decide (a < b)), (.tltu rs rt code, decide (ua < ub)), (.teq rs rt code, decide (a = b)),
        (.tne rs rt code, decide (a ≠ b)), (.tgei rs imm, decide (i ≤ a)), (.tgeiu rs imm, decide (ui ≤ ua)),
        (.tlti rs imm, decide (a < i)), (.tltiu rs imm, decide (ua < ui)), (.teqi rs imm, decide (a = i)),
        (.tnei rs imm, decide (a ≠ i))],
      if p.2 then TrapResult p.1 13 0 none s else NoResult p.1 s) ∧
    (∀ p ∈ [(Instr.tge rs rt code, 0b110000#6), (.tgeu rs rt code, 0b110001#6), (.tlt rs rt code, 0b110010#6),
        (.tltu rs rt code, 0b110011#6), (.teq rs rt code, 0b110100#6), (.tne rs rt code, 0b110110#6)],
      encode p.1 = 0#6 ++ rs ++ rt ++ code ++ p.2) ∧
    ∀ p ∈ [(Instr.tgei rs imm, 0b01000#5), (.tgeiu rs imm, 0b01001#5), (.tlti rs imm, 0b01010#5),
        (.tltiu rs imm, 0b01011#5), (.teqi rs imm, 0b01100#5), (.tnei rs imm, 0b01110#5)],
      encode p.1 = 1#6 ++ rs ++ p.2 ++ imm

/-- SYSCALL, BREAK and a COP3 word take their exceptions, in either mode and whatever their code; SYNC changes nothing; WAIT,
with coprocessor 0 usable, enters standby when the bus is idle, and changes nothing else: for certain with ExtRqst* not
asserted and no write on record that may still be buffered, never while ExtRqst* is asserted, and only with the write buffer
empty (46_trap_special R481, R482, R490, R505; 47_coprocessor_cp0 R513; what an idle bus is: log 42). -/
def Obligations.SystemInstructions : Prop :=
  ∀ (s : State) (code : BitVec 20) (cofun : BitVec 26),
    TrapResult (.syscall code) 8 0 none s ∧ TrapResult (.break_ code) 9 0 none s ∧
    TrapResult (.cop3 cofun) 10 0 none s ∧ NoResult .sync s ∧
    (Cp0Usable s → ∃ t, exec .wait s = .next t ∧
      (t.standby = s.standby ∨ t.standby = true ∧ s.events.extRqst = false ∧ t.bus.writes = []) ∧
      (s.events.extRqst = false → s.bus.writes = [] → t.standby = true) ∧ SameGpr s t ∧ SameHiLo s t ∧
      t.fpu = s.fpu ∧ t.cp0 = s.cp0 ∧ SameLink s t ∧ SameCaches s t ∧ SameBytes s t ∧ t.events = s.events ∧
      t.boot = s.boot ∧ t.part = s.part ∧ t.platform = s.platform ∧ t.inputs = s.inputs ∧ Advanced s t)

/-! ## Coprocessor 0 -/

/-- MFC0 gives the low word of a register, field by field as 11_cp0_registers lays it out, sign-extended; DMFC0 a 64-bit
register whole and any value of a 32-bit one; right behind an MTC0 or DMTC0 either gives any value (47_coprocessor_cp0 R515,
R517; 11_cp0_registers R97, R100, R105, R107, R112, R114; 70_reset_and_hazards R775; 93_implementation_defined U4, U21;
layouts of IWatch, DWatch and TagLo: logs 25, 26). -/
def Obligations.MoveFromCp0 : Prop :=
  ∀ (s : State) (rt : Reg), Cp0Usable s →
    (∀ p ∈ cp0Words s,
      (s.hazards.afterMtc0 = false → GprResult (.mfc0 rt p.1) rt (p.2.signExtend 64) s) ∧
      (∃ v, GprResult (.mfc0 rt p.1) rt v s) ∧ (Allows64 s → ∃ v, GprResult (.dmfc0 rt p.1) rt v s)) ∧
    (Allows64 s → s.hazards.afterMtc0 = false →
      GprResult (.dmfc0 rt 8) rt s.cp0.badVAddr s ∧ GprResult (.dmfc0 rt 14) rt s.cp0.epc s ∧
      GprResult (.dmfc0 rt 30) rt s.cp0.errorEpc s)

/-- MTC0 writes the implemented bits of a register, field by field, and nothing else; a read-only register ignores it;
Compare clears the timer latch; the 64-bit registers take all 64 bits, by MTC0 and DMTC0 alike; DMTC0 gives a 32-bit register
any value. No load or store stands before, the program is in unmapped space where a base or bound is written, and a write of
CAlg keeps the field of every active region. Each write is put on record: the windows of the hazard rules start
(47_coprocessor_cp0 R516, R518; 11_cp0_registers R72, R96, R97, R100, R112, R114; 70_reset_and_hazards R771, R772, R775 to
R778; log 14; MTC0 of a 64-bit register: log 3; layouts of IWatch, DWatch and TagLo: logs 25, 26; DMTC0 of a 32-bit register:
log 16; the active regions: log 15). -/
def Obligations.MoveToCp0 : Prop :=
  ∀ (s : State) (rt : Reg) (v : Word), Cp0Usable s → s.hazards.afterMem = false → v = low32 (s.reg rt) →
    (∀ p ∈ plainCp0Writes s v, Cp0Result (.mtc0 rt) p.1 p.2.1 p.2.2 s) ∧
    (∀ p ∈ [(8#5, s.cp0), (14#5, { s.cp0 with epc := s.reg rt }), (30#5, { s.cp0 with errorEpc := s.reg rt })],
      Cp0Result (.mtc0 rt) p.1 p.2 s.events s ∧ (Allows64 s → Cp0Result (.dmtc0 rt) p.1 p.2 s.events s)) ∧
    ((low32 s.pc).msb = true → ∀ p ∈ mappingWrites s v, Cp0Result (.mtc0 rt) p.1 p.2 s.events s) ∧
    ((∀ r, ActiveRegion s r → calgField (v &&& 0x77777777) r = calgField s.cp0.calg r) →
      Cp0Result (.mtc0 rt) 17 { s.cp0 with calg := v &&& 0x77777777 } s.events s) ∧
    (Allows64 s →
      (∀ rd ∈ [9#5, 11#5, 12#5, 13#5, 15#5, 16#5, 18#5, 19#5, 26#5, 27#5, 28#5],
        ∃ x, ∃ p ∈ plainCp0Writes s x, p.1 = rd ∧ Cp0Result (.dmtc0 rt) rd p.2.1 p.2.2 s) ∧
      ((low32 s.pc).msb = true → ∀ rd ∈ [0#5, 1#5, 2#5, 3#5],
        ∃ x, ∃ p ∈ mappingWrites s x, p.1 = rd ∧ Cp0Result (.dmtc0 rt) rd p.2 s.events s) ∧
      ∃ x : Word,
        ((∀ r, ActiveRegion s r → calgField (x &&& 0x77777777) r = calgField s.cp0.calg r) →
          Cp0Result (.dmtc0 rt) 17 { s.cp0 with calg := x &&& 0x77777777 } s.events s) ∧
        ∀ r, ActiveRegion s r → calgField (x &&& 0x77777777) r ≠ calgField s.cp0.calg r →
          exec (.dmtc0 rt 17) s = .refused .calgOfActiveRegion)

/-- What the words of a usable coprocessor 0 or 2 leave without meaning: the reserved words of the COP0 group, the TLB group,
every coprocessor 2 word, an unused register of coprocessor 0, and the writes of coprocessor 0 that the hazard rules forbid:
of translation or mode state behind a load or store, of a base or bound from mapped space, of CAlg's field of an active region
(30_encoding R259, R261, R276; 47_coprocessor_cp0 R513, R530; 70_reset_and_hazards R771, R772, R778; 93_implementation_defined
U2, U13, U14, U22, U23; that it is the write that is refused, and which regions are active: logs 14, 15). -/
def Obligations.CoprocessorStops : Prop :=
  ∀ (s : State) (base rt rd : Reg) (offset : BitVec 16) (cofun : BitVec 26) (v : Word), v = low32 (s.reg rt) →
    (s.cp0.status.cu.getLsbD 2 = true →
      ∀ i ∈ [Instr.cop2 cofun, .lwc2 base rt offset, .ldc2 base rt offset, .swc2 base rt offset, .sdc2 base rt offset],
        exec i s = .refused .coprocessor2) ∧
    (Cp0Usable s →
      (∀ w : Word, opOf w = 16#6 → rsOf w ∉ [0#5, 1#5, 4#5, 5#5] →
        ((rsOf w).toNat < 16 ∨ fnOf w ∉ [1#6, 2#6, 6#6, 8#6, 24#6, 32#6]) →
        s.execWord w = .refused .reservedCop0) ∧
      (∀ i ∈ [Instr.tlbr, .tlbwi, .tlbwr, .tlbp], exec i s = .refused .reservedCop0) ∧
      (rd ∈ [4#5, 5#5, 6#5, 7#5, 10#5, 20#5, 21#5, 22#5, 23#5, 24#5, 25#5, 29#5, 31#5] →
        exec (.mfc0 rt rd) s = .refused .reservedCp0Register ∧ exec (.mtc0 rt rd) s = .refused .reservedCp0Register ∧
        (Allows64 s → exec (.dmfc0 rt rd) s = .refused .reservedCp0Register ∧
          exec (.dmtc0 rt rd) s = .refused .reservedCp0Register)) ∧
      (s.hazards.afterMem = true → rd ∈ [0#5, 1#5, 2#5, 3#5, 17#5] →
        exec (.mtc0 rt rd) s = .refused .memoryBesideTranslationWrite ∧
        (Allows64 s → exec (.dmtc0 rt rd) s = .refused .memoryBesideTranslationWrite)) ∧
      (s.hazards.afterMem = true →
        v.getLsbD 4 ≠ s.cp0.status.um ∨ v.getLsbD 1 ≠ s.cp0.status.exl ∨ v.getLsbD 2 ≠ s.cp0.status.erl ∨
          v.getLsbD 25 ≠ s.cp0.status.re →
        exec (.mtc0 rt 12) s = .refused .memoryBesideTranslationWrite) ∧
      (s.hazards.afterMem = true → Allows64 s →
        exec (.dmtc0 rt 12) s = .refused .memoryBesideTranslationWrite ∨
        ∃ t, exec (.dmtc0 rt 12) s = .next t ∧ t.cp0.status.um = s.cp0.status.um ∧ t.cp0.status.exl = s.cp0.status.exl ∧
          t.cp0.status.erl = s.cp0.status.erl ∧ t.cp0.status.re = s.cp0.status.re) ∧
      (s.hazards.afterMem = false → (low32 s.pc).msb = false →
        ∀ x ∈ [0#5, 1#5, 2#5, 3#5], exec (.mtc0 rt x) s = .refused .mappedSpaceInWindow ∧
          (Allows64 s → exec (.dmtc0 rt x) s = .refused .mappedSpaceInWindow)) ∧
      (s.hazards.afterMem = false → ∀ r, ActiveRegion s r →
        calgField (v &&& 0x77777777) r ≠ calgField s.cp0.calg r → exec (.mtc0 rt 17) s = .refused .calgOfActiveRegion))

/-- An instruction of an unusable coprocessor takes Coprocessor Unusable with CE the unit, before anything else of the word
is looked at: coprocessor 0 in User mode with CU0 = 0, coprocessors 1 and 2 in either mode. First for every word of the
major opcodes, then for the instructions by name, BC1x and ERET in a delay slot among them (30_encoding R259;
47_coprocessor_cp0 R511 to R513; 60_exceptions R698). -/
def Obligations.CoprocessorUnusable : Prop :=
  ∀ (s : State) (base rt rd ft fs fd : Reg) (op : BitVec 5) (offset : BitVec 16) (cofun : BitVec 26) (fmtLow : BitVec 4)
      (fn : BitVec 6),
    (∀ w : Word,
      (¬Cp0Usable s → opOf w = 16#6 ∨ opOf w = 47#6 →
        ∃ t, s.execWord w = .next t ∧ ExceptionTaken 11 0 none s t) ∧
      (¬Cp1Usable s → opOf w ∈ [17#6, 49#6, 53#6, 57#6, 61#6] →
        ∃ t, s.execWord w = .next t ∧ ExceptionTaken 11 1 none s t) ∧
      (s.cp0.status.cu.getLsbD 2 = false → opOf w ∈ [18#6, 50#6, 54#6, 58#6, 62#6] →
        ∃ t, s.execWord w = .next t ∧ ExceptionTaken 11 2 none s t)) ∧
    (¬Cp0Usable s →
      ∀ i ∈ [Instr.mfc0 rt rd, .dmfc0 rt rd, .mtc0 rt rd, .dmtc0 rt rd, .eret, .wait, .cache base op offset, .tlbr, .tlbwi,
        .tlbwr, .tlbp], TrapResult i 11 0 none s) ∧
    (s.cp0.status.cu.getLsbD 2 = false →
      ∀ i ∈ [Instr.cop2 cofun, .lwc2 base rt offset, .ldc2 base rt offset, .swc2 base rt offset, .sdc2 base rt offset],
        TrapResult i 11 2 none s) ∧
    (¬Cp1Usable s →
      ∀ i ∈ [Instr.addS ft fs fd, .subS ft fs fd, .mulS ft fs fd, .divS ft fs fd, .sqrtS fs fd, .absS fs fd,
        .movS fs fd, .negS fs fd, .roundWS fs fd, .truncWS fs fd, .ceilWS fs fd, .floorWS fs fd, .cvtWS fs fd,
        .cvtSW fs fd, .roundLS fs fd, .truncLS fs fd, .ceilLS fs fd, .floorLS fs fd, .cvtLS fs fd, .cvtDS fs fd,
        .cop1Other fmtLow ft fs fd fn, .cFS ft fs, .cUnS ft fs, .cEqS ft fs, .cUeqS ft fs, .cOltS ft fs, .cUltS ft fs,
        .cOleS ft fs, .cUleS ft fs, .cSfS ft fs, .cNgleS ft fs, .cSeqS ft fs, .cNglS ft fs, .cLtS ft fs, .cNgeS ft fs,
        .cLeS ft fs, .cNgtS ft fs, .mfc1 rt fs, .dmfc1 rt fs, .cfc1 rt fs, .mtc1 rt fs, .dmtc1 rt fs, .ctc1 rt fs,
        .lwc1 base ft offset, .swc1 base ft offset, .ldc1 base ft offset, .sdc1 base ft offset, .bc1f offset, .bc1t offset,
        .bc1fl offset, .bc1tl offset], TrapResult i 11 1 none s)

/-- Every 64-bit operation in User mode with UX = 0 takes Reserved Instruction, the coprocessor moves when their coprocessor
is usable (30_encoding R280; 60_exceptions R697). That a load or store does so right behind a write of translation or mode
state, before the refusal of U22, is the model's choice (log 14). -/
def Obligations.SixtyFourBitReserved : Prop :=
  ∀ (s : State) (rs rt rd : Reg) (sa : BitVec 5) (imm : BitVec 16), s.userMode = true → s.cp0.status.ux = false →
    (∀ i ∈ [Instr.daddi rs rt imm, .daddiu rs rt imm, .dadd rs rt rd, .daddu rs rt rd, .dsub rs rt rd, .dsubu rs rt rd,
      .dsll rt rd sa, .dsrl rt rd sa, .dsra rt rd sa, .dsll32 rt rd sa, .dsrl32 rt rd sa, .dsra32 rt rd sa,
      .dsllv rs rt rd, .dsrlv rs rt rd, .dsrav rs rt rd, .dmult rs rt, .dmultu rs rt, .ddiv rs rt, .ddivu rs rt,
      .ld rs rt imm, .ldl rs rt imm, .ldr rs rt imm, .lwu rs rt imm, .lld rs rt imm, .scd rs rt imm, .sd rs rt imm,
      .sdl rs rt imm, .sdr rs rt imm],
      TrapResult i 10 0 none s) ∧
    (Cp0Usable s → TrapResult (.dmfc0 rt rd) 10 0 none s ∧ TrapResult (.dmtc0 rt rd) 10 0 none s) ∧
    (Cp1Usable s → TrapResult (.dmfc1 rt rd) 10 0 none s ∧ TrapResult (.dmtc1 rt rd) 10 0 none s)

/-! ## Loads and stores -/

/-- The aligned loads from uncached RAM, LWC1 among them: the bytes in the byte order of the program, sign- or zero-extended;
every load is put on record (40_load_store R303 to R309; 49_fpu_instructions R640; 20_memory R154, R160; 70_reset_and_hazards
R778). -/
def Obligations.LoadsUncached : Prop :=
  ∀ (s : State) (base rt : Reg) (offset : BitVec 16) (pa : Word), UncachedRam s (s.ea base offset) pa false →
    ∀ m : Nat → Nat, (∀ n, m n = datum s.mem.get s pa n) →
      GprResult (.lb base rt offset) rt ((BitVec.ofNat 8 (m 1)).signExtend 64) s ∧
      GprResult (.lbu base rt offset) rt (BitVec.ofNat 64 (m 1)) s ∧
      ((s.ea base offset).toNat % 2 = 0 →
        GprResult (.lh base rt offset) rt ((BitVec.ofNat 16 (m 2)).signExtend 64) s ∧
        GprResult (.lhu base rt offset) rt (BitVec.ofNat 64 (m 2)) s) ∧
      ((s.ea base offset).toNat % 4 = 0 →
        GprResult (.lw base rt offset) rt ((BitVec.ofNat 32 (m 4)).signExtend 64) s ∧
        (Allows64 s → GprResult (.lwu base rt offset) rt (BitVec.ofNat 64 (m 4)) s) ∧
        (Cp1Usable s → FgrResult (.lwc1 base rt offset) rt (BitVec.ofNat 32 (m 4)) s.fpu.fcr31 s)) ∧
      ((s.ea base offset).toNat % 8 = 0 → Allows64 s → GprResult (.ld base rt offset) rt (BitVec.ofNat 64 (m 8)) s) ∧
      ∀ p ∈ loadForms base rt offset, MayExecute s p.1 → (s.ea base offset).toNat % p.2 = 0 →
        ∀ t, exec p.1 s = .next t → RecordsMem s t

/-- LWL, LWR, LDL and LDR from uncached RAM: the aligned word or doubleword that holds the address, shifted, merged with the
register; SWL, SWR, SDL and SDR to it: that unit afterwards, the bytes not stored in it included, and no byte outside it
(40_load_store R310, R311, R313, R314, R319, R321 to R323). `o` is the number of bytes of the unit that lie before the address
as the program orders them from the most significant on. -/
def Obligations.PartsUncached : Prop :=
  ∀ (s : State) (base rt : Reg) (offset : BitVec 16) (pa unit : Word) (size v r o : Nat),
    size = 4 ∨ size = 8 ∧ Allows64 s → unit = pa - BitVec.ofNat 32 (pa.toNat % size) →
    v = datum s.mem.get s unit size → r = (s.reg rt).toNat % 2 ^ (8 * size) →
    o = (if s.bigEndianCpu then pa.toNat % size else size - 1 - pa.toNat % size) →
    (UncachedRam s (s.ea base offset) pa false →
      (size = 4 →
        GprResult (.lwl base rt offset) rt (sext32 (BitVec.ofNat 32 (loadedLeft size o v r))) s ∧
        GprResult (.lwr base rt offset) rt (sext32 (BitVec.ofNat 32 (loadedRight size o v r))) s) ∧
      (size = 8 → GprResult (.ldl base rt offset) rt (BitVec.ofNat 64 (loadedLeft size o v r)) s ∧
        GprResult (.ldr base rt offset) rt (BitVec.ofNat 64 (loadedRight size o v r)) s)) ∧
    (UncachedRam s (s.ea base offset) pa true →
      (size = 4 → StoreResult (.swl base rt offset) unit 4 (storedLeft size o v r) s ∧
        StoreResult (.swr base rt offset) unit 4 (storedRight size o v r) s) ∧
      (size = 8 → StoreResult (.sdl base rt offset) unit 8 (storedLeft size o v r) s ∧
        StoreResult (.sdr base rt offset) unit 8 (storedRight size o v r) s))

/-- The aligned stores to uncached RAM, SWC1 among them: the low bytes of the register in the byte order of the program, and
no other byte (40_load_store R315 to R318; 49_fpu_instructions R641; 20_memory R154, R161). -/
def Obligations.StoresUncached : Prop :=
  ∀ (s : State) (base rt : Reg) (offset : BitVec 16) (pa : Word), UncachedRam s (s.ea base offset) pa true →
    StoreResult (.sb base rt offset) pa 1 (s.reg rt).toNat s ∧
    ((s.ea base offset).toNat % 2 = 0 → StoreResult (.sh base rt offset) pa 2 (s.reg rt).toNat s) ∧
    ((s.ea base offset).toNat % 4 = 0 →
      StoreResult (.sw base rt offset) pa 4 (s.reg rt).toNat s ∧
      (Cp1Usable s → StoreResult (.swc1 base rt offset) pa 4 (s.fgr rt).toNat s)) ∧
    ((s.ea base offset).toNat % 8 = 0 → Allows64 s → StoreResult (.sd base rt offset) pa 8 (s.reg rt).toNat s)

/-- LL and LLD through the data cache, hit or miss: what LW and LD do, with LLbit = 1 and the linked address set; the datum is
the one the cache or, on a miss, memory holds. SC and SCD to the linked address: with LLbit = 1 they do what SW and SD do and
write 1 to rt, with LLbit = 0 they store nothing and write 0; to another address than the last LL's or LLD's they have no
meaning. A load that replaces the linked line, and CACHE Hit Invalidate of it, clear LLbit; CachedLoads to CacheMoves say what
every other access does to it (40_load_store R327 to R331; 21_caches R247; 93_implementation_defined U12; before any LL an SC
is judged by LLbit alone, and one whose own store makes the linked line Dirty Exclusive clears LLbit, as SW does: log 39). -/
def Obligations.LinkedAccesses : Prop :=
  ∀ (s : State) (base rt : Reg) (offset : BitVec 16) (pa : Word) (alg : BitVec 3),
    (CachedRam s (s.ea base offset) pa alg false →
      ∀ p ∈ [(Instr.ll base rt offset, Instr.lw base rt offset, 4), (.lld base rt offset, .ld base rt offset, 8)],
        (s.ea base offset).toNat % p.2.2 = 0 → (p.2.2 = 8 → Allows64 s) →
        ∃ u, exec p.2.1 s = .next u ∧ exec p.1 s = .next { u with llBit := true, llAddr := pa, llSeen := true } ∧
          WritesGpr rt ((BitVec.ofNat (8 * p.2.2) (datum (s.cachedByte pa) s pa p.2.2)).signExtend 64) s u ∧
          Advanced s u) ∧
    (alg = 2 ∧ UncachedRam s (s.ea base offset) pa true ∨ CachedRam s (s.ea base offset) pa alg true →
      ∀ p ∈ [(Instr.sc base rt offset, Instr.sw base rt offset, 4), (.scd base rt offset, .sd base rt offset, 8)],
        (s.ea base offset).toNat % p.2.2 = 0 → (p.2.2 = 8 → Allows64 s) →
        ((s.llSeen = true → s.llAddr = pa) → s.llBit = true →
          ∃ u, exec p.2.1 s = .next u ∧ exec p.1 s = .next (u.setReg rt 1) ∧ SameGpr s u ∧ Advanced s u ∧
            datum (if alg = 2 then u.mem.get else u.cachedByte pa) s pa p.2.2 = (s.reg rt).toNat % 256 ^ p.2.2) ∧
        ((s.llSeen = true → s.llAddr = pa) → s.llBit = false → GprResult p.1 rt 0 s) ∧
        (s.llSeen = true → s.llAddr ≠ pa → exec p.1 s = .refused .conditionalElsewhere)) ∧
    (∀ i : BitVec 7, i = lineIndex pa →
      (CachedRam s (s.ea base offset) pa alg false → s.dcache.lookup pa = .miss →
        LinkedLine s i (s.dcache.line (s.dVictim i) i) →
        ∃ t, exec (.lb base rt offset) s = .next t ∧ t.llBit = false) ∧
      (Cp0Usable s → NoMemHazard s → MapsTo s (s.ea base offset) pa alg → (alg = 0 ∨ alg = 1 ∨ alg = 3) →
        ∀ w : Way, s.dcache.lookup pa = .hit w → LinkedLine s i (s.dcache.line w i) →
        ∃ t, exec (.cache base 0x11 offset) s = .next t ∧ t.llBit = false))

/-- The address exceptions of loads, stores and CACHE, in their order: a kernel address in User mode, a kuseg address above
DBound, and for loads and stores a misaligned address; BadVAddr is the effective address. Every other address translates, in
kuseg by DBase and elsewhere by clearing bits 31:29, with the algorithm of its region (20_memory R142, R146 to R149, R155;
21_caches R234; 60_exceptions R680, R682). That CACHE translates as a load does, and needs no alignment, is D13's reading of
R234 (log 45). -/
def Obligations.AddressExceptions : Prop :=
  ∀ (s : State) (base r : Reg) (op : BitVec 5) (offset : BitVec 16), NoMemHazard s → ∀ va : DWord, va = s.ea base offset →
    (∀ p ∈ (loadForms base r offset).map (fun p => (p, 4#5)) ++
        (storeForms base r offset ++ conditionalForms base r offset).map (fun p => (p, 5#5)),
      MayExecute s p.1.1 →
      if va.getLsbD 31 = true ∧ s.userMode = true then TrapResult p.1.1 p.2 0 (some va) s
      else if va.getLsbD 31 = false ∧ s.cp0.dbound.toNat < (va.extractLsb' 12 19).toNat then
        TrapResult p.1.1 3 0 (some va) s
      else if va.toNat % p.1.2 ≠ 0 then TrapResult p.1.1 p.2 0 (some va) s
      else MapsTo s va (translated s s.cp0.dbase va).1 (translated s s.cp0.dbase va).2) ∧
    (Cp0Usable s →
      if va.getLsbD 31 = true ∧ s.userMode = true then TrapResult (.cache base op offset) 4 0 (some va) s
      else if va.getLsbD 31 = false ∧ s.cp0.dbound.toNat < (va.extractLsb' 12 19).toNat then
        TrapResult (.cache base op offset) 3 0 (some va) s
      else MapsTo s va (translated s s.cp0.dbase va).1 (translated s s.cp0.dbase va).2)

/-- What leaves a load, store or CACHE without meaning: a write of translation or mode state right before it, kuseg within
the window of a base or bound write, a reserved cache algorithm or the line in both ways (of SC and SCD, when they would
store), LL or LLD to an uncached address; and what never ends: a read or a write that the platform never accepts, of a load,
of a store, of a victim, of CACHE (70_reset_and_hazards R772, R778; 93_implementation_defined U7, U8, U11, U22, U23;
60_exceptions R677; 80_system_interface R819; how a read or a write hangs: log 7). That an LL or LLD of an uncached address
whose read hangs does that in place of U11's refusal, and that a reserved algorithm and the line in both ways are refused
before a Watch exception or a Cache Error comes, is the model's choice (log 35). -/
def Obligations.MemoryStops : Prop :=
  ∀ (s : State) (base r : Reg) (op : BitVec 5) (offset : BitVec 16) (pa : Word) (alg : BitVec 3) (va : DWord),
    va = s.ea base offset →
    (Cp0Usable s →
      (s.hazards.afterTransWrite = true → exec (.cache base op offset) s = .refused .memoryBesideTranslationWrite) ∧
      (s.hazards.afterTransWrite = false → 0 < s.hazards.mappedWindow → va.getLsbD 31 = false →
        exec (.cache base op offset) s = .refused .mappedSpaceInWindow) ∧
      (NoMemHazard s → MapsTo s va pa alg → 4 ≤ alg.toNat →
        exec (.cache base op offset) s = .refused .reservedCacheAlgorithm) ∧
      (NoMemHazard s → MapsTo s va pa alg → (alg = 0 ∨ alg = 1 ∨ alg = 3) → ∀ l : DLine,
        l = s.dcache.line (wayOf va) (lineIndex pa) → l.dirty = true →
        (∀ x ∈ lineBytes (lineBase l.tag (lineIndex pa)), kindAt s.platform x = some .silent) →
        exec (.cache base 0x01 offset) s = .fault .writeHangs)) ∧
    (∀ p ∈ loadForms base r offset ++ storeForms base r offset ++ conditionalForms base r offset,
      MayExecute s p.1 →
      (s.hazards.afterTransWrite = true → exec p.1 s = .refused .memoryBesideTranslationWrite) ∧
      (s.hazards.afterTransWrite = false → 0 < s.hazards.mappedWindow → va.getLsbD 31 = false →
        exec p.1 s = .refused .mappedSpaceInWindow)) ∧
    (NoMemHazard s → MapsTo s va pa alg →
      (∀ p ∈ loadForms base r offset ++ storeForms base r offset, MayExecute s p.1 → va.toNat % p.2 = 0 →
        (4 ≤ alg.toNat → exec p.1 s = .refused .reservedCacheAlgorithm) ∧
        ((alg = 0 ∨ alg = 1 ∨ alg = 3) → s.dcache.lookup pa = .both → exec p.1 s = .refused .duplicateTag)) ∧
      (∀ p ∈ conditionalForms base r offset, MayExecute s p.1 → va.toNat % p.2 = 0 → s.llBit = true →
        (s.llSeen = true → s.llAddr = pa) →
        (4 ≤ alg.toNat → exec p.1 s = .refused .reservedCacheAlgorithm) ∧
        ((alg = 0 ∨ alg = 1 ∨ alg = 3) → s.dcache.lookup pa = .both → exec p.1 s = .refused .duplicateTag)) ∧
      (∀ p ∈ loadForms base r offset, MayExecute s p.1 → va.toNat % p.2 = 0 → alg = 2 →
        s.dwatchMatches va false = false → (∀ x ∈ doubleOf pa, kindAt s.platform x = some .silent) →
        exec p.1 s = .fault .readHangs) ∧
      (∀ p ∈ storeForms base r offset, MayExecute s p.1 → va.toNat % p.2 = 0 →
        alg = 2 ∨ alg = 0 ∧ s.dcache.lookup pa ≠ .both ∨ alg = 1 ∧ (∃ w, s.dcache.lookup pa = .hit w) →
        s.dwatchMatches va true = false → (∀ x ∈ doubleOf pa, kindAt s.platform x = some .silent) →
        exec p.1 s = .fault .writeHangs) ∧
      (∀ old : DLine, old = s.dcache.line (s.dVictim (lineIndex pa)) (lineIndex pa) → (alg = 0 ∨ alg = 1 ∨ alg = 3) →
        s.dcache.lookup pa = .miss → old.dirty = true →
        (∀ x ∈ lineBytes (lineBase old.tag (lineIndex pa)), kindAt s.platform x = some .silent) →
        (∀ x ∈ lineBytes (lineBaseOf pa), kindAt s.platform x ≠ some .silent) →
        ∀ p ∈ (loadForms base r offset).map (fun p => (p, false)) ++ (storeForms base r offset).map (fun p => (p, true)),
          MayExecute s p.1.1 → va.toNat % p.1.2 = 0 → s.dwatchMatches va p.2 = false → (p.2 = true → alg ≠ 0) →
          exec p.1.1 s = .fault .writeHangs)) ∧
    (UncachedRam s va pa false →
      (va.toNat % 4 = 0 → exec (.ll base r offset) s = .refused .linkUncached) ∧
      (va.toNat % 8 = 0 → Allows64 s → exec (.lld base r offset) s = .refused .linkUncached))

/-- What memory answers with an error. Where nothing is, an uncached fetch or load takes Bus Error and a store vanishes; a
device answers a load with some value, an error or, with DE = 0, bad parity, and a store to it changes no memory. With DE = 0
an uncached fetch or load that is returned with bad parity, and a load that hits a line with a tag, or a byte of its own, of
bad parity, take Cache Error. A cached load or store that has to refill, and CACHE Fill, take Bus Error where nothing is, and
the line is left invalid (log 28); where the answer is of bad parity they take, with DE = 0, Cache Error behind the refill; a
dirty victim is written back behind either, and where that write hangs the access is MemoryStops' (60_exceptions R685 to
R688; 21_caches R208, R214, R230, R245; 80_system_interface R856, R868; how the platform answers: log 7; the parity model:
log 46). Of the model's choice are the victim among valid ways and F of way A (log 21), and that an LL or LLD of an uncached
address takes Bus Error or Cache Error in place of U11's refusal (log 35). The errors of a cached fetch are
StepFetchesCached's. -/
def Obligations.MemoryErrors : Prop :=
  ∀ (s : State) (base rt : Reg) (offset : BitVec 16) (pa : Word),
    (NothingDue s → s.hazards.mappedWindow = 0 → s.translateFetch = .ok pa 2 → s.pc.toNat % 4 = 0 →
      s.iwatchMatches = false →
      ((∀ x ∈ doubleOf pa, kindAt s.platform x = some .nothing) →
        ∃ t, step s = .next t.settled.tick ∧ ExceptionTaken 6 0 none s t) ∧
      ((∀ x ∈ doubleOf pa, kindAt s.platform x = some .badParity) → s.cp0.status.de = false →
        ∃ t, step s = .next t.settled.tick ∧
          CacheErrorTaken (cacheErrWord false true false true pa (low32 s.pc)) s t ∧ SameLink s t ∧ SameCaches s t ∧
          SameBytes s t)) ∧
    (∀ va : DWord, va = s.ea base offset → NoMemHazard s →
      (∀ p ∈ loadForms base rt offset, MayExecute s p.1 → va.toNat % p.2 = 0 → s.dwatchMatches va false = false →
        MapsTo s va pa 2 →
        ((∀ x ∈ doubleOf pa, kindAt s.platform x = some .nothing) → TrapResult p.1 7 0 none s) ∧
        ((∀ x ∈ doubleOf pa, kindAt s.platform x = some .badParity) → s.cp0.status.de = false →
          ∃ t, exec p.1 s = .next t ∧ CacheErrorTaken (cacheErrWord true true false true pa (low32 va)) s t ∧
            SameLink s t ∧ SameCaches s t ∧ SameBytes s t) ∧
        ((∀ x ∈ doubleOf pa, kindAt s.platform x = some .device) →
          (if p.1 = .lwc1 base rt offset then ∃ v, FgrResult p.1 rt v s.fpu.fcr31 s
            else if p.1 ∈ [Instr.ll base rt offset, .lld base rt offset] then exec p.1 s = .refused .linkUncached
            else ∃ v, GprResult p.1 rt v s) ∨
          TrapResult p.1 7 0 none s ∨
          s.cp0.status.de = false ∧ ∃ t, exec p.1 s = .next t ∧
            CacheErrorTaken (cacheErrWord true true false true pa (low32 va)) s t ∧ SameLink s t ∧ SameCaches s t ∧
            SameBytes s t)) ∧
      (∀ p ∈ storeForms base rt offset, MayExecute s p.1 → va.toNat % p.2 = 0 → s.dwatchMatches va true = false →
        MapsTo s va pa 2 →
        (∀ x ∈ doubleOf pa, kindAt s.platform x = some .nothing ∨ kindAt s.platform x = some .device) →
        NoResult p.1 s) ∧
      (∀ (alg : BitVec 3) (w : Way) (l : DLine) (et : Bool), MapsTo s va pa alg → (alg = 0 ∨ alg = 1 ∨ alg = 3) →
        s.dcache.lookup pa = .hit w → s.cp0.status.de = false → l = s.dcache.line w (lineIndex pa) →
        et = decide (l.tagPar ≠ parity (l.tag ++ l.cs) ∨ l.wPar ≠ l.w) →
        ∀ p ∈ loadForms base rt offset, MayExecute s p.1 → va.toNat % p.2 = 0 →
          (et = true → ∃ t ed, exec p.1 s = .next t ∧ CacheErrorTaken (cacheErrWord true ed true false pa (low32 va)) s t ∧
            SameLink s t ∧ SameCaches s t ∧ SameBytes s t) ∧
          (p.1 ∉ [Instr.lwl base rt offset, .lwr base rt offset, .ldl base rt offset, .ldr base rt offset] →
            (∃ x ∈ byteAddrs s pa (p.2), l.par[x % 32] ≠ parity l.data[x % 32]) →
            ∃ t, exec p.1 s = .next t ∧ CacheErrorTaken (cacheErrWord true true et false pa (low32 va)) s t ∧
              SameLink s t ∧ SameCaches s t ∧ SameBytes s t)) ∧
      ∀ (alg : BitVec 3) (i : BitVec 7), MapsTo s va pa alg → (alg = 0 ∨ alg = 1 ∨ alg = 3) → i = lineIndex pa →
        (∀ (v : Way) (old : DLine), v = s.dVictim i → old = s.dcache.line v i → s.dcache.lookup pa = .miss →
          (∀ y ∈ lineBytes (lineBase old.tag i), kindAt s.platform y ≠ some .silent) →
          ∀ p ∈ (loadForms base rt offset).map (fun p => (p, false)) ++ (storeForms base rt offset).map (fun p => (p, true)),
            MayExecute s p.1.1 → va.toNat % p.1.2 = 0 → s.dwatchMatches va p.2 = false → (p.2 = true → alg ≠ 0) →
            ((∀ y ∈ lineBytes (lineBaseOf pa), kindAt s.platform y = some .nothing) →
              s.cp0.status.de = true ∨ old.dirty = false →
              ∃ t, exec p.1.1 s = .next t ∧ ExceptionRegisters 7 0 none s t ∧ Replaces s i v ∧
                (t.dcache.line v i).valid = false ∧ SameDLinesBut v i s t ∧ t.icache = s.icache ∧
                SameBytesBut (if old.dirty then lineBytes (lineBase old.tag i) else []) s t ∧
                LinkKept (LinkedLine s i old) s t ∧ t.fpu = s.fpu ∧ SameOutside s t) ∧
            ((∀ y ∈ lineBytes (lineBaseOf pa), kindAt s.platform y = some .badParity) → s.cp0.status.de = false →
              ∃ t, exec p.1.1 s = .next t ∧ CacheErrorTaken (cacheErrWord true true false true pa (low32 va)) s t ∧
                Replaces s i v ∧ t.dcache.lookup pa = .hit v ∧ RefillsD v i s t ∧ t.icache = s.icache ∧
                SameBytesBut (if old.dirty then lineBytes (lineBase old.tag i) else []) s t ∧
                LinkKept (LinkedLine s i old) s t)) ∧
        (Cp0Usable s → ∀ w : Way, w = wayOf va →
          ((∀ y ∈ lineBytes (lineBaseOf pa), kindAt s.platform y = some .nothing) →
            ∃ t, exec (.cache base 0x14 offset) s = .next t ∧ ExceptionRegisters 7 0 none s t ∧
              (t.icache.line w i).valid = false ∧ SameILinesBut w i s t ∧ t.dcache = s.dcache ∧ SameBytes s t ∧
              SameLink s t ∧ t.fpu = s.fpu ∧ SameOutside s t) ∧
          ((∀ y ∈ lineBytes (lineBaseOf pa), kindAt s.platform y = some .badParity) → s.cp0.status.de = false →
            ∃ t, exec (.cache base 0x14 offset) s = .next t ∧
              CacheErrorTaken (cacheErrWord true true false true pa (low32 va)) s t ∧ (t.icache.line w i).valid = true ∧
              (t.icache.line w i).tag = lineTag pa ∧ RefillsI w i s t ∧ t.dcache = s.dcache ∧ SameBytes s t ∧
              SameLink s t)))

/-- The aligned loads through the data cache, hit or miss, LWC1 among them: the datum the cache or, on a miss, memory holds;
nothing else on a hit; on a miss the line, its parity generated, takes the place of a victim whose bytes, when it is dirty,
reach memory, and which breaks the link when it was the linked line (21_caches R211 to R214, R230, R247; 40_load_store R330;
80_system_interface R844). The victim
is R208's outside the window that a change of Status.DL opens; among valid ways it is log 21's. -/
def Obligations.CachedLoads : Prop :=
  ∀ (s : State) (base rt : Reg) (offset : BitVec 16) (pa : Word) (alg : BitVec 3),
    CachedRam s (s.ea base offset) pa alg false →
    (∀ p ∈ [(Instr.lb base rt offset, 1, true), (.lbu base rt offset, 1, false), (.lh base rt offset, 2, true),
        (.lhu base rt offset, 2, false), (.lw base rt offset, 4, true), (.lwu base rt offset, 4, false),
        (.ld base rt offset, 8, false)],
      (s.ea base offset).toNat % p.2.1 = 0 → MayExecute s p.1 →
      ∃ t, exec p.1 s = .next t ∧
        WritesGpr rt (if p.2.2 then (BitVec.ofNat (8 * p.2.1) (datum (s.cachedByte pa) s pa p.2.1)).signExtend 64
          else BitVec.ofNat 64 (datum (s.cachedByte pa) s pa p.2.1)) s t ∧ t.fpu = s.fpu ∧ CachedLoadFrame pa s t) ∧
    ((s.ea base offset).toNat % 4 = 0 → Cp1Usable s →
      ∃ t, exec (.lwc1 base rt offset) s = .next t ∧ SameGpr s t ∧
        t.fgr rt = BitVec.ofNat 32 (datum (s.cachedByte pa) s pa 4) ∧ (∀ g, g ≠ rt → t.fgr g = s.fgr g) ∧
        t.fpu.fcr31 = s.fpu.fcr31 ∧ CachedLoadFrame pa s t)

/-- The aligned stores through the data cache under every algorithm, hit or miss, SWC1 among them: the datum is what the cache
or, on a miss without allocation, memory holds afterwards; memory has it too unless the algorithm is 3, which marks the line
written and Dirty Exclusive; a miss under algorithm 0 leaves the cache alone; the bytes of a dirty victim reach memory and
no other byte changes. The parity of the bytes stored is generated, or with Status.CE = 1 that of ECC; LLbit is cleared when
the linked line is replaced or changes its state (21_caches R211, R213, R214, R230, R247; 40_load_store R330;
80_system_interface R845; the layout of ECC: log 46; a store as a change of state: log 39). The victim
is R208's outside the window that a change of Status.DL opens; among valid ways it is log 21's. -/
def Obligations.CachedStores : Prop :=
  ∀ (s : State) (base rt : Reg) (offset : BitVec 16) (pa : Word) (alg : BitVec 3),
    CachedRam s (s.ea base offset) pa alg true →
    ∀ p ∈ [(Instr.sb base rt offset, 1, (s.reg rt).toNat), (.sh base rt offset, 2, (s.reg rt).toNat),
        (.sw base rt offset, 4, (s.reg rt).toNat), (.sd base rt offset, 8, (s.reg rt).toNat),
        (.swc1 base rt offset, 4, (s.fgr rt).toNat)],
      (s.ea base offset).toNat % p.2.1 = 0 → MayExecute s p.1 →
      ∃ t, exec p.1 s = .next t ∧ datum (t.cachedByte pa) s pa p.2.1 = p.2.2 % 256 ^ p.2.1 ∧
        (alg ≠ 3 → datum t.mem.get s pa p.2.1 = p.2.2 % 256 ^ p.2.1) ∧
        CachedStoreFrame pa alg (byteAddrs s pa p.2.1) s t

/-- LWL, LWR, LDL, LDR, SWL, SWR, SDL and SDR through the data cache under every algorithm, hit or miss: the merged register,
the unit that holds the address as the cache and, unless the algorithm is 3, memory hold it afterwards, with the frames of the
aligned loads and stores, of the bytes stored alone (21_caches R211 to R214, R230, R247; 40_load_store R310, R311, R313, R314,
R319, R321 to R323; victim, link, ECC: logs 21, 39, 46). `o` is as for PartsUncached. -/
def Obligations.CachedParts : Prop :=
  ∀ (s : State) (base rt : Reg) (offset : BitVec 16) (pa unit : Word) (alg : BitVec 3) (size v m r o : Nat),
    size = 4 ∨ size = 8 ∧ Allows64 s → unit = pa - BitVec.ofNat 32 (pa.toNat % size) →
    v = datum (s.cachedByte pa) s unit size → m = datum s.mem.get s unit size →
    r = (s.reg rt).toNat % 2 ^ (8 * size) →
    o = (if s.bigEndianCpu then pa.toNat % size else size - 1 - pa.toNat % size) →
    (CachedRam s (s.ea base offset) pa alg false →
      ∀ p ∈ [(Instr.lwl base rt offset, 4, sext32 (BitVec.ofNat 32 (loadedLeft size o v r))),
          (.lwr base rt offset, 4, sext32 (BitVec.ofNat 32 (loadedRight size o v r))),
          (.ldl base rt offset, 8, BitVec.ofNat 64 (loadedLeft size o v r)),
          (.ldr base rt offset, 8, BitVec.ofNat 64 (loadedRight size o v r))],
        p.2.1 = size →
        ∃ t, exec p.1 s = .next t ∧ WritesGpr rt p.2.2 s t ∧ t.fpu = s.fpu ∧ CachedLoadFrame pa s t) ∧
    (CachedRam s (s.ea base offset) pa alg true →
      ∀ p ∈ [(Instr.swl base rt offset, 4, storedLeft, true), (.swr base rt offset, 4, storedRight, false),
          (.sdl base rt offset, 8, storedLeft, true), (.sdr base rt offset, 8, storedRight, false)],
        p.2.1 = size →
        ∃ t, exec p.1 s = .next t ∧ datum (t.cachedByte pa) s unit size = p.2.2.1 size o v r ∧
          (alg ≠ 3 → datum t.mem.get s unit size = p.2.2.1 size o m r) ∧
          CachedStoreFrame pa alg (partAddrs s p.2.2.2 unit size (pa.toNat % size)) s t)

/-- CACHE, with coprocessor 0 usable, at an address of a cached region: Hit Invalidate D and I with Status.CH, and no more on
a miss; Index Invalidate I, which leaves the address's tag; Index Load Tag, with the parity bits of the doubleword that bits
4:3 of the address select in ECC, and Index Store Tag of both caches, which leaves the data and computes the tag's parity. The
upper four bits of PTagLo are what Index Store Tag last wrote there and zero once anything else has set the tag (conflict
C59). An operation that invalidates the linked line or changes its tag or state clears LLbit (21_caches R234 to R237, R239 to
R241, R247; 40_load_store R330; layouts of TagLo and ECC: logs 25, 46; the way: log 22; W = 0 after Index Store Tag of the
data cache: log 23; Index Store Tag of the tag and state that the linked line has: log 39). No other line changes. The address
exceptions of CACHE are AddressExceptions'. -/
def Obligations.CacheTags : Prop :=
  ∀ (s : State) (base : Reg) (offset : BitVec 16) (va : DWord) (pa : Word) (alg : BitVec 3), Cp0Usable s →
    NoMemHazard s → va = s.ea base offset → MapsTo s va pa alg → (alg = 0 ∨ alg = 1 ∨ alg = 3) →
    ∀ (i : BitVec 7) (w : Way) (c : Cp0), i = lineIndex pa → w = wayOf va → c = s.cp0 →
    (s.dcache.lookup pa = .miss →
      ∃ t, exec (.cache base 0x11 offset) s = .next t ∧ t.cp0 = { c with status := { c.status with ch := false } } ∧
        SameCaches s t ∧ SameBytes s t ∧ CacheFrame False s t) ∧
    (s.icache.lookup pa = .miss →
      ∃ t, exec (.cache base 0x10 offset) s = .next t ∧ t.cp0 = { c with status := { c.status with ch := false } } ∧
        SameCaches s t ∧ SameBytes s t ∧ CacheFrame False s t) ∧
    (∀ v, s.dcache.lookup pa = .hit v →
      ∃ t, exec (.cache base 0x11 offset) s = .next t ∧ t.cp0 = { c with status := { c.status with ch := true } } ∧
        t.dcache.lookup pa = .miss ∧ t.dcache.line v i = invalidD (s.dcache.line v i) ∧ SameDLinesBut v i s t ∧
        t.icache = s.icache ∧ SameBytes s t ∧ CacheFrame (LinkedLine s i (s.dcache.line v i)) s t) ∧
    (∀ v, s.icache.lookup pa = .hit v →
      ∃ t, exec (.cache base 0x10 offset) s = .next t ∧ t.cp0 = { c with status := { c.status with ch := true } } ∧
        t.icache.lookup pa = .miss ∧ SameILinesBut v i s t ∧ t.dcache = s.dcache ∧ SameBytes s t ∧ CacheFrame False s t) ∧
    (∃ t, exec (.cache base 0x00 offset) s = .next t ∧ (t.icache.line w i).valid = false ∧
      (t.icache.line w i).tag = lineTag pa ∧ (t.icache.line w i).tagHi = 0 ∧ SameILinesBut w i s t ∧
      t.dcache = s.dcache ∧ t.cp0 = c ∧ SameBytes s t ∧ CacheFrame False s t) ∧
    (∃ t, exec (.cache base 0x08 offset) s = .next t ∧
      (∀ l, l = t.icache.line w i →
        l.tag = c.tagLo.ptag.extractLsb' 0 20 ∧ l.tagHi = c.tagLo.ptag.extractLsb' 20 4 ∧
        (l.valid = true ↔ c.tagLo.pstate ≠ 0) ∧ l.f = c.tagLo.f ∧ l.tagPar = parity (l.tag ++ bit l.valid) ∧
        l.data = (s.icache.line w i).data ∧ l.par = (s.icache.line w i).par) ∧
      SameILinesBut w i s t ∧ t.dcache = s.dcache ∧ t.cp0 = c ∧ SameBytes s t ∧ CacheFrame False s t) ∧
    (∃ t, exec (.cache base 0x09 offset) s = .next t ∧
      (∀ o l : DLine, o = s.dcache.line w i → l = t.dcache.line w i →
        l.tag = c.tagLo.ptag.extractLsb' 0 20 ∧ l.tagHi = c.tagLo.ptag.extractLsb' 20 4 ∧ l.cs = c.tagLo.pstate ∧
        l.f = c.tagLo.f ∧ l.w = false ∧ l.wPar = false ∧ l.tagPar = parity (l.tag ++ l.cs) ∧ l.data = o.data ∧
        l.par = o.par ∧ CacheFrame (LinkedLine s i o ∧ (l.tag ≠ o.tag ∨ l.cs ≠ o.cs)) s t) ∧
      SameDLinesBut w i s t ∧ t.icache = s.icache ∧ t.cp0 = c ∧ SameBytes s t) ∧
    (∃ t, exec (.cache base 0x04 offset) s = .next t ∧
      (∀ l, l = s.icache.line w i →
        t.cp0.tagLo.ptag.extractLsb' 0 20 = l.tag ∧ t.cp0.tagLo.ptag.extractLsb' 20 4 = l.tagHi ∧
        (t.cp0.tagLo.pstate ≠ 0 ↔ l.valid = true) ∧ t.cp0.tagLo.f = l.f ∧ t.cp0.tagLo.p = l.tagPar ∧
        t.cp0.ecc.getLsbD (if s.boot.bigEndian then 1 else 0) = l.par[2 * (va.toNat / 8 % 4) % 8] ∧
        t.cp0.ecc.getLsbD (if s.boot.bigEndian then 0 else 1) = l.par[(2 * (va.toNat / 8 % 4) + 1) % 8] ∧
        t.cp0.ecc.extractLsb' 2 6 = 0#6) ∧
      t.cp0 = { c with tagLo := t.cp0.tagLo, ecc := t.cp0.ecc } ∧ SameCaches s t ∧ SameBytes s t ∧ CacheFrame False s t) ∧
    (∃ t, exec (.cache base 0x05 offset) s = .next t ∧
      (∀ l, l = s.dcache.line w i →
        t.cp0.tagLo.ptag.extractLsb' 0 20 = l.tag ∧ t.cp0.tagLo.ptag.extractLsb' 20 4 = l.tagHi ∧
        t.cp0.tagLo.pstate = l.cs ∧ t.cp0.tagLo.f = l.f ∧ t.cp0.tagLo.p = l.tagPar ∧
        ∀ k : Nat, k < 8 → t.cp0.ecc.getLsbD k =
          l.par[(8 * (va.toNat / 8 % 4) + if s.boot.bigEndian then 7 - k else k) % 32]) ∧
      t.cp0 = { c with tagLo := t.cp0.tagLo, ecc := t.cp0.ecc } ∧ SameCaches s t ∧ SameBytes s t ∧ CacheFrame False s t)

/-- The operations of CACHE that move a line, with coprocessor 0 usable, DE = 1, and RAM behind a cached region: Index
Writeback Invalidate D, Hit Writeback Invalidate D, Hit Writeback D and I, Create Dirty Exclusive D and Fill I; CACHE at an
uncached address, or with an operation the table lacks, has no meaning. That Hit Writeback I, of which 90_conflicts C14 says
that none is defined, does what R238 says is the model's choice (log 24) (21_caches R208, R230, R235, R238 to R240, R242 to
R245; R247; 40_load_store R330; 93_implementation_defined U10; the way: log 22; the victim of Create Dirty Exclusive: log 21;
its W bit and the upper four bits of its tag: logs 23, 25; write-backs with Status.CE = 1, which R230 has take the parity of
the addressed doubleword from ECC, as Fill does: log 46). An operation that invalidates or replaces the linked line, or
changes its state, clears LLbit. -/
def Obligations.CacheMoves : Prop :=
  ∀ (s : State) (base : Reg) (op : BitVec 5) (offset : BitVec 16) (pa : Word) (alg : BitVec 3), Cp0Usable s →
    NoMemHazard s → MapsTo s (s.ea base offset) pa alg →
    (alg = 2 → exec (.cache base op offset) s = .refused .cacheOpUncached) ∧
    ((alg = 0 ∨ alg = 1 ∨ alg = 3) →
      op ∉ [0x00#5, 0x01#5, 0x04#5, 0x05#5, 0x08#5, 0x09#5, 0x0D#5, 0x10#5, 0x11#5, 0x14#5, 0x15#5, 0x18#5, 0x19#5] →
      exec (.cache base op offset) s = .refused .cacheOpUndefined) ∧
    ((alg = 0 ∨ alg = 1 ∨ alg = 3) → s.platform = [] → s.cp0.status.de = true →
      ∀ (i : BitVec 7) (w : Way) (c : Cp0), i = lineIndex pa → w = wayOf (s.ea base offset) → c = s.cp0 →
      (∃ t, exec (.cache base 0x01 offset) s = .next t ∧ t.dcache.line w i = invalidD (s.dcache.line w i) ∧
        SentBack (s.dcache.line w i) i s t ∧ SameDLinesBut w i s t ∧ t.icache = s.icache ∧ t.cp0 = c ∧
        CacheFrame (LinkedLine s i (s.dcache.line w i)) s t) ∧
      (∀ (v : Way) (o : DLine), s.dcache.lookup pa = .hit v → o = s.dcache.line v i →
        (∃ t, exec (.cache base 0x15 offset) s = .next t ∧ t.dcache.lookup pa = .miss ∧
          t.dcache.line v i = invalidD o ∧ SentBack o i s t ∧ SameDLinesBut v i s t ∧ t.icache = s.icache ∧
          t.cp0 = { c with status := { c.status with ch := true } } ∧ CacheFrame (LinkedLine s i o) s t) ∧
        (∃ t, exec (.cache base 0x19 offset) s = .next t ∧ t.dcache.lookup pa = .hit v ∧
          (∀ l, l = t.dcache.line v i → l = { o with w := false, wPar := if o.w then false else o.wPar, par := l.par } ∧
            ∀ k : Fin 32, l.par[k] =
              if c.status.ce = true ∧ k.val / 8 = (s.ea base offset).toNat / 8 % 4 then eccByte s k else o.par[k]) ∧
          SentBack o i s t ∧ SameDLinesBut v i s t ∧ t.icache = s.icache ∧
          t.cp0 = { c with status := { c.status with ch := true } } ∧ CacheFrame False s t) ∧
        (∃ t, exec (.cache base 0x0D offset) s = .next t ∧ t.dcache.lookup pa = .hit v ∧
          t.dcache.line v i = { o with cs := 3, tagHi := 0, tagPar := parity (o.tag ++ 3#2) } ∧ SameDLinesBut v i s t ∧
          SameBytes s t ∧ t.icache = s.icache ∧ t.cp0 = c ∧ CacheFrame (LinkedLine s i o ∧ o.cs ≠ 3) s t)) ∧
      (s.dcache.lookup pa = .miss →
        (∀ o ∈ [0x15#5, 0x19#5], ∃ t, exec (.cache base o offset) s = .next t ∧
          t.cp0 = { c with status := { c.status with ch := false } } ∧ SameCaches s t ∧ SameBytes s t ∧
          CacheFrame False s t) ∧
        ∃ t v, exec (.cache base 0x0D offset) s = .next t ∧ v = s.dVictim i ∧ Replaces s i v ∧
          t.dcache.lookup pa = .hit v ∧
          (∀ l, l = t.dcache.line v i → l.tag = lineTag pa ∧ l.tagHi = 0 ∧ l.cs = 3 ∧ l.tagPar = parity (l.tag ++ l.cs) ∧
            l.w = false ∧ l.wPar = false) ∧
          WrittenBack (s.dcache.line v i) i s t ∧ RefillsD v i s t ∧ t.icache = s.icache ∧ t.cp0 = c ∧
          CacheFrame (LinkedLine s i (s.dcache.line v i)) s t) ∧
      (∀ v, s.icache.lookup pa = .hit v →
        ∃ t, exec (.cache base 0x18 offset) s = .next t ∧
          LineWritten (lineBase (s.icache.line v i).tag i) (s.icache.line v i).data s t ∧ SameCaches s t ∧
          t.cp0 = { c with status := { c.status with ch := true } } ∧ CacheFrame False s t) ∧
      (s.icache.lookup pa = .miss →
        ∃ t, exec (.cache base 0x18 offset) s = .next t ∧ SameBytes s t ∧ SameCaches s t ∧
          t.cp0 = { c with status := { c.status with ch := false } } ∧ CacheFrame False s t) ∧
      ∃ t, exec (.cache base 0x14 offset) s = .next t ∧ RefilledI pa (t.icache.line w i) s ∧
        (∀ k : Fin 8, (t.icache.line w i).par[k] =
          if c.status.ce = true ∧ k.val / 2 = (s.ea base offset).toNat / 8 % 4 then
            c.ecc.getLsbD (if s.boot.bigEndian then 1 - k.val % 2 else k.val % 2)
          else wordParity (t.icache.line w i) k) ∧
        RefillsI w i s t ∧ t.dcache = s.dcache ∧ t.cp0 = c ∧ SameBytes s t ∧ CacheFrame False s t)

/-! ## Floating point -/

/-- ADD.S, SUB.S, MUL.S, DIV.S and SQRT.S: a denormalized or quiet-NaN operand is Unimplemented, else a signaling NaN is an
Invalid Operation, else the operation gives a result `v` with the cause `c` or a cause that traps. With no enabled bit in the
cause, `v` is stored, Cause is set and the Flags accumulate; else the Floating-Point exception comes (48_fpu_state_and_rules
R557 to R559, R565). That denormalized and quiet-NaN operands are Unimplemented, before Invalid, is the model's choice (D21:
log 30), and so is the default NaN (K13: log 29). What `fpAdd` and the others give is FpRounding's and FpSpecial's. -/
def Obligations.FpArithmetic : Prop :=
  ∀ (s : State) (ft fs fd : Reg), Cp1Usable s → FpRegsLegal s [ft, fs, fd] →
    ∀ a b : Word, a = s.fgr fs → b = s.fgr ft →
    ∀ p ∈ [(Instr.addS ft fs fd, fpAdd s.fpu.fcr31 a b, [a, b]), (.subS ft fs fd, fpAdd s.fpu.fcr31 a (fpFlip b), [a, b]),
        (.mulS ft fs fd, fpMul s.fpu.fcr31 a b, [a, b]), (.divS ft fs fd, fpDiv s.fpu.fcr31 a b, [a, b]),
        (.sqrtS fs fd, fpSqrt s.fpu.fcr31 a, [a])],
      ∀ r : FpResult,
        r = (if ∃ x ∈ p.2.2, fpClass x = .denorm ∨ fpClass x = .qnan then .traps causeE
          else if ∃ x ∈ p.2.2, fpClass x = .snan then .value causeV 0x7FBFFFFF
          else p.2.1) →
        match r with
        | .value c v =>
          if c.extractLsb' 0 5 &&& s.fpu.fcr31.enables = 0#5 ∧ c.getLsbD 5 = false then
            FgrResult p.1 fd v
              { s.fpu.fcr31 with cause := c, flags := s.fpu.fcr31.flags ||| c.extractLsb' 0 5 } s
          else FpTrapResult p.1 c s
        | .traps c => FpTrapResult p.1 c s

/-- ADD.S, MUL.S, DIV.S and SQRT.S round the exact result of nonzero normal operands as the mode says; and whenever the
rounded result neither overflows nor is tiny they do give a value, with no cause or Inexact alone: of an exact value `x / d`
in units of 2^-149, and of every root of a positive number. The sum of a zero and a normal number is that number
(48_fpu_state_and_rules R555, R566, R567, R570; 49_fpu_instructions R601). -/
def Obligations.FpRounding : Prop :=
  ∀ (f : Fcr31) (a b v : Word) (c : FpCause) (mode : RoundMode), mode = RoundMode.ofBits f.rm → fpClass b = .normal →
    (fpClass a = .zero → fpAdd f a b = .value 0 b ∧ fpAdd f b a = .value 0 b) ∧
    (fpClass a = .normal → (c = 0 ∨ c = causeI) →
      (fpAdd f a b = .value c v →
        RoundsTo mode (fpScaled a + fpScaled b) 1 v ∧ (c = 0 ↔ fpScaled v = fpScaled a + fpScaled b)) ∧
      (fpMul f a b = .value c v →
        RoundsTo mode (fpScaled a * fpScaled b) (2 ^ 149) v ∧
        (c = 0 ↔ fpScaled v * 2 ^ 149 = fpScaled a * fpScaled b)) ∧
      (fpDiv f a b = .value c v →
        RoundsTo mode (fpScaled a * 2 ^ 149 * (fpScaled b).sign) (fpScaled b).natAbs v ∧
        (c = 0 ↔ fpScaled v * fpScaled b = fpScaled a * 2 ^ 149)) ∧
      (fpSqrt f a = .value c v →
        RootRoundsTo mode (fpScaled a * 2 ^ 149) v ∧ (c = 0 ↔ fpScaled v ^ 2 = fpScaled a * 2 ^ 149)) ∧
      (∀ (x : Int) (d : Nat) (r : FpResult),
        (x = fpScaled a + fpScaled b ∧ d = 1 ∧ r = fpAdd f a b ∨
          x = fpScaled a * fpScaled b ∧ d = 2 ^ 149 ∧ r = fpMul f a b ∨
          x = fpScaled a * 2 ^ 149 * (fpScaled b).sign ∧ d = (fpScaled b).natAbs ∧ r = fpDiv f a b) →
        ¬Overflows mode x d → ¬Tiny mode x d → ∃ c v, r = .value c v ∧ (c = 0 ∨ c = causeI)) ∧
      (a.msb = false → ∃ c v, fpSqrt f a = .value c v ∧ (c = 0 ∨ c = causeI)))

/-- The operations on infinities and zeros, and what a result of ADD.S, MUL.S or DIV.S, `x / d` in units of 2^-149, that
overflows or is tiny becomes: the largest magnitude or infinity that the mode asks for, with causes O and I; Underflow when
enabled, else Unimplemented with FS = 0, else zero or the smallest normal number with causes U and I (48_fpu_state_and_rules
R568 to R570; 49_fpu_instructions R601, R603 to R605). The model's choices: the default NaN and the sign of an exact zero sum
(K13, K14: log 29); the causes of a flushed result (D25: log 31). -/
def Obligations.FpSpecial : Prop :=
  ∀ (f : Fcr31) (a b : Word) (neg : Bool) (mode : RoundMode), mode = RoundMode.ofBits f.rm → neg = xor a.msb b.msb →
    fpClass a ∈ [.zero, .normal, .inf] → fpClass b ∈ [.zero, .normal, .inf] →
    (fpClass a = .inf → fpClass b = .inf →
      fpAdd f a b = (if neg then .value causeV 0x7FBFFFFF else .value 0 a) ∧ fpMul f a b = .value 0 (fpInf neg) ∧
      fpDiv f a b = .value causeV 0x7FBFFFFF) ∧
    (fpClass a = .inf → fpClass b ≠ .inf →
      fpAdd f a b = .value 0 a ∧ fpAdd f b a = .value 0 a ∧ fpDiv f a b = .value 0 (fpInf neg) ∧
      fpDiv f b a = .value 0 (fpZero neg) ∧
      fpMul f a b = (if fpClass b = .zero then .value causeV 0x7FBFFFFF else .value 0 (fpInf neg)) ∧
      fpMul f b a = fpMul f a b) ∧
    (fpClass a = .zero → fpClass b ≠ .inf →
      fpMul f a b = .value 0 (fpZero neg) ∧ fpMul f b a = .value 0 (fpZero neg) ∧
      fpDiv f a b = (if fpClass b = .zero then .value causeV 0x7FBFFFFF else .value 0 (fpZero neg)) ∧
      (fpClass b = .normal → fpDiv f b a = .value causeZ (fpInf neg))) ∧
    (fpClass a ≠ .inf → fpClass b ≠ .inf → fpScaled a + fpScaled b = 0 →
      fpAdd f a b = .value 0 (fpZero (if fpClass a = .zero ∧ neg = false then a.msb else decide (mode = .rm)))) ∧
    (fpClass a = .zero → fpSqrt f a = .value 0 a) ∧
    (fpClass a ≠ .zero → a.msb = true → fpSqrt f a = .value causeV 0x7FBFFFFF) ∧
    (fpClass a = .inf → a.msb = false → fpSqrt f a = .value 0 a) ∧
    ∀ (x : Int) (d : Nat) (r : FpResult) (sign : Bool), fpClass a ≠ .inf → fpClass b ≠ .inf →
      (x = fpScaled a + fpScaled b ∧ d = 1 ∧ r = fpAdd f a b ∨
        x = fpScaled a * fpScaled b ∧ d = 2 ^ 149 ∧ r = fpMul f a b ∨
        fpClass b = .normal ∧ x = fpScaled a * 2 ^ 149 * (fpScaled b).sign ∧ d = (fpScaled b).natAbs ∧
          r = fpDiv f a b) → x ≠ 0 → sign = decide (x < 0) →
      (Overflows mode x d →
        r = .value (causeO ||| causeI) (match mode, sign with
          | .rn, _ => fpInf sign
          | .rz, _ => fpMax sign
          | .rp, true => fpMax true
          | .rp, false => fpInf false
          | .rm, true => fpInf true
          | .rm, false => fpMax false)) ∧
      (Tiny mode x d →
        (f.enables.getLsbD 1 = true → ∃ c, r = .traps c ∧ c.getLsbD 1 = true) ∧
        (f.enables.getLsbD 1 = false → f.fs = false → r = .traps causeE) ∧
        (f.enables.getLsbD 1 = false → f.fs = true →
          r = .value (causeU ||| causeI) (match mode, sign with
            | .rp, false => 0x00800000
            | .rm, true => 0x80800000
            | _, _ => fpZero sign)))

/-- ABS.S and NEG.S of an operand that is zero, normal or infinite, and MOV.S of any pattern: the sign bit cleared, inverted
or kept, and Cause = 0; a denormalized or quiet-NaN operand of ABS.S and NEG.S is Unimplemented (the model's choice, D21: log
30), a signaling NaN Invalid, with the default NaN (K13: log 29) (49_fpu_instructions R606 to R608). -/
def Obligations.FpSign : Prop :=
  ∀ (s : State) (fs fd : Reg), Cp1Usable s → FpRegsLegal s [fs, fd] →
    FgrResult (.movS fs fd) fd (s.fgr fs) { s.fpu.fcr31 with cause := 0 } s ∧
    (fpClass (s.fgr fs) ∈ [.zero, .normal, .inf] →
      FgrResult (.absS fs fd) fd (0#1 ++ (s.fgr fs).extractLsb' 0 31) { s.fpu.fcr31 with cause := 0 } s ∧
      FgrResult (.negS fs fd) fd (bit (!(s.fgr fs).msb) ++ (s.fgr fs).extractLsb' 0 31)
        { s.fpu.fcr31 with cause := 0 } s) ∧
    ∀ i ∈ [Instr.absS fs fd, .negS fs fd],
      (fpClass (s.fgr fs) ∈ [.denorm, .qnan] → FpTrapResult i causeE s) ∧
      (fpClass (s.fgr fs) = .snan → if s.fpu.fcr31.enables.getLsbD 4 then FpTrapResult i causeV s
        else FgrResult i fd 0x7FBFFFFF
          { s.fpu.fcr31 with cause := causeV, flags := s.fpu.fcr31.flags ||| 0b10000 } s)

/-- The conversions to W of a zero or normal operand whose rounded value fits, each in its own mode, and CVT.S.W, which makes
+0 of 0; where it does not fit, and for infinities, NaNs and denormalized operands, Unimplemented Operation; an inexact one
traps when Inexact is enabled. While Inexact is not enabled, ROUND.W.S, TRUNC.W.S, CEIL.W.S, FLOOR.W.S and CVT.W.S complete for
every zero or normal operand of at most 2^31 - 1 in magnitude, and CVT.S.W completes for every operand (49_fpu_instructions
R610 to R616; 48_fpu_state_and_rules R555). Every Unimplemented case is one that R572 leaves optional: the model's choice
(D21: log 30). -/
def Obligations.FpConversions : Prop :=
  ∀ (s : State) (fs fd : Reg), Cp1Usable s → FpRegsLegal s [fs, fd] →
    ∀ (f : Fcr31) (forms : List (Instr × RoundMode)), f = s.fpu.fcr31 →
    forms = [(.roundWS fs fd, .rn), (.truncWS fs fd, .rz), (.ceilWS fs fd, .rp), (.floorWS fs fd, .rm),
      (.cvtWS fs fd, RoundMode.ofBits f.rm)] →
    (∀ p ∈ forms,
      (fpClass (s.fgr fs) ∈ [.zero, .normal] →
        ∀ (n : Int) (exact : Prop), RoundsToInteger p.2 (fpScaled (s.fgr fs)) (2 ^ 149) n →
          (exact ↔ n * 2 ^ 149 = fpScaled (s.fgr fs)) →
          if -2 ^ 31 ≤ n ∧ n < 2 ^ 31 then
            (exact → FgrResult p.1 fd (BitVec.ofInt 32 n) { f with cause := 0 } s) ∧
            (¬exact → if f.enables.getLsbD 0 then FpTrapResult p.1 causeI s
              else FgrResult p.1 fd (BitVec.ofInt 32 n) { f with cause := causeI, flags := f.flags ||| 0b00001 } s)
          else FpTrapResult p.1 causeE s) ∧
      (fpClass (s.fgr fs) ∈ [.inf, .snan, .qnan, .denorm] → FpTrapResult p.1 causeE s)) ∧
    (∃ v, RoundsTo (RoundMode.ofBits f.rm) ((s.fgr fs).toInt * 2 ^ 149) 1 v ∧ (s.fgr fs = 0 → v = 0) ∧
      if fpScaled v = (s.fgr fs).toInt * 2 ^ 149 then FgrResult (.cvtSW fs fd) fd v { f with cause := 0 } s
      else if f.enables.getLsbD 0 then FpTrapResult (.cvtSW fs fd) causeI s
      else FgrResult (.cvtSW fs fd) fd v { f with cause := causeI, flags := f.flags ||| 0b00001 } s) ∧
    (f.enables.getLsbD 0 = false →
      (fpClass (s.fgr fs) ∈ [.zero, .normal] → |fpScaled (s.fgr fs)| ≤ (2 ^ 31 - 1) * 2 ^ 149 →
        ∀ p ∈ forms, ∃ (n : Int) (g : Fcr31), RoundsToInteger p.2 (fpScaled (s.fgr fs)) (2 ^ 149) n ∧
          FgrResult p.1 fd (BitVec.ofInt 32 n) g s) ∧
      ∃ (v : Word) (g : Fcr31), RoundsTo (RoundMode.ofBits f.rm) ((s.fgr fs).toInt * 2 ^ 149) 1 v ∧
        FgrResult (.cvtSW fs fd) fd v g s)

/-- The sixteen compares: the condition from the relation of the operands, V for an unordered pair under cond[3], which an
enabled V turns into the exception; no operand class traps; their words (49_fpu_instructions R625, R626;
48_fpu_state_and_rules R580). -/
def Obligations.FpCompare : Prop :=
  ∀ (s : State) (ft fs : Reg), Cp1Usable s → FpRegsLegal s [ft, fs] →
    ∀ a b : Word, a = s.fgr fs → b = s.fgr ft →
    ∀ nan less equal : Prop, (nan ↔ fpClass a ∈ [.snan, .qnan] ∨ fpClass b ∈ [.snan, .qnan]) →
      (less ↔ ¬nan ∧ fpScaled a < fpScaled b) → (equal ↔ ¬nan ∧ fpScaled a = fpScaled b) →
    (∀ p ∈ [(Instr.cFS ft fs, 0x0#4), (.cUnS ft fs, 0x1#4), (.cEqS ft fs, 0x2#4), (.cUeqS ft fs, 0x3#4),
        (.cOltS ft fs, 0x4#4), (.cUltS ft fs, 0x5#4), (.cOleS ft fs, 0x6#4), (.cUleS ft fs, 0x7#4), (.cSfS ft fs, 0x8#4),
        (.cNgleS ft fs, 0x9#4), (.cSeqS ft fs, 0xA#4), (.cNglS ft fs, 0xB#4), (.cLtS ft fs, 0xC#4),
        (.cNgeS ft fs, 0xD#4), (.cLeS ft fs, 0xE#4), (.cNgtS ft fs, 0xF#4)],
      encode p.1 = 0b010001#6 ++ 0b10000#5 ++ ft ++ fs ++ 0#5 ++ 0b11#2 ++ p.2) ∧
    ∀ p ∈ [(Instr.cFS ft fs, False, false), (.cUnS ft fs, nan, false), (.cEqS ft fs, equal, false),
        (.cUeqS ft fs, equal ∨ nan, false), (.cOltS ft fs, less, false), (.cUltS ft fs, less ∨ nan, false),
        (.cOleS ft fs, less ∨ equal, false), (.cUleS ft fs, less ∨ equal ∨ nan, false), (.cSfS ft fs, False, true),
        (.cNgleS ft fs, nan, true), (.cSeqS ft fs, equal, true), (.cNglS ft fs, equal ∨ nan, true),
        (.cLtS ft fs, less, true), (.cNgeS ft fs, less ∨ nan, true), (.cLeS ft fs, less ∨ equal, true),
        (.cNgtS ft fs, less ∨ equal ∨ nan, true)],
      (¬(p.2.2 = true ∧ nan) → ∃ t, exec p.1 s = .next t ∧ (t.fpu.fcr31.c = true ↔ p.2.1) ∧
        t.fpu.fcr31 = { s.fpu.fcr31 with c := t.fpu.fcr31.c, cause := 0 } ∧ t.fpu.fgr = s.fpu.fgr ∧ FrameFpu s t ∧
        Advanced s t) ∧
      (p.2.2 = true → nan → s.fpu.fcr31.enables.getLsbD 4 = false →
        ∃ t, exec p.1 s = .next t ∧ (t.fpu.fcr31.c = true ↔ p.2.1) ∧
          t.fpu.fcr31 = { s.fpu.fcr31 with
            c := t.fpu.fcr31.c, cause := causeV, flags := s.fpu.fcr31.flags ||| 0b10000 } ∧
          t.fpu.fgr = s.fpu.fgr ∧ FrameFpu s t ∧ Advanced s t) ∧
      (p.2.2 = true → nan → s.fpu.fcr31.enables.getLsbD 4 = true → FpTrapResult p.1 causeV s)

/-- MFC1, MTC1, CFC1 and CTC1, in either FR setting; CTC1 writes FCR31, field by field, before a Cause bit with its Enable
traps, and puts a changed condition on record (49_fpu_instructions R630, R631, R634, R635; 48_fpu_state_and_rules R554;
70_reset_and_hazards R782). FCR0's value and FCR31's layout are log 27's
(K6, K12, D26); that CTC1 to another register has no meaning and CFC1 of one gives any value is log 37's. -/
def Obligations.FpTransfers : Prop :=
  ∀ (s : State) (rt fs : Reg), Cp1Usable s →
    GprResult (.mfc1 rt fs) rt ((s.fgr fs).signExtend 64) s ∧
    FgrResult (.mtc1 rt fs) fs (low32 (s.reg rt)) s.fpu.fcr31 s ∧
    GprResult (.cfc1 rt 0) rt ((0x22#24 ++ Config.fcr0Rev : Word).signExtend 64) s ∧
    GprResult (.cfc1 rt 31) rt ((fcr31Bits s.fpu.fcr31).signExtend 64) s ∧
    (∃ v, GprResult (.cfc1 rt fs) rt v s) ∧
    (∀ (v : Word) (new : Fcr31), v = low32 (s.reg rt) →
      new = { fs := v.getLsbD 24, c := v.getLsbD 23, cause := v.extractLsb' 12 6, enables := v.extractLsb' 7 5,
              flags := v.extractLsb' 2 5, rm := v.extractLsb' 0 2 } →
      (new.cause.getLsbD 5 = false → new.cause.extractLsb' 0 5 &&& new.enables = 0#5 →
        ∃ t, exec (.ctc1 rt 31) s = .next t ∧ t.fpu = { s.fpu with fcr31 := new } ∧ FrameFpu s t ∧ Advanced s t ∧
          t.hazards = { agedRecord s with afterCond := decide (new.c ≠ s.fpu.fcr31.c) }) ∧
      (new.cause.getLsbD 5 = true ∨ new.cause.extractLsb' 0 5 &&& new.enables ≠ 0#5 →
        ∃ t, exec (.ctc1 rt 31) s = .next t ∧ ExceptionEntered 15 0 none s t ∧ SameOutside s t ∧
          t.fpu = { s.fpu with fcr31 := new })) ∧
    (fs ≠ 31 → exec (.ctc1 rt fs) s = .refused .ctc1Reserved)

/-- What this FPU does not execute: every other R-type word, the reserved words with bit 25 = 0, the L and D conversions, the
doubleword moves, loads and stores, and a word that names an odd register with FR = 0, take Unimplemented Operation
(30_encoding R276; 48_fpu_state_and_rules R551, R572, R575, R576; 49_fpu_instructions R617 to R622, R632, R633, R642,
R643; that LDC1 and SDC1 take it also right behind a write of translation or mode state: log 14). -/
def Obligations.FpUnimplemented : Prop :=
  ∀ (s : State) (base rt ft fs fd : Reg) (offset : BitVec 16) (fmtLow : BitVec 4) (fn : BitVec 6), Cp1Usable s →
    (∀ i ∈ [Instr.roundLS fs fd, .truncLS fs fd, .ceilLS fs fd, .floorLS fs fd, .cvtLS fs fd, .cvtDS fs fd,
        .cop1Other fmtLow ft fs fd fn, .ldc1 base ft offset, .sdc1 base ft offset], FpTrapResult i causeE s) ∧
    (∀ w : Word, opOf w = 17#6 →
      rsOf w ∈ [3#5, 7#5, 9#5, 10#5, 11#5, 12#5, 13#5, 14#5, 15#5] ∨ rsOf w = 8#5 ∧ 4 ≤ (rtOf w).toNat →
      ∃ t, s.execWord w = .next t ∧ FpExceptionTaken causeE s t) ∧
    (Allows64 s → FpTrapResult (.dmfc1 rt fs) causeE s ∧ FpTrapResult (.dmtc1 rt fs) causeE s) ∧
    (¬FpRegsLegal s [ft, fs, fd] → ∀ i ∈ [Instr.addS ft fs fd, .subS ft fs fd, .mulS ft fs fd, .divS ft fs fd],
      FpTrapResult i causeE s) ∧
    (¬FpRegsLegal s [fs, fd] →
      ∀ i ∈ [Instr.sqrtS fs fd, .absS fs fd, .movS fs fd, .negS fs fd, .roundWS fs fd, .truncWS fs fd, .ceilWS fs fd,
        .floorWS fs fd, .cvtWS fs fd, .cvtSW fs fd], FpTrapResult i causeE s) ∧
    (¬FpRegsLegal s [ft, fs] →
      ∀ i ∈ [Instr.cFS ft fs, .cUnS ft fs, .cEqS ft fs, .cUeqS ft fs, .cOltS ft fs, .cUltS ft fs, .cOleS ft fs,
        .cUleS ft fs, .cSfS ft fs, .cNgleS ft fs, .cSeqS ft fs, .cNglS ft fs, .cLtS ft fs, .cNgeS ft fs, .cLeS ft fs,
        .cNgtS ft fs], FpTrapResult i causeE s)
end

