-- ==== Sys2Proof/Laws/Decode.lean ====
section
/-!
SUPPORT. Sys2Proof/Laws/Decode.lean: the fields of the words the encoder builds.
-/

namespace Sys2Proof

/-! ## Fields of two bit vectors in a row -/

theorem field_low {a b : Nat} (x : BitVec a) (y : BitVec b) (k n : Nat) (h : k + n ≤ b) :
    (x ++ y).extractLsb' k n = y.extractLsb' k n := by
  ext i hi
  simp only [BitVec.getElem_extractLsb', BitVec.getLsbD_append]
  rw [if_pos (by omega)]

theorem field_high {a b : Nat} (x : BitVec a) (y : BitVec b) (k n : Nat) (h : b ≤ k) :
    (x ++ y).extractLsb' k n = x.extractLsb' (k - b) n := by
  ext i hi
  simp only [BitVec.getElem_extractLsb', BitVec.getLsbD_append]
  rw [if_neg (by omega), show k + i - b = k - b + i by omega]

theorem field_all {n : Nat} (x : BitVec n) : x.extractLsb' 0 n = x := BitVec.extractLsb'_eq_self

/-! ## iType -/

section ITypeFields
variable (op : BitVec 6) (rs : BitVec 5) (rt : BitVec 5) (imm : BitVec 16)

@[simp] theorem opOf_iType : opOf (iType op rs rt imm) = op :=
  (field_high (op ++ rs ++ rt) imm 26 6 (by decide)).trans <| (field_high (op ++ rs) rt 10 6 (by decide)).trans <| (field_high (op) rs 5 6 (by decide)).trans <| field_all _
@[simp] theorem rsOf_iType : rsOf (iType op rs rt imm) = rs :=
  (field_high (op ++ rs ++ rt) imm 21 5 (by decide)).trans <| (field_high (op ++ rs) rt 5 5 (by decide)).trans <| (field_low (op) rs 0 5 (by decide)).trans <| field_all _
@[simp] theorem rtOf_iType : rtOf (iType op rs rt imm) = rt :=
  (field_high (op ++ rs ++ rt) imm 16 5 (by decide)).trans <| (field_low (op ++ rs) rt 0 5 (by decide)).trans <| field_all _
@[simp] theorem immOf_iType : immOf (iType op rs rt imm) = imm :=
  (field_low (op ++ rs ++ rt) imm 0 16 (by decide)).trans <| field_all _
end ITypeFields

/-! ## jType -/

section JTypeFields
variable (op : BitVec 6) (target : BitVec 26)

@[simp] theorem opOf_jType : opOf (jType op target) = op :=
  (field_high (op) target 26 6 (by decide)).trans <| field_all _
@[simp] theorem targetOf_jType : targetOf (jType op target) = target :=
  (field_low (op) target 0 26 (by decide)).trans <| field_all _
end JTypeFields

/-! ## rType -/

section RTypeFields
variable (op : BitVec 6) (rs : BitVec 5) (rt : BitVec 5) (rd : BitVec 5) (sa : BitVec 5) (fn : BitVec 6)

@[simp] theorem opOf_rType : opOf (rType op rs rt rd sa fn) = op :=
  (field_high (op ++ rs ++ rt ++ rd ++ sa) fn 26 6 (by decide)).trans <| (field_high (op ++ rs ++ rt ++ rd) sa 20 6 (by decide)).trans <| (field_high (op ++ rs ++ rt) rd 15 6 (by decide)).trans <| (field_high (op ++ rs) rt 10 6 (by decide)).trans <| (field_high (op) rs 5 6 (by decide)).trans <| field_all _
@[simp] theorem rsOf_rType : rsOf (rType op rs rt rd sa fn) = rs :=
  (field_high (op ++ rs ++ rt ++ rd ++ sa) fn 21 5 (by decide)).trans <| (field_high (op ++ rs ++ rt ++ rd) sa 15 5 (by decide)).trans <| (field_high (op ++ rs ++ rt) rd 10 5 (by decide)).trans <| (field_high (op ++ rs) rt 5 5 (by decide)).trans <| (field_low (op) rs 0 5 (by decide)).trans <| field_all _
@[simp] theorem rtOf_rType : rtOf (rType op rs rt rd sa fn) = rt :=
  (field_high (op ++ rs ++ rt ++ rd ++ sa) fn 16 5 (by decide)).trans <| (field_high (op ++ rs ++ rt ++ rd) sa 10 5 (by decide)).trans <| (field_high (op ++ rs ++ rt) rd 5 5 (by decide)).trans <| (field_low (op ++ rs) rt 0 5 (by decide)).trans <| field_all _
@[simp] theorem rdOf_rType : rdOf (rType op rs rt rd sa fn) = rd :=
  (field_high (op ++ rs ++ rt ++ rd ++ sa) fn 11 5 (by decide)).trans <| (field_high (op ++ rs ++ rt ++ rd) sa 5 5 (by decide)).trans <| (field_low (op ++ rs ++ rt) rd 0 5 (by decide)).trans <| field_all _
@[simp] theorem saOf_rType : saOf (rType op rs rt rd sa fn) = sa :=
  (field_high (op ++ rs ++ rt ++ rd ++ sa) fn 6 5 (by decide)).trans <| (field_low (op ++ rs ++ rt ++ rd) sa 0 5 (by decide)).trans <| field_all _
@[simp] theorem fnOf_rType : fnOf (rType op rs rt rd sa fn) = fn :=
  (field_low (op ++ rs ++ rt ++ rd ++ sa) fn 0 6 (by decide)).trans <| field_all _
end RTypeFields

/-! ## code20Type -/

section Code20TypeFields
variable (code : BitVec 20) (fn : BitVec 6)

@[simp] theorem opOf_code20Type : opOf (code20Type code fn) = 0#6 :=
  (field_high (0#6 ++ code) fn 26 6 (by decide)).trans <| (field_high (0#6) code 20 6 (by decide)).trans <| field_all _
@[simp] theorem code20Of_code20Type : code20Of (code20Type code fn) = code :=
  (field_high (0#6 ++ code) fn 6 20 (by decide)).trans <| (field_low (0#6) code 0 20 (by decide)).trans <| field_all _
@[simp] theorem fnOf_code20Type : fnOf (code20Type code fn) = fn :=
  (field_low (0#6 ++ code) fn 0 6 (by decide)).trans <| field_all _
end Code20TypeFields

/-! ## code10Type -/

section Code10TypeFields
variable (rs : BitVec 5) (rt : BitVec 5) (code10 : BitVec 10) (fn : BitVec 6)

@[simp] theorem opOf_code10Type : opOf (code10Type rs rt code10 fn) = 0#6 :=
  (field_high (0#6 ++ rs ++ rt ++ code10) fn 26 6 (by decide)).trans <| (field_high (0#6 ++ rs ++ rt) code10 20 6 (by decide)).trans <| (field_high (0#6 ++ rs) rt 10 6 (by decide)).trans <| (field_high (0#6) rs 5 6 (by decide)).trans <| field_all _
@[simp] theorem rsOf_code10Type : rsOf (code10Type rs rt code10 fn) = rs :=
  (field_high (0#6 ++ rs ++ rt ++ code10) fn 21 5 (by decide)).trans <| (field_high (0#6 ++ rs ++ rt) code10 15 5 (by decide)).trans <| (field_high (0#6 ++ rs) rt 5 5 (by decide)).trans <| (field_low (0#6) rs 0 5 (by decide)).trans <| field_all _
@[simp] theorem rtOf_code10Type : rtOf (code10Type rs rt code10 fn) = rt :=
  (field_high (0#6 ++ rs ++ rt ++ code10) fn 16 5 (by decide)).trans <| (field_high (0#6 ++ rs ++ rt) code10 10 5 (by decide)).trans <| (field_low (0#6 ++ rs) rt 0 5 (by decide)).trans <| field_all _
@[simp] theorem code10Of_code10Type : code10Of (code10Type rs rt code10 fn) = code10 :=
  (field_high (0#6 ++ rs ++ rt ++ code10) fn 6 10 (by decide)).trans <| (field_low (0#6 ++ rs ++ rt) code10 0 10 (by decide)).trans <| field_all _
@[simp] theorem fnOf_code10Type : fnOf (code10Type rs rt code10 fn) = fn :=
  (field_low (0#6 ++ rs ++ rt ++ code10) fn 0 6 (by decide)).trans <| field_all _
end Code10TypeFields

/-! ## cop1Type -/

section Cop1TypeFields
variable (fmtLow : BitVec 4) (ft : BitVec 5) (fs : BitVec 5) (fd : BitVec 5) (fn : BitVec 6)

@[simp] theorem opOf_cop1Type : opOf (cop1Type fmtLow ft fs fd fn) = 0x11#6 :=
  (field_high (0x11#6 ++ 1#1 ++ fmtLow ++ ft ++ fs ++ fd) fn 26 6 (by decide)).trans <| (field_high (0x11#6 ++ 1#1 ++ fmtLow ++ ft ++ fs) fd 20 6 (by decide)).trans <| (field_high (0x11#6 ++ 1#1 ++ fmtLow ++ ft) fs 15 6 (by decide)).trans <| (field_high (0x11#6 ++ 1#1 ++ fmtLow) ft 10 6 (by decide)).trans <| (field_high (0x11#6 ++ 1#1) fmtLow 5 6 (by decide)).trans <| (field_high (0x11#6) 1#1 1 6 (by decide)).trans <| field_all _
@[simp] theorem fmtLowOf_cop1Type : fmtLowOf (cop1Type fmtLow ft fs fd fn) = fmtLow :=
  (field_high (0x11#6 ++ 1#1 ++ fmtLow ++ ft ++ fs ++ fd) fn 21 4 (by decide)).trans <| (field_high (0x11#6 ++ 1#1 ++ fmtLow ++ ft ++ fs) fd 15 4 (by decide)).trans <| (field_high (0x11#6 ++ 1#1 ++ fmtLow ++ ft) fs 10 4 (by decide)).trans <| (field_high (0x11#6 ++ 1#1 ++ fmtLow) ft 5 4 (by decide)).trans <| (field_low (0x11#6 ++ 1#1) fmtLow 0 4 (by decide)).trans <| field_all _
@[simp] theorem rtOf_cop1Type : rtOf (cop1Type fmtLow ft fs fd fn) = ft :=
  (field_high (0x11#6 ++ 1#1 ++ fmtLow ++ ft ++ fs ++ fd) fn 16 5 (by decide)).trans <| (field_high (0x11#6 ++ 1#1 ++ fmtLow ++ ft ++ fs) fd 10 5 (by decide)).trans <| (field_high (0x11#6 ++ 1#1 ++ fmtLow ++ ft) fs 5 5 (by decide)).trans <| (field_low (0x11#6 ++ 1#1 ++ fmtLow) ft 0 5 (by decide)).trans <| field_all _
@[simp] theorem rdOf_cop1Type : rdOf (cop1Type fmtLow ft fs fd fn) = fs :=
  (field_high (0x11#6 ++ 1#1 ++ fmtLow ++ ft ++ fs ++ fd) fn 11 5 (by decide)).trans <| (field_high (0x11#6 ++ 1#1 ++ fmtLow ++ ft ++ fs) fd 5 5 (by decide)).trans <| (field_low (0x11#6 ++ 1#1 ++ fmtLow ++ ft) fs 0 5 (by decide)).trans <| field_all _
@[simp] theorem saOf_cop1Type : saOf (cop1Type fmtLow ft fs fd fn) = fd :=
  (field_high (0x11#6 ++ 1#1 ++ fmtLow ++ ft ++ fs ++ fd) fn 6 5 (by decide)).trans <| (field_low (0x11#6 ++ 1#1 ++ fmtLow ++ ft ++ fs) fd 0 5 (by decide)).trans <| field_all _
@[simp] theorem fnOf_cop1Type : fnOf (cop1Type fmtLow ft fs fd fn) = fn :=
  (field_low (0x11#6 ++ 1#1 ++ fmtLow ++ ft ++ fs ++ fd) fn 0 6 (by decide)).trans <| field_all _

/-- The format field of a COP1 R-type word has bit 25 = 1. -/
@[simp] theorem rsOf_cop1Type : rsOf (cop1Type fmtLow ft fs fd fn) = 1#1 ++ fmtLow := by
  have h : rsOf (cop1Type fmtLow ft fs fd fn) = (0x11#6 ++ 1#1 ++ fmtLow).extractLsb' 0 5 :=
    (field_high (0x11#6 ++ 1#1 ++ fmtLow ++ ft ++ fs ++ fd) fn 21 5 (by decide)).trans <|
    (field_high (0x11#6 ++ 1#1 ++ fmtLow ++ ft ++ fs) fd 15 5 (by decide)).trans <|
    (field_high (0x11#6 ++ 1#1 ++ fmtLow ++ ft) fs 10 5 (by decide)).trans <|
    field_high (0x11#6 ++ 1#1 ++ fmtLow) ft 5 5 (by decide)
  rw [h]
  clear h
  revert fmtLow
  decide
end Cop1TypeFields

end Sys2Proof
end

