-- ==== Sys2Proof/Laws/Memory.lean ====
section
/-!
SUPPORT. Sys2Proof/Laws/Memory.lean: what memory reads after a write, and that every operation on memory keeps its
canonical form.
-/

namespace Sys2Proof.Machine

/-! ## Reading after writing one byte -/

theorem Memory.get_erase (m : Memory) (x y : Nat) :
    (m.erase x).get y = if y = x then Memory.unlisted else m.get y := by
  induction m with
  | nil => simp [Memory.erase, Memory.get]
  | cons c m ih =>
    obtain ⟨a, b⟩ := c
    by_cases ha : a = x
    · simp only [Memory.erase, ha, if_true, ih, Memory.get]
      by_cases hy : y = x
      · simp [hy]
      · simp [hy, Ne.symm hy]
    · simp only [Memory.erase, ha, if_false, Memory.get, ih]
      by_cases hay : a = y
      · subst hay; simp [ha]
      · simp [hay]

theorem Memory.get_insert (m : Memory) (x y : Nat) (v : Byte)
    (hx : ∀ c ∈ m, c.1 ≠ x) : (m.insert x v).get y = if y = x then v else m.get y := by
  induction m with
  | nil =>
    simp only [Memory.insert, Memory.get]
    by_cases hy : y = x
    · simp [hy]
    · simp [hy, Ne.symm hy]
  | cons c m ih =>
    obtain ⟨a, b⟩ := c
    have ha : a ≠ x := hx (a, b) (by simp)
    have ih := ih fun c hc => hx c (by simp [hc])
    by_cases hlt : x < a
    · simp only [Memory.insert, hlt, if_true, Memory.get]
      by_cases hy : y = x
      · simp [hy]
      · simp [hy, Ne.symm hy]
    · simp only [Memory.insert, hlt, if_false, Memory.get, ih]
      by_cases hay : a = y
      · subst hay; simp [ha]
      · simp [hay]

theorem Memory.erase_not_listed (m : Memory) (x : Nat) : ∀ c ∈ m.erase x, c.1 ≠ x := by
  induction m with
  | nil => simp [Memory.erase]
  | cons c m ih =>
    obtain ⟨a, b⟩ := c
    by_cases ha : a = x
    · simpa [Memory.erase, ha] using ih
    · simp only [Memory.erase, ha, if_false, List.mem_cons]
      rintro c (rfl | hc)
      · exact ha
      · exact ih c hc

/-- A byte reads as it was last written, and a write leaves every other byte alone. -/
theorem Memory.get_set (m : Memory) (x y : Nat) (v : Byte) :
    (m.set x v).get y = if y = x then v else m.get y := by
  unfold Memory.set
  by_cases hv : v = Memory.unlisted
  · rw [if_pos hv, Memory.get_erase, hv]
  · rw [if_neg hv, Memory.get_insert _ _ _ _ (Memory.erase_not_listed m x), Memory.get_erase]
    by_cases hy : y = x <;> simp [hy]

@[simp] theorem Memory.get_set_self (m : Memory) (x : Nat) (v : Byte) : (m.set x v).get x = v := by
  rw [Memory.get_set, if_pos rfl]

theorem Memory.get_set_ne (m : Memory) {x y : Nat} (v : Byte) (h : y ≠ x) : (m.set x v).get y = m.get y := by
  rw [Memory.get_set, if_neg h]

/-! ## The canonical form -/

theorem Memory.wfFrom_mono {m : Memory} {lo hi : Nat} (h : lo ≤ hi) (hm : Memory.wfFrom hi m = true) :
    Memory.wfFrom lo m = true := by
  cases m with
  | nil => rfl
  | cons c m =>
    obtain ⟨a, b⟩ := c
    simp only [Memory.wfFrom, Bool.and_eq_true, decide_eq_true_eq] at hm ⊢
    exact ⟨⟨⟨by omega, hm.1.1.2⟩, hm.1.2⟩, hm.2⟩

theorem Memory.wfFrom_erase {m : Memory} {lo : Nat} (x : Nat) (hm : Memory.wfFrom lo m = true) :
    Memory.wfFrom lo (m.erase x) = true := by
  induction m generalizing lo with
  | nil => rfl
  | cons c m ih =>
    obtain ⟨a, b⟩ := c
    simp only [Memory.wfFrom, Bool.and_eq_true, decide_eq_true_eq] at hm
    by_cases ha : a = x
    · simp only [Memory.erase, ha, if_true]
      exact Memory.wfFrom_mono (by omega) (ih hm.2)
    · simp only [Memory.erase, ha, if_false, Memory.wfFrom, Bool.and_eq_true, decide_eq_true_eq]
      exact ⟨hm.1, ih hm.2⟩

theorem Memory.wfFrom_insert {m : Memory} {lo x : Nat} {v : Byte} (hm : Memory.wfFrom lo m = true)
    (hx : ∀ c ∈ m, c.1 ≠ x) (hlo : lo ≤ x) (hhi : x < 2 ^ 32) (hv : v ≠ Memory.unlisted) :
    Memory.wfFrom lo (m.insert x v) = true := by
  induction m generalizing lo with
  | nil => simp [Memory.insert, Memory.wfFrom, hlo, hv]; omega
  | cons c m ih =>
    obtain ⟨a, b⟩ := c
    simp only [Memory.wfFrom, Bool.and_eq_true, decide_eq_true_eq] at hm
    have ha : a ≠ x := hx (a, b) (by simp)
    by_cases hlt : x < a
    · simp only [Memory.insert, hlt, if_true, Memory.wfFrom, Bool.and_eq_true, decide_eq_true_eq]
      exact ⟨⟨⟨hlo, hhi⟩, by simpa using hv⟩, ⟨⟨by omega, hm.1.1.2⟩, hm.1.2⟩, hm.2⟩
    · simp only [Memory.insert, hlt, if_false, Memory.wfFrom, Bool.and_eq_true, decide_eq_true_eq]
      exact ⟨hm.1, ih hm.2 (fun c hc => hx c (by simp [hc])) (by omega)⟩

/-- A write of a byte keeps the canonical form. -/
theorem Memory.wf_set {m : Memory} {x : Nat} (v : Byte) (hm : m.wf = true) (hx : x < 2 ^ 32) :
    (m.set x v).wf = true := by
  unfold Memory.set Memory.wf at *
  by_cases hv : v = Memory.unlisted
  · rw [if_pos hv]; exact Memory.wfFrom_erase x hm
  · rw [if_neg hv]
    exact Memory.wfFrom_insert (Memory.wfFrom_erase x hm) (Memory.erase_not_listed m x) (Nat.zero_le x) hx hv

/-- A write that arrives at the platform keeps the canonical form. -/
theorem wf_writeByte (p : List Region) {m : Memory} {x : Nat} (v : Byte) (hm : m.wf = true) (hx : x < 2 ^ 32) :
    (writeByte p m x v).wf = true := by
  unfold writeByte
  split <;> first | exact hm | exact Memory.wf_set v hm hx

/-- Writes that arrive at the platform keep the canonical form. -/
theorem wf_writeBytes (p : List Region) {m : Memory} (ws : List (Nat × Byte)) (hm : m.wf = true)
    (hx : ∀ w ∈ ws, w.1 < 2 ^ 32) : (writeBytes p m ws).wf = true := by
  induction ws generalizing m with
  | nil => exact hm
  | cons w ws ih =>
    obtain ⟨x, v⟩ := w
    exact ih (wf_writeByte p v hm (hx (x, v) (by simp))) fun w hw => hx w (by simp [hw])

/-- Bytes placed one after the other keep the canonical form. -/
theorem wf_putMem {m : Memory} (x : Nat) (bs : List Byte) (hm : m.wf = true) (hx : x + bs.length ≤ 2 ^ 32) :
    (putMem m x bs).wf = true := by
  induction bs generalizing m x with
  | nil => exact hm
  | cons b bs ih =>
    simp only [List.length_cons] at hx
    exact ih (x + 1) (Memory.wf_set b hm (by omega)) (by omega)

/-- Memory right after reset has the canonical form. -/
theorem reset_mem_wf : State.reset.mem.wf = true := rfl

/-! ## Writes where all is RAM -/

@[simp] theorem kindAt_nil (x : Nat) : kindAt [] x = none := rfl

@[simp] theorem writeByte_ram (m : Memory) (x : Nat) (v : Byte) : writeByte [] m x v = m.set x v := rfl

@[simp] theorem anyOf_ram (kind : RegionKind) (xs : List Nat) : anyOf kind [] xs = false := by simp [anyOf]

/-- An address that is not written reads as before. -/
theorem get_writeBytes_ram_of_not_mem (m : Memory) (ws : List (Nat × Byte)) (a : Nat) (h : ∀ w ∈ ws, w.1 ≠ a) :
    (writeBytes [] m ws).get a = m.get a := by
  induction ws generalizing m with
  | nil => rfl
  | cons w ws ih =>
    obtain ⟨x, v⟩ := w
    have hx : x ≠ a := h (x, v) (by simp)
    rw [writeBytes, ih _ fun w hw => h w (by simp [hw]), writeByte_ram, Memory.get_set_ne _ _ (Ne.symm hx)]

/-- Each address of a list without repeats reads the byte written to it. -/
theorem get_writeBytes_ram_of_mem (m : Memory) (ws : List (Nat × Byte)) (hn : (ws.map (·.1)).Nodup) {a : Nat} {v : Byte}
    (h : (a, v) ∈ ws) : (writeBytes [] m ws).get a = v := by
  induction ws generalizing m with
  | nil => simp at h
  | cons w ws ih =>
    obtain ⟨x, u⟩ := w
    simp only [List.map_cons, List.nodup_cons] at hn
    rw [writeBytes]
    rcases List.mem_cons.mp h with he | ht
    · simp only [Prod.mk.injEq] at he
      obtain ⟨rfl, rfl⟩ := he
      rw [get_writeBytes_ram_of_not_mem]
      · simp
      · rintro ⟨y, b⟩ hw rfl
        exact hn.1 (List.mem_map.mpr ⟨(y, b), hw, rfl⟩)
    · exact ih _ hn.2 ht

end Sys2Proof.Machine
end

