-- ==== Sys2Proof/Laws/State.lean ====
section
/-!
SUPPORT. Sys2Proof/Laws/State.lean: which field each update of the state leaves alone, and what it puts into those it
changes, so that no later proof unfolds a record update.
-/

namespace Sys2Proof.Machine

/-! ## What the updates change -/

@[simp] theorem State.setHi_hi (s : State) (v : DWord) : (s.setHi v).hi = v := rfl
@[simp] theorem State.setLo_lo (s : State) (v : DWord) : (s.setLo v).lo = v := rfl
@[simp] theorem State.setCp0_cp0 (s : State) (c : Cp0) : (s.setCp0 c).cp0 = c := rfl
@[simp] theorem State.setStatus_cp0 (s : State) (t : Status) :
    (s.setStatus t).cp0 = { s.cp0 with status := t } := rfl
@[simp] theorem State.setCause_cp0 (s : State) (c : Cause) : (s.setCause c).cp0 = { s.cp0 with cause := c } := rfl
@[simp] theorem State.setFcr31_fpu (s : State) (c : Fcr31) :
    (s.setFcr31 c).fpu = { s.fpu with fcr31 := c } := rfl
@[simp] theorem State.drawn_fresh (s : State) : s.drawn.fresh = s.fresh + 1 := rfl
@[simp] theorem State.aged_hazards (s : State) : s.aged.hazards = s.agedHazards := rfl
@[simp] theorem State.advance_nextPc (s : State) : s.advance.nextPc = none := rfl
@[simp] theorem State.advance_inDelaySlot (s : State) : s.advance.inDelaySlot = false := rfl
@[simp] theorem State.advance_hazards (s : State) : s.advance.hazards = s.agedHazards := rfl
@[simp] theorem State.branchTo_pc (s : State) (t : DWord) : (s.branchTo t).pc = s.pc + 4 := rfl
@[simp] theorem State.branchTo_nextPc (s : State) (t : DWord) : (s.branchTo t).nextPc = some t := rfl
@[simp] theorem State.branchTo_inDelaySlot (s : State) (t : DWord) : (s.branchTo t).inDelaySlot = true := rfl
@[simp] theorem State.fallThrough_pc (s : State) : s.fallThrough.pc = s.pc + 4 := rfl
@[simp] theorem State.fallThrough_nextPc (s : State) : s.fallThrough.nextPc = none := rfl
@[simp] theorem State.fallThrough_inDelaySlot (s : State) : s.fallThrough.inDelaySlot = true := rfl
@[simp] theorem State.nullify_pc (s : State) : s.nullify.pc = s.pc + 8 := rfl
@[simp] theorem State.nullify_nextPc (s : State) : s.nullify.nextPc = none := rfl
@[simp] theorem State.nullify_inDelaySlot (s : State) : s.nullify.inDelaySlot = false := rfl
@[simp] theorem State.takeException_nextPc (s : State) (e : Exc) (bad : Option DWord) :
    (s.takeException e bad).nextPc = none := rfl
@[simp] theorem State.takeException_inDelaySlot (s : State) (e : Exc) (bad : Option DWord) :
    (s.takeException e bad).inDelaySlot = false := rfl
@[simp] theorem State.raised_nextPc (s : State) (e : Exc) (bad : Option DWord) :
    (s.raised e bad).nextPc = none := rfl
@[simp] theorem State.raised_inDelaySlot (s : State) (e : Exc) (bad : Option DWord) :
    (s.raised e bad).inDelaySlot = false := rfl
@[simp] theorem State.takeCacheError_nextPc (s : State) (p : ParityError) : (s.takeCacheError p).nextPc = none := rfl
@[simp] theorem State.takeCacheError_inDelaySlot (s : State) (p : ParityError) :
    (s.takeCacheError p).inDelaySlot = false := rfl
@[simp] theorem State.returnFromException_nextPc (s : State) : s.returnFromException.nextPc = none := rfl
@[simp] theorem State.returnFromException_inDelaySlot (s : State) :
    s.returnFromException.inDelaySlot = false := rfl
@[simp] theorem State.returnFromException_llBit (s : State) : s.returnFromException.llBit = false := rfl
@[simp] theorem State.softReset_nextPc (s : State) : s.softReset.nextPc = none := rfl
@[simp] theorem State.softReset_inDelaySlot (s : State) : s.softReset.inDelaySlot = false := rfl
@[simp] theorem State.takeNmi_nextPc (s : State) : s.takeNmi.nextPc = none := rfl
@[simp] theorem State.takeNmi_inDelaySlot (s : State) : s.takeNmi.inDelaySlot = false := rfl
@[simp] theorem State.warmReset_nextPc (s : State) : s.warmReset.nextPc = none := rfl
@[simp] theorem State.warmReset_inDelaySlot (s : State) : s.warmReset.inDelaySlot = false := rfl

/-! ## General registers -/

/-- r0 reads zero (10_state R30). -/
@[simp] theorem State.reg_zero (s : State) : s.reg 0#5 = 0#64 := rfl

/-- A general register is its place in the register file, but for r0. -/
theorem State.reg_eq (s : State) {r : Reg} (h : r ≠ 0#5) : s.reg r = s.gpr[r.toNat] := if_neg h

/-- A write of r0 does nothing (10_state R30). -/
@[simp] theorem State.setReg_zero (s : State) (v : DWord) : s.setReg 0#5 v = s := rfl

/-- A write of another register changes the register file. -/
theorem State.setReg_eq (s : State) {r : Reg} (h : r ≠ 0#5) (v : DWord) :
    s.setReg r v = { s with gpr := s.gpr.set r.toNat v } := if_neg h

/-- A register after a write of a register. -/
theorem State.reg_setReg (s : State) (r q : Reg) (v : DWord) :
    (s.setReg r v).reg q = if q = r ∧ r ≠ 0#5 then v else s.reg q := by
  by_cases h0 : r = 0#5
  · subst h0; simp
  by_cases hq0 : q = 0#5
  · subst hq0; simp [Ne.symm h0]
  rw [State.setReg_eq s h0, State.reg_eq _ hq0, State.reg_eq _ hq0, Vector.getElem_set]
  by_cases hqr : q = r
  · subst hqr; simp [h0]
  · have hne : r.toNat ≠ q.toNat := fun h => hqr (BitVec.eq_of_toNat_eq h.symm)
    simp [hqr, hne]

/-- The register written reads the value, r0 zero. -/
@[simp] theorem State.reg_setReg_self (s : State) (r : Reg) (v : DWord) :
    (s.setReg r v).reg r = if r = 0#5 then 0#64 else v := by
  rw [State.reg_setReg]
  by_cases h : r = 0#5
  · subst h; simp
  · simp [h]

/-- Another register than the one written reads as before. -/
theorem State.reg_setReg_ne (s : State) {r q : Reg} (v : DWord) (h : q ≠ r) : (s.setReg r v).reg q = s.reg q := by
  rw [State.reg_setReg, if_neg fun hc => h hc.1]

/-- Registers are read from the register file alone. -/
theorem State.reg_congr {s t : State} (h : t.gpr = s.gpr) (r : Reg) : t.reg r = s.reg r := by
  unfold State.reg; rw [h]

/-- Nothing is ever stored in r0's place. -/
@[simp] theorem State.setReg_gpr_zero (s : State) (r : Reg) (v : DWord) : (s.setReg r v).gpr[0] = s.gpr[0] := by
  by_cases h0 : r = 0#5
  · subst h0; simp
  · have hne : r.toNat ≠ 0 := fun h => h0 (BitVec.eq_of_toNat_eq h)
    rw [State.setReg_eq s h0, Vector.getElem_set, if_neg hne]

/-! ## Floating-point registers -/

/-- An FGR after a write of an FGR (48_fpu_state_and_rules R550). -/
theorem State.fgr_setFgr (s : State) (f g : Reg) (v : Word) :
    (s.setFgr f v).fgr g = if g = f then v else s.fgr g := by
  unfold State.fgr State.setFgr
  by_cases h : g = f
  · subst h; simp
  · have hne : f.toNat ≠ g.toNat := fun e => h (BitVec.eq_of_toNat_eq e.symm)
    simp [h, hne]

@[simp] theorem State.setFgr_fcr31 (s : State) (f : Reg) (v : Word) : (s.setFgr f v).fpu.fcr31 = s.fpu.fcr31 := rfl

/-! ## What the updates leave alone -/

@[simp] theorem State.setReg_hi (s : State) (r : Reg) (v : DWord) : (s.setReg r v).hi = s.hi := by
  unfold State.setReg; split <;> rfl
@[simp] theorem State.setReg_lo (s : State) (r : Reg) (v : DWord) : (s.setReg r v).lo = s.lo := by
  unfold State.setReg; split <;> rfl
@[simp] theorem State.setReg_pc (s : State) (r : Reg) (v : DWord) : (s.setReg r v).pc = s.pc := by
  unfold State.setReg; split <;> rfl
@[simp] theorem State.setReg_nextPc (s : State) (r : Reg) (v : DWord) : (s.setReg r v).nextPc = s.nextPc := by
  unfold State.setReg; split <;> rfl
@[simp] theorem State.setReg_inDelaySlot (s : State) (r : Reg) (v : DWord) : (s.setReg r v).inDelaySlot = s.inDelaySlot := by
  unfold State.setReg; split <;> rfl
@[simp] theorem State.setReg_llBit (s : State) (r : Reg) (v : DWord) : (s.setReg r v).llBit = s.llBit := by
  unfold State.setReg; split <;> rfl
@[simp] theorem State.setReg_llAddr (s : State) (r : Reg) (v : DWord) : (s.setReg r v).llAddr = s.llAddr := by
  unfold State.setReg; split <;> rfl
@[simp] theorem State.setReg_llSeen (s : State) (r : Reg) (v : DWord) : (s.setReg r v).llSeen = s.llSeen := by
  unfold State.setReg; split <;> rfl
@[simp] theorem State.setReg_standby (s : State) (r : Reg) (v : DWord) : (s.setReg r v).standby = s.standby := by
  unfold State.setReg; split <;> rfl
@[simp] theorem State.setReg_cp0 (s : State) (r : Reg) (v : DWord) : (s.setReg r v).cp0 = s.cp0 := by
  unfold State.setReg; split <;> rfl
@[simp] theorem State.setReg_fpu (s : State) (r : Reg) (v : DWord) : (s.setReg r v).fpu = s.fpu := by
  unfold State.setReg; split <;> rfl
@[simp] theorem State.setReg_icache (s : State) (r : Reg) (v : DWord) : (s.setReg r v).icache = s.icache := by
  unfold State.setReg; split <;> rfl
@[simp] theorem State.setReg_dcache (s : State) (r : Reg) (v : DWord) : (s.setReg r v).dcache = s.dcache := by
  unfold State.setReg; split <;> rfl
@[simp] theorem State.setReg_mem (s : State) (r : Reg) (v : DWord) : (s.setReg r v).mem = s.mem := by
  unfold State.setReg; split <;> rfl
@[simp] theorem State.setReg_bus (s : State) (r : Reg) (v : DWord) : (s.setReg r v).bus = s.bus := by
  unfold State.setReg; split <;> rfl
@[simp] theorem State.setReg_events (s : State) (r : Reg) (v : DWord) : (s.setReg r v).events = s.events := by
  unfold State.setReg; split <;> rfl
@[simp] theorem State.setReg_boot (s : State) (r : Reg) (v : DWord) : (s.setReg r v).boot = s.boot := by
  unfold State.setReg; split <;> rfl
@[simp] theorem State.setReg_part (s : State) (r : Reg) (v : DWord) : (s.setReg r v).part = s.part := by
  unfold State.setReg; split <;> rfl
@[simp] theorem State.setReg_platform (s : State) (r : Reg) (v : DWord) : (s.setReg r v).platform = s.platform := by
  unfold State.setReg; split <;> rfl
@[simp] theorem State.setReg_inputs (s : State) (r : Reg) (v : DWord) : (s.setReg r v).inputs = s.inputs := by
  unfold State.setReg; split <;> rfl
@[simp] theorem State.setReg_hazards (s : State) (r : Reg) (v : DWord) : (s.setReg r v).hazards = s.hazards := by
  unfold State.setReg; split <;> rfl
@[simp] theorem State.setReg_fresh (s : State) (r : Reg) (v : DWord) : (s.setReg r v).fresh = s.fresh := by
  unfold State.setReg; split <;> rfl

@[simp] theorem State.setHi_gpr (s : State) (v : DWord) : (s.setHi v).gpr = s.gpr := rfl
@[simp] theorem State.setHi_lo (s : State) (v : DWord) : (s.setHi v).lo = s.lo := rfl
@[simp] theorem State.setHi_pc (s : State) (v : DWord) : (s.setHi v).pc = s.pc := rfl
@[simp] theorem State.setHi_nextPc (s : State) (v : DWord) : (s.setHi v).nextPc = s.nextPc := rfl
@[simp] theorem State.setHi_inDelaySlot (s : State) (v : DWord) : (s.setHi v).inDelaySlot = s.inDelaySlot := rfl
@[simp] theorem State.setHi_llBit (s : State) (v : DWord) : (s.setHi v).llBit = s.llBit := rfl
@[simp] theorem State.setHi_llAddr (s : State) (v : DWord) : (s.setHi v).llAddr = s.llAddr := rfl
@[simp] theorem State.setHi_llSeen (s : State) (v : DWord) : (s.setHi v).llSeen = s.llSeen := rfl
@[simp] theorem State.setHi_standby (s : State) (v : DWord) : (s.setHi v).standby = s.standby := rfl
@[simp] theorem State.setHi_cp0 (s : State) (v : DWord) : (s.setHi v).cp0 = s.cp0 := rfl
@[simp] theorem State.setHi_fpu (s : State) (v : DWord) : (s.setHi v).fpu = s.fpu := rfl
@[simp] theorem State.setHi_icache (s : State) (v : DWord) : (s.setHi v).icache = s.icache := rfl
@[simp] theorem State.setHi_dcache (s : State) (v : DWord) : (s.setHi v).dcache = s.dcache := rfl
@[simp] theorem State.setHi_mem (s : State) (v : DWord) : (s.setHi v).mem = s.mem := rfl
@[simp] theorem State.setHi_bus (s : State) (v : DWord) : (s.setHi v).bus = s.bus := rfl
@[simp] theorem State.setHi_events (s : State) (v : DWord) : (s.setHi v).events = s.events := rfl
@[simp] theorem State.setHi_boot (s : State) (v : DWord) : (s.setHi v).boot = s.boot := rfl
@[simp] theorem State.setHi_part (s : State) (v : DWord) : (s.setHi v).part = s.part := rfl
@[simp] theorem State.setHi_platform (s : State) (v : DWord) : (s.setHi v).platform = s.platform := rfl
@[simp] theorem State.setHi_inputs (s : State) (v : DWord) : (s.setHi v).inputs = s.inputs := rfl
@[simp] theorem State.setHi_hazards (s : State) (v : DWord) : (s.setHi v).hazards = s.hazards := rfl
@[simp] theorem State.setHi_fresh (s : State) (v : DWord) : (s.setHi v).fresh = s.fresh := rfl

@[simp] theorem State.setLo_gpr (s : State) (v : DWord) : (s.setLo v).gpr = s.gpr := rfl
@[simp] theorem State.setLo_hi (s : State) (v : DWord) : (s.setLo v).hi = s.hi := rfl
@[simp] theorem State.setLo_pc (s : State) (v : DWord) : (s.setLo v).pc = s.pc := rfl
@[simp] theorem State.setLo_nextPc (s : State) (v : DWord) : (s.setLo v).nextPc = s.nextPc := rfl
@[simp] theorem State.setLo_inDelaySlot (s : State) (v : DWord) : (s.setLo v).inDelaySlot = s.inDelaySlot := rfl
@[simp] theorem State.setLo_llBit (s : State) (v : DWord) : (s.setLo v).llBit = s.llBit := rfl
@[simp] theorem State.setLo_llAddr (s : State) (v : DWord) : (s.setLo v).llAddr = s.llAddr := rfl
@[simp] theorem State.setLo_llSeen (s : State) (v : DWord) : (s.setLo v).llSeen = s.llSeen := rfl
@[simp] theorem State.setLo_standby (s : State) (v : DWord) : (s.setLo v).standby = s.standby := rfl
@[simp] theorem State.setLo_cp0 (s : State) (v : DWord) : (s.setLo v).cp0 = s.cp0 := rfl
@[simp] theorem State.setLo_fpu (s : State) (v : DWord) : (s.setLo v).fpu = s.fpu := rfl
@[simp] theorem State.setLo_icache (s : State) (v : DWord) : (s.setLo v).icache = s.icache := rfl
@[simp] theorem State.setLo_dcache (s : State) (v : DWord) : (s.setLo v).dcache = s.dcache := rfl
@[simp] theorem State.setLo_mem (s : State) (v : DWord) : (s.setLo v).mem = s.mem := rfl
@[simp] theorem State.setLo_bus (s : State) (v : DWord) : (s.setLo v).bus = s.bus := rfl
@[simp] theorem State.setLo_events (s : State) (v : DWord) : (s.setLo v).events = s.events := rfl
@[simp] theorem State.setLo_boot (s : State) (v : DWord) : (s.setLo v).boot = s.boot := rfl
@[simp] theorem State.setLo_part (s : State) (v : DWord) : (s.setLo v).part = s.part := rfl
@[simp] theorem State.setLo_platform (s : State) (v : DWord) : (s.setLo v).platform = s.platform := rfl
@[simp] theorem State.setLo_inputs (s : State) (v : DWord) : (s.setLo v).inputs = s.inputs := rfl
@[simp] theorem State.setLo_hazards (s : State) (v : DWord) : (s.setLo v).hazards = s.hazards := rfl
@[simp] theorem State.setLo_fresh (s : State) (v : DWord) : (s.setLo v).fresh = s.fresh := rfl

@[simp] theorem State.setCp0_gpr (s : State) (c : Cp0) : (s.setCp0 c).gpr = s.gpr := rfl
@[simp] theorem State.setCp0_hi (s : State) (c : Cp0) : (s.setCp0 c).hi = s.hi := rfl
@[simp] theorem State.setCp0_lo (s : State) (c : Cp0) : (s.setCp0 c).lo = s.lo := rfl
@[simp] theorem State.setCp0_pc (s : State) (c : Cp0) : (s.setCp0 c).pc = s.pc := rfl
@[simp] theorem State.setCp0_nextPc (s : State) (c : Cp0) : (s.setCp0 c).nextPc = s.nextPc := rfl
@[simp] theorem State.setCp0_inDelaySlot (s : State) (c : Cp0) : (s.setCp0 c).inDelaySlot = s.inDelaySlot := rfl
@[simp] theorem State.setCp0_llBit (s : State) (c : Cp0) : (s.setCp0 c).llBit = s.llBit := rfl
@[simp] theorem State.setCp0_llAddr (s : State) (c : Cp0) : (s.setCp0 c).llAddr = s.llAddr := rfl
@[simp] theorem State.setCp0_llSeen (s : State) (c : Cp0) : (s.setCp0 c).llSeen = s.llSeen := rfl
@[simp] theorem State.setCp0_standby (s : State) (c : Cp0) : (s.setCp0 c).standby = s.standby := rfl
@[simp] theorem State.setCp0_fpu (s : State) (c : Cp0) : (s.setCp0 c).fpu = s.fpu := rfl
@[simp] theorem State.setCp0_icache (s : State) (c : Cp0) : (s.setCp0 c).icache = s.icache := rfl
@[simp] theorem State.setCp0_dcache (s : State) (c : Cp0) : (s.setCp0 c).dcache = s.dcache := rfl
@[simp] theorem State.setCp0_mem (s : State) (c : Cp0) : (s.setCp0 c).mem = s.mem := rfl
@[simp] theorem State.setCp0_bus (s : State) (c : Cp0) : (s.setCp0 c).bus = s.bus := rfl
@[simp] theorem State.setCp0_events (s : State) (c : Cp0) : (s.setCp0 c).events = s.events := rfl
@[simp] theorem State.setCp0_boot (s : State) (c : Cp0) : (s.setCp0 c).boot = s.boot := rfl
@[simp] theorem State.setCp0_part (s : State) (c : Cp0) : (s.setCp0 c).part = s.part := rfl
@[simp] theorem State.setCp0_platform (s : State) (c : Cp0) : (s.setCp0 c).platform = s.platform := rfl
@[simp] theorem State.setCp0_inputs (s : State) (c : Cp0) : (s.setCp0 c).inputs = s.inputs := rfl
@[simp] theorem State.setCp0_hazards (s : State) (c : Cp0) : (s.setCp0 c).hazards = s.hazards := rfl
@[simp] theorem State.setCp0_fresh (s : State) (c : Cp0) : (s.setCp0 c).fresh = s.fresh := rfl

@[simp] theorem State.setStatus_gpr (s : State) (t : Status) : (s.setStatus t).gpr = s.gpr := rfl
@[simp] theorem State.setStatus_hi (s : State) (t : Status) : (s.setStatus t).hi = s.hi := rfl
@[simp] theorem State.setStatus_lo (s : State) (t : Status) : (s.setStatus t).lo = s.lo := rfl
@[simp] theorem State.setStatus_pc (s : State) (t : Status) : (s.setStatus t).pc = s.pc := rfl
@[simp] theorem State.setStatus_nextPc (s : State) (t : Status) : (s.setStatus t).nextPc = s.nextPc := rfl
@[simp] theorem State.setStatus_inDelaySlot (s : State) (t : Status) : (s.setStatus t).inDelaySlot = s.inDelaySlot := rfl
@[simp] theorem State.setStatus_llBit (s : State) (t : Status) : (s.setStatus t).llBit = s.llBit := rfl
@[simp] theorem State.setStatus_llAddr (s : State) (t : Status) : (s.setStatus t).llAddr = s.llAddr := rfl
@[simp] theorem State.setStatus_llSeen (s : State) (t : Status) : (s.setStatus t).llSeen = s.llSeen := rfl
@[simp] theorem State.setStatus_standby (s : State) (t : Status) : (s.setStatus t).standby = s.standby := rfl
@[simp] theorem State.setStatus_fpu (s : State) (t : Status) : (s.setStatus t).fpu = s.fpu := rfl
@[simp] theorem State.setStatus_icache (s : State) (t : Status) : (s.setStatus t).icache = s.icache := rfl
@[simp] theorem State.setStatus_dcache (s : State) (t : Status) : (s.setStatus t).dcache = s.dcache := rfl
@[simp] theorem State.setStatus_mem (s : State) (t : Status) : (s.setStatus t).mem = s.mem := rfl
@[simp] theorem State.setStatus_bus (s : State) (t : Status) : (s.setStatus t).bus = s.bus := rfl
@[simp] theorem State.setStatus_events (s : State) (t : Status) : (s.setStatus t).events = s.events := rfl
@[simp] theorem State.setStatus_boot (s : State) (t : Status) : (s.setStatus t).boot = s.boot := rfl
@[simp] theorem State.setStatus_part (s : State) (t : Status) : (s.setStatus t).part = s.part := rfl
@[simp] theorem State.setStatus_platform (s : State) (t : Status) : (s.setStatus t).platform = s.platform := rfl
@[simp] theorem State.setStatus_inputs (s : State) (t : Status) : (s.setStatus t).inputs = s.inputs := rfl
@[simp] theorem State.setStatus_hazards (s : State) (t : Status) : (s.setStatus t).hazards = s.hazards := rfl
@[simp] theorem State.setStatus_fresh (s : State) (t : Status) : (s.setStatus t).fresh = s.fresh := rfl

@[simp] theorem State.setCause_gpr (s : State) (c : Cause) : (s.setCause c).gpr = s.gpr := rfl
@[simp] theorem State.setCause_hi (s : State) (c : Cause) : (s.setCause c).hi = s.hi := rfl
@[simp] theorem State.setCause_lo (s : State) (c : Cause) : (s.setCause c).lo = s.lo := rfl
@[simp] theorem State.setCause_pc (s : State) (c : Cause) : (s.setCause c).pc = s.pc := rfl
@[simp] theorem State.setCause_nextPc (s : State) (c : Cause) : (s.setCause c).nextPc = s.nextPc := rfl
@[simp] theorem State.setCause_inDelaySlot (s : State) (c : Cause) : (s.setCause c).inDelaySlot = s.inDelaySlot := rfl
@[simp] theorem State.setCause_llBit (s : State) (c : Cause) : (s.setCause c).llBit = s.llBit := rfl
@[simp] theorem State.setCause_llAddr (s : State) (c : Cause) : (s.setCause c).llAddr = s.llAddr := rfl
@[simp] theorem State.setCause_llSeen (s : State) (c : Cause) : (s.setCause c).llSeen = s.llSeen := rfl
@[simp] theorem State.setCause_standby (s : State) (c : Cause) : (s.setCause c).standby = s.standby := rfl
@[simp] theorem State.setCause_fpu (s : State) (c : Cause) : (s.setCause c).fpu = s.fpu := rfl
@[simp] theorem State.setCause_icache (s : State) (c : Cause) : (s.setCause c).icache = s.icache := rfl
@[simp] theorem State.setCause_dcache (s : State) (c : Cause) : (s.setCause c).dcache = s.dcache := rfl
@[simp] theorem State.setCause_mem (s : State) (c : Cause) : (s.setCause c).mem = s.mem := rfl
@[simp] theorem State.setCause_bus (s : State) (c : Cause) : (s.setCause c).bus = s.bus := rfl
@[simp] theorem State.setCause_events (s : State) (c : Cause) : (s.setCause c).events = s.events := rfl
@[simp] theorem State.setCause_boot (s : State) (c : Cause) : (s.setCause c).boot = s.boot := rfl
@[simp] theorem State.setCause_part (s : State) (c : Cause) : (s.setCause c).part = s.part := rfl
@[simp] theorem State.setCause_platform (s : State) (c : Cause) : (s.setCause c).platform = s.platform := rfl
@[simp] theorem State.setCause_inputs (s : State) (c : Cause) : (s.setCause c).inputs = s.inputs := rfl
@[simp] theorem State.setCause_hazards (s : State) (c : Cause) : (s.setCause c).hazards = s.hazards := rfl
@[simp] theorem State.setCause_fresh (s : State) (c : Cause) : (s.setCause c).fresh = s.fresh := rfl

@[simp] theorem State.setFgr_gpr (s : State) (f : Reg) (v : Word) : (s.setFgr f v).gpr = s.gpr := rfl
@[simp] theorem State.setFgr_hi (s : State) (f : Reg) (v : Word) : (s.setFgr f v).hi = s.hi := rfl
@[simp] theorem State.setFgr_lo (s : State) (f : Reg) (v : Word) : (s.setFgr f v).lo = s.lo := rfl
@[simp] theorem State.setFgr_pc (s : State) (f : Reg) (v : Word) : (s.setFgr f v).pc = s.pc := rfl
@[simp] theorem State.setFgr_nextPc (s : State) (f : Reg) (v : Word) : (s.setFgr f v).nextPc = s.nextPc := rfl
@[simp] theorem State.setFgr_inDelaySlot (s : State) (f : Reg) (v : Word) : (s.setFgr f v).inDelaySlot = s.inDelaySlot := rfl
@[simp] theorem State.setFgr_llBit (s : State) (f : Reg) (v : Word) : (s.setFgr f v).llBit = s.llBit := rfl
@[simp] theorem State.setFgr_llAddr (s : State) (f : Reg) (v : Word) : (s.setFgr f v).llAddr = s.llAddr := rfl
@[simp] theorem State.setFgr_llSeen (s : State) (f : Reg) (v : Word) : (s.setFgr f v).llSeen = s.llSeen := rfl
@[simp] theorem State.setFgr_standby (s : State) (f : Reg) (v : Word) : (s.setFgr f v).standby = s.standby := rfl
@[simp] theorem State.setFgr_cp0 (s : State) (f : Reg) (v : Word) : (s.setFgr f v).cp0 = s.cp0 := rfl
@[simp] theorem State.setFgr_icache (s : State) (f : Reg) (v : Word) : (s.setFgr f v).icache = s.icache := rfl
@[simp] theorem State.setFgr_dcache (s : State) (f : Reg) (v : Word) : (s.setFgr f v).dcache = s.dcache := rfl
@[simp] theorem State.setFgr_mem (s : State) (f : Reg) (v : Word) : (s.setFgr f v).mem = s.mem := rfl
@[simp] theorem State.setFgr_bus (s : State) (f : Reg) (v : Word) : (s.setFgr f v).bus = s.bus := rfl
@[simp] theorem State.setFgr_events (s : State) (f : Reg) (v : Word) : (s.setFgr f v).events = s.events := rfl
@[simp] theorem State.setFgr_boot (s : State) (f : Reg) (v : Word) : (s.setFgr f v).boot = s.boot := rfl
@[simp] theorem State.setFgr_part (s : State) (f : Reg) (v : Word) : (s.setFgr f v).part = s.part := rfl
@[simp] theorem State.setFgr_platform (s : State) (f : Reg) (v : Word) : (s.setFgr f v).platform = s.platform := rfl
@[simp] theorem State.setFgr_inputs (s : State) (f : Reg) (v : Word) : (s.setFgr f v).inputs = s.inputs := rfl
@[simp] theorem State.setFgr_hazards (s : State) (f : Reg) (v : Word) : (s.setFgr f v).hazards = s.hazards := rfl
@[simp] theorem State.setFgr_fresh (s : State) (f : Reg) (v : Word) : (s.setFgr f v).fresh = s.fresh := rfl

@[simp] theorem State.setFcr31_gpr (s : State) (c : Fcr31) : (s.setFcr31 c).gpr = s.gpr := rfl
@[simp] theorem State.setFcr31_hi (s : State) (c : Fcr31) : (s.setFcr31 c).hi = s.hi := rfl
@[simp] theorem State.setFcr31_lo (s : State) (c : Fcr31) : (s.setFcr31 c).lo = s.lo := rfl
@[simp] theorem State.setFcr31_pc (s : State) (c : Fcr31) : (s.setFcr31 c).pc = s.pc := rfl
@[simp] theorem State.setFcr31_nextPc (s : State) (c : Fcr31) : (s.setFcr31 c).nextPc = s.nextPc := rfl
@[simp] theorem State.setFcr31_inDelaySlot (s : State) (c : Fcr31) : (s.setFcr31 c).inDelaySlot = s.inDelaySlot := rfl
@[simp] theorem State.setFcr31_llBit (s : State) (c : Fcr31) : (s.setFcr31 c).llBit = s.llBit := rfl
@[simp] theorem State.setFcr31_llAddr (s : State) (c : Fcr31) : (s.setFcr31 c).llAddr = s.llAddr := rfl
@[simp] theorem State.setFcr31_llSeen (s : State) (c : Fcr31) : (s.setFcr31 c).llSeen = s.llSeen := rfl
@[simp] theorem State.setFcr31_standby (s : State) (c : Fcr31) : (s.setFcr31 c).standby = s.standby := rfl
@[simp] theorem State.setFcr31_cp0 (s : State) (c : Fcr31) : (s.setFcr31 c).cp0 = s.cp0 := rfl
@[simp] theorem State.setFcr31_icache (s : State) (c : Fcr31) : (s.setFcr31 c).icache = s.icache := rfl
@[simp] theorem State.setFcr31_dcache (s : State) (c : Fcr31) : (s.setFcr31 c).dcache = s.dcache := rfl
@[simp] theorem State.setFcr31_mem (s : State) (c : Fcr31) : (s.setFcr31 c).mem = s.mem := rfl
@[simp] theorem State.setFcr31_bus (s : State) (c : Fcr31) : (s.setFcr31 c).bus = s.bus := rfl
@[simp] theorem State.setFcr31_events (s : State) (c : Fcr31) : (s.setFcr31 c).events = s.events := rfl
@[simp] theorem State.setFcr31_boot (s : State) (c : Fcr31) : (s.setFcr31 c).boot = s.boot := rfl
@[simp] theorem State.setFcr31_part (s : State) (c : Fcr31) : (s.setFcr31 c).part = s.part := rfl
@[simp] theorem State.setFcr31_platform (s : State) (c : Fcr31) : (s.setFcr31 c).platform = s.platform := rfl
@[simp] theorem State.setFcr31_inputs (s : State) (c : Fcr31) : (s.setFcr31 c).inputs = s.inputs := rfl
@[simp] theorem State.setFcr31_hazards (s : State) (c : Fcr31) : (s.setFcr31 c).hazards = s.hazards := rfl
@[simp] theorem State.setFcr31_fresh (s : State) (c : Fcr31) : (s.setFcr31 c).fresh = s.fresh := rfl

@[simp] theorem State.drawn_gpr (s : State) : (s.drawn).gpr = s.gpr := rfl
@[simp] theorem State.drawn_hi (s : State) : (s.drawn).hi = s.hi := rfl
@[simp] theorem State.drawn_lo (s : State) : (s.drawn).lo = s.lo := rfl
@[simp] theorem State.drawn_pc (s : State) : (s.drawn).pc = s.pc := rfl
@[simp] theorem State.drawn_nextPc (s : State) : (s.drawn).nextPc = s.nextPc := rfl
@[simp] theorem State.drawn_inDelaySlot (s : State) : (s.drawn).inDelaySlot = s.inDelaySlot := rfl
@[simp] theorem State.drawn_llBit (s : State) : (s.drawn).llBit = s.llBit := rfl
@[simp] theorem State.drawn_llAddr (s : State) : (s.drawn).llAddr = s.llAddr := rfl
@[simp] theorem State.drawn_llSeen (s : State) : (s.drawn).llSeen = s.llSeen := rfl
@[simp] theorem State.drawn_standby (s : State) : (s.drawn).standby = s.standby := rfl
@[simp] theorem State.drawn_cp0 (s : State) : (s.drawn).cp0 = s.cp0 := rfl
@[simp] theorem State.drawn_fpu (s : State) : (s.drawn).fpu = s.fpu := rfl
@[simp] theorem State.drawn_icache (s : State) : (s.drawn).icache = s.icache := rfl
@[simp] theorem State.drawn_dcache (s : State) : (s.drawn).dcache = s.dcache := rfl
@[simp] theorem State.drawn_mem (s : State) : (s.drawn).mem = s.mem := rfl
@[simp] theorem State.drawn_bus (s : State) : (s.drawn).bus = s.bus := rfl
@[simp] theorem State.drawn_events (s : State) : (s.drawn).events = s.events := rfl
@[simp] theorem State.drawn_boot (s : State) : (s.drawn).boot = s.boot := rfl
@[simp] theorem State.drawn_part (s : State) : (s.drawn).part = s.part := rfl
@[simp] theorem State.drawn_platform (s : State) : (s.drawn).platform = s.platform := rfl
@[simp] theorem State.drawn_inputs (s : State) : (s.drawn).inputs = s.inputs := rfl
@[simp] theorem State.drawn_hazards (s : State) : (s.drawn).hazards = s.hazards := rfl

@[simp] theorem State.aged_gpr (s : State) : (s.aged).gpr = s.gpr := rfl
@[simp] theorem State.aged_hi (s : State) : (s.aged).hi = s.hi := rfl
@[simp] theorem State.aged_lo (s : State) : (s.aged).lo = s.lo := rfl
@[simp] theorem State.aged_pc (s : State) : (s.aged).pc = s.pc := rfl
@[simp] theorem State.aged_nextPc (s : State) : (s.aged).nextPc = s.nextPc := rfl
@[simp] theorem State.aged_inDelaySlot (s : State) : (s.aged).inDelaySlot = s.inDelaySlot := rfl
@[simp] theorem State.aged_llBit (s : State) : (s.aged).llBit = s.llBit := rfl
@[simp] theorem State.aged_llAddr (s : State) : (s.aged).llAddr = s.llAddr := rfl
@[simp] theorem State.aged_llSeen (s : State) : (s.aged).llSeen = s.llSeen := rfl
@[simp] theorem State.aged_standby (s : State) : (s.aged).standby = s.standby := rfl
@[simp] theorem State.aged_cp0 (s : State) : (s.aged).cp0 = s.cp0 := rfl
@[simp] theorem State.aged_fpu (s : State) : (s.aged).fpu = s.fpu := rfl
@[simp] theorem State.aged_icache (s : State) : (s.aged).icache = s.icache := rfl
@[simp] theorem State.aged_dcache (s : State) : (s.aged).dcache = s.dcache := rfl
@[simp] theorem State.aged_mem (s : State) : (s.aged).mem = s.mem := rfl
@[simp] theorem State.aged_bus (s : State) : (s.aged).bus = s.bus := rfl
@[simp] theorem State.aged_events (s : State) : (s.aged).events = s.events := rfl
@[simp] theorem State.aged_boot (s : State) : (s.aged).boot = s.boot := rfl
@[simp] theorem State.aged_part (s : State) : (s.aged).part = s.part := rfl
@[simp] theorem State.aged_platform (s : State) : (s.aged).platform = s.platform := rfl
@[simp] theorem State.aged_inputs (s : State) : (s.aged).inputs = s.inputs := rfl
@[simp] theorem State.aged_fresh (s : State) : (s.aged).fresh = s.fresh := rfl

@[simp] theorem State.advance_gpr (s : State) : (s.advance).gpr = s.gpr := rfl
@[simp] theorem State.advance_hi (s : State) : (s.advance).hi = s.hi := rfl
@[simp] theorem State.advance_lo (s : State) : (s.advance).lo = s.lo := rfl
@[simp] theorem State.advance_llBit (s : State) : (s.advance).llBit = s.llBit := rfl
@[simp] theorem State.advance_llAddr (s : State) : (s.advance).llAddr = s.llAddr := rfl
@[simp] theorem State.advance_llSeen (s : State) : (s.advance).llSeen = s.llSeen := rfl
@[simp] theorem State.advance_standby (s : State) : (s.advance).standby = s.standby := rfl
@[simp] theorem State.advance_cp0 (s : State) : (s.advance).cp0 = s.cp0 := rfl
@[simp] theorem State.advance_fpu (s : State) : (s.advance).fpu = s.fpu := rfl
@[simp] theorem State.advance_icache (s : State) : (s.advance).icache = s.icache := rfl
@[simp] theorem State.advance_dcache (s : State) : (s.advance).dcache = s.dcache := rfl
@[simp] theorem State.advance_mem (s : State) : (s.advance).mem = s.mem := rfl
@[simp] theorem State.advance_bus (s : State) : (s.advance).bus = s.bus := rfl
@[simp] theorem State.advance_events (s : State) : (s.advance).events = s.events := rfl
@[simp] theorem State.advance_boot (s : State) : (s.advance).boot = s.boot := rfl
@[simp] theorem State.advance_part (s : State) : (s.advance).part = s.part := rfl
@[simp] theorem State.advance_platform (s : State) : (s.advance).platform = s.platform := rfl
@[simp] theorem State.advance_inputs (s : State) : (s.advance).inputs = s.inputs := rfl
@[simp] theorem State.advance_fresh (s : State) : (s.advance).fresh = s.fresh := rfl

@[simp] theorem State.branchTo_gpr (s : State) (t : DWord) : (s.branchTo t).gpr = s.gpr := rfl
@[simp] theorem State.branchTo_hi (s : State) (t : DWord) : (s.branchTo t).hi = s.hi := rfl
@[simp] theorem State.branchTo_lo (s : State) (t : DWord) : (s.branchTo t).lo = s.lo := rfl
@[simp] theorem State.branchTo_llBit (s : State) (t : DWord) : (s.branchTo t).llBit = s.llBit := rfl
@[simp] theorem State.branchTo_llAddr (s : State) (t : DWord) : (s.branchTo t).llAddr = s.llAddr := rfl
@[simp] theorem State.branchTo_llSeen (s : State) (t : DWord) : (s.branchTo t).llSeen = s.llSeen := rfl
@[simp] theorem State.branchTo_standby (s : State) (t : DWord) : (s.branchTo t).standby = s.standby := rfl
@[simp] theorem State.branchTo_cp0 (s : State) (t : DWord) : (s.branchTo t).cp0 = s.cp0 := rfl
@[simp] theorem State.branchTo_fpu (s : State) (t : DWord) : (s.branchTo t).fpu = s.fpu := rfl
@[simp] theorem State.branchTo_icache (s : State) (t : DWord) : (s.branchTo t).icache = s.icache := rfl
@[simp] theorem State.branchTo_dcache (s : State) (t : DWord) : (s.branchTo t).dcache = s.dcache := rfl
@[simp] theorem State.branchTo_mem (s : State) (t : DWord) : (s.branchTo t).mem = s.mem := rfl
@[simp] theorem State.branchTo_bus (s : State) (t : DWord) : (s.branchTo t).bus = s.bus := rfl
@[simp] theorem State.branchTo_events (s : State) (t : DWord) : (s.branchTo t).events = s.events := rfl
@[simp] theorem State.branchTo_boot (s : State) (t : DWord) : (s.branchTo t).boot = s.boot := rfl
@[simp] theorem State.branchTo_part (s : State) (t : DWord) : (s.branchTo t).part = s.part := rfl
@[simp] theorem State.branchTo_platform (s : State) (t : DWord) : (s.branchTo t).platform = s.platform := rfl
@[simp] theorem State.branchTo_inputs (s : State) (t : DWord) : (s.branchTo t).inputs = s.inputs := rfl
@[simp] theorem State.branchTo_fresh (s : State) (t : DWord) : (s.branchTo t).fresh = s.fresh := rfl

@[simp] theorem State.fallThrough_gpr (s : State) : (s.fallThrough).gpr = s.gpr := rfl
@[simp] theorem State.fallThrough_hi (s : State) : (s.fallThrough).hi = s.hi := rfl
@[simp] theorem State.fallThrough_lo (s : State) : (s.fallThrough).lo = s.lo := rfl
@[simp] theorem State.fallThrough_llBit (s : State) : (s.fallThrough).llBit = s.llBit := rfl
@[simp] theorem State.fallThrough_llAddr (s : State) : (s.fallThrough).llAddr = s.llAddr := rfl
@[simp] theorem State.fallThrough_llSeen (s : State) : (s.fallThrough).llSeen = s.llSeen := rfl
@[simp] theorem State.fallThrough_standby (s : State) : (s.fallThrough).standby = s.standby := rfl
@[simp] theorem State.fallThrough_cp0 (s : State) : (s.fallThrough).cp0 = s.cp0 := rfl
@[simp] theorem State.fallThrough_fpu (s : State) : (s.fallThrough).fpu = s.fpu := rfl
@[simp] theorem State.fallThrough_icache (s : State) : (s.fallThrough).icache = s.icache := rfl
@[simp] theorem State.fallThrough_dcache (s : State) : (s.fallThrough).dcache = s.dcache := rfl
@[simp] theorem State.fallThrough_mem (s : State) : (s.fallThrough).mem = s.mem := rfl
@[simp] theorem State.fallThrough_bus (s : State) : (s.fallThrough).bus = s.bus := rfl
@[simp] theorem State.fallThrough_events (s : State) : (s.fallThrough).events = s.events := rfl
@[simp] theorem State.fallThrough_boot (s : State) : (s.fallThrough).boot = s.boot := rfl
@[simp] theorem State.fallThrough_part (s : State) : (s.fallThrough).part = s.part := rfl
@[simp] theorem State.fallThrough_platform (s : State) : (s.fallThrough).platform = s.platform := rfl
@[simp] theorem State.fallThrough_inputs (s : State) : (s.fallThrough).inputs = s.inputs := rfl
@[simp] theorem State.fallThrough_fresh (s : State) : (s.fallThrough).fresh = s.fresh := rfl

@[simp] theorem State.nullify_gpr (s : State) : (s.nullify).gpr = s.gpr := rfl
@[simp] theorem State.nullify_hi (s : State) : (s.nullify).hi = s.hi := rfl
@[simp] theorem State.nullify_lo (s : State) : (s.nullify).lo = s.lo := rfl
@[simp] theorem State.nullify_llBit (s : State) : (s.nullify).llBit = s.llBit := rfl
@[simp] theorem State.nullify_llAddr (s : State) : (s.nullify).llAddr = s.llAddr := rfl
@[simp] theorem State.nullify_llSeen (s : State) : (s.nullify).llSeen = s.llSeen := rfl
@[simp] theorem State.nullify_standby (s : State) : (s.nullify).standby = s.standby := rfl
@[simp] theorem State.nullify_cp0 (s : State) : (s.nullify).cp0 = s.cp0 := rfl
@[simp] theorem State.nullify_fpu (s : State) : (s.nullify).fpu = s.fpu := rfl
@[simp] theorem State.nullify_icache (s : State) : (s.nullify).icache = s.icache := rfl
@[simp] theorem State.nullify_dcache (s : State) : (s.nullify).dcache = s.dcache := rfl
@[simp] theorem State.nullify_mem (s : State) : (s.nullify).mem = s.mem := rfl
@[simp] theorem State.nullify_bus (s : State) : (s.nullify).bus = s.bus := rfl
@[simp] theorem State.nullify_events (s : State) : (s.nullify).events = s.events := rfl
@[simp] theorem State.nullify_boot (s : State) : (s.nullify).boot = s.boot := rfl
@[simp] theorem State.nullify_part (s : State) : (s.nullify).part = s.part := rfl
@[simp] theorem State.nullify_platform (s : State) : (s.nullify).platform = s.platform := rfl
@[simp] theorem State.nullify_inputs (s : State) : (s.nullify).inputs = s.inputs := rfl
@[simp] theorem State.nullify_fresh (s : State) : (s.nullify).fresh = s.fresh := rfl

@[simp] theorem State.takeException_gpr (s : State) (e : Exc) (bad : Option DWord) : (s.takeException e bad).gpr = s.gpr := rfl
@[simp] theorem State.takeException_hi (s : State) (e : Exc) (bad : Option DWord) : (s.takeException e bad).hi = s.hi := rfl
@[simp] theorem State.takeException_lo (s : State) (e : Exc) (bad : Option DWord) : (s.takeException e bad).lo = s.lo := rfl
@[simp] theorem State.takeException_llBit (s : State) (e : Exc) (bad : Option DWord) : (s.takeException e bad).llBit = s.llBit := rfl
@[simp] theorem State.takeException_llAddr (s : State) (e : Exc) (bad : Option DWord) : (s.takeException e bad).llAddr = s.llAddr := rfl
@[simp] theorem State.takeException_llSeen (s : State) (e : Exc) (bad : Option DWord) : (s.takeException e bad).llSeen = s.llSeen := rfl
@[simp] theorem State.takeException_standby (s : State) (e : Exc) (bad : Option DWord) : (s.takeException e bad).standby = s.standby := rfl
@[simp] theorem State.takeException_fpu (s : State) (e : Exc) (bad : Option DWord) : (s.takeException e bad).fpu = s.fpu := rfl
@[simp] theorem State.takeException_icache (s : State) (e : Exc) (bad : Option DWord) : (s.takeException e bad).icache = s.icache := rfl
@[simp] theorem State.takeException_dcache (s : State) (e : Exc) (bad : Option DWord) : (s.takeException e bad).dcache = s.dcache := rfl
@[simp] theorem State.takeException_mem (s : State) (e : Exc) (bad : Option DWord) : (s.takeException e bad).mem = s.mem := rfl
@[simp] theorem State.takeException_bus (s : State) (e : Exc) (bad : Option DWord) : (s.takeException e bad).bus = s.bus := rfl
@[simp] theorem State.takeException_events (s : State) (e : Exc) (bad : Option DWord) : (s.takeException e bad).events = s.events := rfl
@[simp] theorem State.takeException_boot (s : State) (e : Exc) (bad : Option DWord) : (s.takeException e bad).boot = s.boot := rfl
@[simp] theorem State.takeException_part (s : State) (e : Exc) (bad : Option DWord) : (s.takeException e bad).part = s.part := rfl
@[simp] theorem State.takeException_platform (s : State) (e : Exc) (bad : Option DWord) : (s.takeException e bad).platform = s.platform := rfl
@[simp] theorem State.takeException_inputs (s : State) (e : Exc) (bad : Option DWord) : (s.takeException e bad).inputs = s.inputs := rfl
@[simp] theorem State.takeException_hazards (s : State) (e : Exc) (bad : Option DWord) : (s.takeException e bad).hazards = s.hazards := rfl

@[simp] theorem State.raised_gpr (s : State) (e : Exc) (bad : Option DWord) : (s.raised e bad).gpr = s.gpr := rfl
@[simp] theorem State.raised_hi (s : State) (e : Exc) (bad : Option DWord) : (s.raised e bad).hi = s.hi := rfl
@[simp] theorem State.raised_lo (s : State) (e : Exc) (bad : Option DWord) : (s.raised e bad).lo = s.lo := rfl
@[simp] theorem State.raised_llBit (s : State) (e : Exc) (bad : Option DWord) : (s.raised e bad).llBit = s.llBit := rfl
@[simp] theorem State.raised_llAddr (s : State) (e : Exc) (bad : Option DWord) : (s.raised e bad).llAddr = s.llAddr := rfl
@[simp] theorem State.raised_llSeen (s : State) (e : Exc) (bad : Option DWord) : (s.raised e bad).llSeen = s.llSeen := rfl
@[simp] theorem State.raised_standby (s : State) (e : Exc) (bad : Option DWord) : (s.raised e bad).standby = s.standby := rfl
@[simp] theorem State.raised_fpu (s : State) (e : Exc) (bad : Option DWord) : (s.raised e bad).fpu = s.fpu := rfl
@[simp] theorem State.raised_icache (s : State) (e : Exc) (bad : Option DWord) : (s.raised e bad).icache = s.icache := rfl
@[simp] theorem State.raised_dcache (s : State) (e : Exc) (bad : Option DWord) : (s.raised e bad).dcache = s.dcache := rfl
@[simp] theorem State.raised_mem (s : State) (e : Exc) (bad : Option DWord) : (s.raised e bad).mem = s.mem := rfl
@[simp] theorem State.raised_bus (s : State) (e : Exc) (bad : Option DWord) : (s.raised e bad).bus = s.bus := rfl
@[simp] theorem State.raised_events (s : State) (e : Exc) (bad : Option DWord) : (s.raised e bad).events = s.events := rfl
@[simp] theorem State.raised_boot (s : State) (e : Exc) (bad : Option DWord) : (s.raised e bad).boot = s.boot := rfl
@[simp] theorem State.raised_part (s : State) (e : Exc) (bad : Option DWord) : (s.raised e bad).part = s.part := rfl
@[simp] theorem State.raised_platform (s : State) (e : Exc) (bad : Option DWord) : (s.raised e bad).platform = s.platform := rfl
@[simp] theorem State.raised_inputs (s : State) (e : Exc) (bad : Option DWord) : (s.raised e bad).inputs = s.inputs := rfl

@[simp] theorem State.takeCacheError_gpr (s : State) (p : ParityError) : (s.takeCacheError p).gpr = s.gpr := rfl
@[simp] theorem State.takeCacheError_hi (s : State) (p : ParityError) : (s.takeCacheError p).hi = s.hi := rfl
@[simp] theorem State.takeCacheError_lo (s : State) (p : ParityError) : (s.takeCacheError p).lo = s.lo := rfl
@[simp] theorem State.takeCacheError_llBit (s : State) (p : ParityError) : (s.takeCacheError p).llBit = s.llBit := rfl
@[simp] theorem State.takeCacheError_llAddr (s : State) (p : ParityError) : (s.takeCacheError p).llAddr = s.llAddr := rfl
@[simp] theorem State.takeCacheError_llSeen (s : State) (p : ParityError) : (s.takeCacheError p).llSeen = s.llSeen := rfl
@[simp] theorem State.takeCacheError_standby (s : State) (p : ParityError) : (s.takeCacheError p).standby = s.standby := rfl
@[simp] theorem State.takeCacheError_fpu (s : State) (p : ParityError) : (s.takeCacheError p).fpu = s.fpu := rfl
@[simp] theorem State.takeCacheError_icache (s : State) (p : ParityError) : (s.takeCacheError p).icache = s.icache := rfl
@[simp] theorem State.takeCacheError_dcache (s : State) (p : ParityError) : (s.takeCacheError p).dcache = s.dcache := rfl
@[simp] theorem State.takeCacheError_mem (s : State) (p : ParityError) : (s.takeCacheError p).mem = s.mem := rfl
@[simp] theorem State.takeCacheError_bus (s : State) (p : ParityError) : (s.takeCacheError p).bus = s.bus := rfl
@[simp] theorem State.takeCacheError_events (s : State) (p : ParityError) : (s.takeCacheError p).events = s.events := rfl
@[simp] theorem State.takeCacheError_boot (s : State) (p : ParityError) : (s.takeCacheError p).boot = s.boot := rfl
@[simp] theorem State.takeCacheError_part (s : State) (p : ParityError) : (s.takeCacheError p).part = s.part := rfl
@[simp] theorem State.takeCacheError_platform (s : State) (p : ParityError) : (s.takeCacheError p).platform = s.platform := rfl
@[simp] theorem State.takeCacheError_inputs (s : State) (p : ParityError) : (s.takeCacheError p).inputs = s.inputs := rfl
@[simp] theorem State.takeCacheError_hazards (s : State) (p : ParityError) : (s.takeCacheError p).hazards = s.hazards := rfl
@[simp] theorem State.takeCacheError_fresh (s : State) (p : ParityError) : (s.takeCacheError p).fresh = s.fresh := rfl

@[simp] theorem State.returnFromException_gpr (s : State) : (s.returnFromException).gpr = s.gpr := rfl
@[simp] theorem State.returnFromException_hi (s : State) : (s.returnFromException).hi = s.hi := rfl
@[simp] theorem State.returnFromException_lo (s : State) : (s.returnFromException).lo = s.lo := rfl
@[simp] theorem State.returnFromException_llAddr (s : State) : (s.returnFromException).llAddr = s.llAddr := rfl
@[simp] theorem State.returnFromException_llSeen (s : State) : (s.returnFromException).llSeen = s.llSeen := rfl
@[simp] theorem State.returnFromException_standby (s : State) : (s.returnFromException).standby = s.standby := rfl
@[simp] theorem State.returnFromException_fpu (s : State) : (s.returnFromException).fpu = s.fpu := rfl
@[simp] theorem State.returnFromException_icache (s : State) : (s.returnFromException).icache = s.icache := rfl
@[simp] theorem State.returnFromException_dcache (s : State) : (s.returnFromException).dcache = s.dcache := rfl
@[simp] theorem State.returnFromException_mem (s : State) : (s.returnFromException).mem = s.mem := rfl
@[simp] theorem State.returnFromException_bus (s : State) : (s.returnFromException).bus = s.bus := rfl
@[simp] theorem State.returnFromException_events (s : State) : (s.returnFromException).events = s.events := rfl
@[simp] theorem State.returnFromException_boot (s : State) : (s.returnFromException).boot = s.boot := rfl
@[simp] theorem State.returnFromException_part (s : State) : (s.returnFromException).part = s.part := rfl
@[simp] theorem State.returnFromException_platform (s : State) : (s.returnFromException).platform = s.platform := rfl
@[simp] theorem State.returnFromException_inputs (s : State) : (s.returnFromException).inputs = s.inputs := rfl
@[simp] theorem State.returnFromException_fresh (s : State) : (s.returnFromException).fresh = s.fresh := rfl

@[simp] theorem State.softReset_gpr (s : State) : (s.softReset).gpr = s.gpr := rfl
@[simp] theorem State.softReset_hi (s : State) : (s.softReset).hi = s.hi := rfl
@[simp] theorem State.softReset_lo (s : State) : (s.softReset).lo = s.lo := rfl
@[simp] theorem State.softReset_llBit (s : State) : (s.softReset).llBit = s.llBit := rfl
@[simp] theorem State.softReset_llAddr (s : State) : (s.softReset).llAddr = s.llAddr := rfl
@[simp] theorem State.softReset_llSeen (s : State) : (s.softReset).llSeen = s.llSeen := rfl
@[simp] theorem State.softReset_standby (s : State) : (s.softReset).standby = s.standby := rfl
@[simp] theorem State.softReset_fpu (s : State) : (s.softReset).fpu = s.fpu := rfl
@[simp] theorem State.softReset_icache (s : State) : (s.softReset).icache = s.icache := rfl
@[simp] theorem State.softReset_dcache (s : State) : (s.softReset).dcache = s.dcache := rfl
@[simp] theorem State.softReset_mem (s : State) : (s.softReset).mem = s.mem := rfl
@[simp] theorem State.softReset_bus (s : State) : (s.softReset).bus = s.bus := rfl
@[simp] theorem State.softReset_events (s : State) : (s.softReset).events = s.events := rfl
@[simp] theorem State.softReset_boot (s : State) : (s.softReset).boot = s.boot := rfl
@[simp] theorem State.softReset_part (s : State) : (s.softReset).part = s.part := rfl
@[simp] theorem State.softReset_platform (s : State) : (s.softReset).platform = s.platform := rfl
@[simp] theorem State.softReset_inputs (s : State) : (s.softReset).inputs = s.inputs := rfl
@[simp] theorem State.softReset_hazards (s : State) : (s.softReset).hazards = s.hazards := rfl
@[simp] theorem State.softReset_fresh (s : State) : (s.softReset).fresh = s.fresh := rfl

@[simp] theorem State.takeNmi_gpr (s : State) : (s.takeNmi).gpr = s.gpr := rfl
@[simp] theorem State.takeNmi_hi (s : State) : (s.takeNmi).hi = s.hi := rfl
@[simp] theorem State.takeNmi_lo (s : State) : (s.takeNmi).lo = s.lo := rfl
@[simp] theorem State.takeNmi_llBit (s : State) : (s.takeNmi).llBit = s.llBit := rfl
@[simp] theorem State.takeNmi_llAddr (s : State) : (s.takeNmi).llAddr = s.llAddr := rfl
@[simp] theorem State.takeNmi_llSeen (s : State) : (s.takeNmi).llSeen = s.llSeen := rfl
@[simp] theorem State.takeNmi_fpu (s : State) : (s.takeNmi).fpu = s.fpu := rfl
@[simp] theorem State.takeNmi_icache (s : State) : (s.takeNmi).icache = s.icache := rfl
@[simp] theorem State.takeNmi_dcache (s : State) : (s.takeNmi).dcache = s.dcache := rfl
@[simp] theorem State.takeNmi_mem (s : State) : (s.takeNmi).mem = s.mem := rfl
@[simp] theorem State.takeNmi_bus (s : State) : (s.takeNmi).bus = s.bus := rfl
@[simp] theorem State.takeNmi_boot (s : State) : (s.takeNmi).boot = s.boot := rfl
@[simp] theorem State.takeNmi_part (s : State) : (s.takeNmi).part = s.part := rfl
@[simp] theorem State.takeNmi_platform (s : State) : (s.takeNmi).platform = s.platform := rfl
@[simp] theorem State.takeNmi_inputs (s : State) : (s.takeNmi).inputs = s.inputs := rfl
@[simp] theorem State.takeNmi_hazards (s : State) : (s.takeNmi).hazards = s.hazards := rfl
@[simp] theorem State.takeNmi_fresh (s : State) : (s.takeNmi).fresh = s.fresh := rfl

@[simp] theorem State.warmReset_gpr (s : State) : (s.warmReset).gpr = s.gpr := rfl
@[simp] theorem State.warmReset_hi (s : State) : (s.warmReset).hi = s.hi := rfl
@[simp] theorem State.warmReset_lo (s : State) : (s.warmReset).lo = s.lo := rfl
@[simp] theorem State.warmReset_llBit (s : State) : (s.warmReset).llBit = s.llBit := rfl
@[simp] theorem State.warmReset_llAddr (s : State) : (s.warmReset).llAddr = s.llAddr := rfl
@[simp] theorem State.warmReset_llSeen (s : State) : (s.warmReset).llSeen = s.llSeen := rfl
@[simp] theorem State.warmReset_fpu (s : State) : (s.warmReset).fpu = s.fpu := rfl
@[simp] theorem State.warmReset_icache (s : State) : (s.warmReset).icache = s.icache := rfl
@[simp] theorem State.warmReset_dcache (s : State) : (s.warmReset).dcache = s.dcache := rfl
@[simp] theorem State.warmReset_mem (s : State) : (s.warmReset).mem = s.mem := rfl
@[simp] theorem State.warmReset_bus (s : State) : (s.warmReset).bus = s.bus := rfl
@[simp] theorem State.warmReset_boot (s : State) : (s.warmReset).boot = s.boot := rfl
@[simp] theorem State.warmReset_part (s : State) : (s.warmReset).part = s.part := rfl
@[simp] theorem State.warmReset_platform (s : State) : (s.warmReset).platform = s.platform := rfl
@[simp] theorem State.warmReset_inputs (s : State) : (s.warmReset).inputs = s.inputs := rfl
@[simp] theorem State.warmReset_hazards (s : State) : (s.warmReset).hazards = s.hazards := rfl
@[simp] theorem State.warmReset_fresh (s : State) : (s.warmReset).fresh = s.fresh := rfl

@[simp] theorem State.setEvents_gpr (s : State) (e : Events) : (s.setEvents e).gpr = s.gpr := rfl
@[simp] theorem State.setEvents_hi (s : State) (e : Events) : (s.setEvents e).hi = s.hi := rfl
@[simp] theorem State.setEvents_lo (s : State) (e : Events) : (s.setEvents e).lo = s.lo := rfl
@[simp] theorem State.setEvents_pc (s : State) (e : Events) : (s.setEvents e).pc = s.pc := rfl
@[simp] theorem State.setEvents_nextPc (s : State) (e : Events) : (s.setEvents e).nextPc = s.nextPc := rfl
@[simp] theorem State.setEvents_inDelaySlot (s : State) (e : Events) : (s.setEvents e).inDelaySlot = s.inDelaySlot := rfl
@[simp] theorem State.setEvents_llBit (s : State) (e : Events) : (s.setEvents e).llBit = s.llBit := rfl
@[simp] theorem State.setEvents_llAddr (s : State) (e : Events) : (s.setEvents e).llAddr = s.llAddr := rfl
@[simp] theorem State.setEvents_llSeen (s : State) (e : Events) : (s.setEvents e).llSeen = s.llSeen := rfl
@[simp] theorem State.setEvents_standby (s : State) (e : Events) : (s.setEvents e).standby = s.standby := rfl
@[simp] theorem State.setEvents_cp0 (s : State) (e : Events) : (s.setEvents e).cp0 = s.cp0 := rfl
@[simp] theorem State.setEvents_fpu (s : State) (e : Events) : (s.setEvents e).fpu = s.fpu := rfl
@[simp] theorem State.setEvents_icache (s : State) (e : Events) : (s.setEvents e).icache = s.icache := rfl
@[simp] theorem State.setEvents_dcache (s : State) (e : Events) : (s.setEvents e).dcache = s.dcache := rfl
@[simp] theorem State.setEvents_mem (s : State) (e : Events) : (s.setEvents e).mem = s.mem := rfl
@[simp] theorem State.setEvents_bus (s : State) (e : Events) : (s.setEvents e).bus = s.bus := rfl
@[simp] theorem State.setEvents_boot (s : State) (e : Events) : (s.setEvents e).boot = s.boot := rfl
@[simp] theorem State.setEvents_part (s : State) (e : Events) : (s.setEvents e).part = s.part := rfl
@[simp] theorem State.setEvents_platform (s : State) (e : Events) : (s.setEvents e).platform = s.platform := rfl
@[simp] theorem State.setEvents_inputs (s : State) (e : Events) : (s.setEvents e).inputs = s.inputs := rfl
@[simp] theorem State.setEvents_hazards (s : State) (e : Events) : (s.setEvents e).hazards = s.hazards := rfl
@[simp] theorem State.setEvents_fresh (s : State) (e : Events) : (s.setEvents e).fresh = s.fresh := rfl

@[simp] theorem State.drained_gpr (s : State) : (s.drained).gpr = s.gpr := rfl
@[simp] theorem State.drained_hi (s : State) : (s.drained).hi = s.hi := rfl
@[simp] theorem State.drained_lo (s : State) : (s.drained).lo = s.lo := rfl
@[simp] theorem State.drained_pc (s : State) : (s.drained).pc = s.pc := rfl
@[simp] theorem State.drained_nextPc (s : State) : (s.drained).nextPc = s.nextPc := rfl
@[simp] theorem State.drained_inDelaySlot (s : State) : (s.drained).inDelaySlot = s.inDelaySlot := rfl
@[simp] theorem State.drained_llBit (s : State) : (s.drained).llBit = s.llBit := rfl
@[simp] theorem State.drained_llAddr (s : State) : (s.drained).llAddr = s.llAddr := rfl
@[simp] theorem State.drained_llSeen (s : State) : (s.drained).llSeen = s.llSeen := rfl
@[simp] theorem State.drained_standby (s : State) : (s.drained).standby = s.standby := rfl
@[simp] theorem State.drained_cp0 (s : State) : (s.drained).cp0 = s.cp0 := rfl
@[simp] theorem State.drained_fpu (s : State) : (s.drained).fpu = s.fpu := rfl
@[simp] theorem State.drained_icache (s : State) : (s.drained).icache = s.icache := rfl
@[simp] theorem State.drained_dcache (s : State) : (s.drained).dcache = s.dcache := rfl
@[simp] theorem State.drained_mem (s : State) : (s.drained).mem = s.mem := rfl
@[simp] theorem State.drained_events (s : State) : (s.drained).events = s.events := rfl
@[simp] theorem State.drained_boot (s : State) : (s.drained).boot = s.boot := rfl
@[simp] theorem State.drained_part (s : State) : (s.drained).part = s.part := rfl
@[simp] theorem State.drained_platform (s : State) : (s.drained).platform = s.platform := rfl
@[simp] theorem State.drained_inputs (s : State) : (s.drained).inputs = s.inputs := rfl
@[simp] theorem State.drained_hazards (s : State) : (s.drained).hazards = s.hazards := rfl
@[simp] theorem State.drained_fresh (s : State) : (s.drained).fresh = s.fresh := rfl

@[simp] theorem State.buffered_gpr (s : State) (ws : List BufferedWrite) : (s.buffered ws).gpr = s.gpr := rfl
@[simp] theorem State.buffered_hi (s : State) (ws : List BufferedWrite) : (s.buffered ws).hi = s.hi := rfl
@[simp] theorem State.buffered_lo (s : State) (ws : List BufferedWrite) : (s.buffered ws).lo = s.lo := rfl
@[simp] theorem State.buffered_pc (s : State) (ws : List BufferedWrite) : (s.buffered ws).pc = s.pc := rfl
@[simp] theorem State.buffered_nextPc (s : State) (ws : List BufferedWrite) : (s.buffered ws).nextPc = s.nextPc := rfl
@[simp] theorem State.buffered_inDelaySlot (s : State) (ws : List BufferedWrite) : (s.buffered ws).inDelaySlot = s.inDelaySlot := rfl
@[simp] theorem State.buffered_llBit (s : State) (ws : List BufferedWrite) : (s.buffered ws).llBit = s.llBit := rfl
@[simp] theorem State.buffered_llAddr (s : State) (ws : List BufferedWrite) : (s.buffered ws).llAddr = s.llAddr := rfl
@[simp] theorem State.buffered_llSeen (s : State) (ws : List BufferedWrite) : (s.buffered ws).llSeen = s.llSeen := rfl
@[simp] theorem State.buffered_standby (s : State) (ws : List BufferedWrite) : (s.buffered ws).standby = s.standby := rfl
@[simp] theorem State.buffered_cp0 (s : State) (ws : List BufferedWrite) : (s.buffered ws).cp0 = s.cp0 := rfl
@[simp] theorem State.buffered_fpu (s : State) (ws : List BufferedWrite) : (s.buffered ws).fpu = s.fpu := rfl
@[simp] theorem State.buffered_icache (s : State) (ws : List BufferedWrite) : (s.buffered ws).icache = s.icache := rfl
@[simp] theorem State.buffered_dcache (s : State) (ws : List BufferedWrite) : (s.buffered ws).dcache = s.dcache := rfl
@[simp] theorem State.buffered_mem (s : State) (ws : List BufferedWrite) : (s.buffered ws).mem = s.mem := rfl
@[simp] theorem State.buffered_events (s : State) (ws : List BufferedWrite) : (s.buffered ws).events = s.events := rfl
@[simp] theorem State.buffered_boot (s : State) (ws : List BufferedWrite) : (s.buffered ws).boot = s.boot := rfl
@[simp] theorem State.buffered_part (s : State) (ws : List BufferedWrite) : (s.buffered ws).part = s.part := rfl
@[simp] theorem State.buffered_platform (s : State) (ws : List BufferedWrite) : (s.buffered ws).platform = s.platform := rfl
@[simp] theorem State.buffered_inputs (s : State) (ws : List BufferedWrite) : (s.buffered ws).inputs = s.inputs := rfl
@[simp] theorem State.buffered_hazards (s : State) (ws : List BufferedWrite) : (s.buffered ws).hazards = s.hazards := rfl
@[simp] theorem State.buffered_fresh (s : State) (ws : List BufferedWrite) : (s.buffered ws).fresh = s.fresh := rfl

@[simp] theorem State.singleRead_gpr (s : State) : (s.singleRead).gpr = s.gpr := rfl
@[simp] theorem State.singleRead_hi (s : State) : (s.singleRead).hi = s.hi := rfl
@[simp] theorem State.singleRead_lo (s : State) : (s.singleRead).lo = s.lo := rfl
@[simp] theorem State.singleRead_pc (s : State) : (s.singleRead).pc = s.pc := rfl
@[simp] theorem State.singleRead_nextPc (s : State) : (s.singleRead).nextPc = s.nextPc := rfl
@[simp] theorem State.singleRead_inDelaySlot (s : State) : (s.singleRead).inDelaySlot = s.inDelaySlot := rfl
@[simp] theorem State.singleRead_llBit (s : State) : (s.singleRead).llBit = s.llBit := rfl
@[simp] theorem State.singleRead_llAddr (s : State) : (s.singleRead).llAddr = s.llAddr := rfl
@[simp] theorem State.singleRead_llSeen (s : State) : (s.singleRead).llSeen = s.llSeen := rfl
@[simp] theorem State.singleRead_standby (s : State) : (s.singleRead).standby = s.standby := rfl
@[simp] theorem State.singleRead_cp0 (s : State) : (s.singleRead).cp0 = s.cp0 := rfl
@[simp] theorem State.singleRead_fpu (s : State) : (s.singleRead).fpu = s.fpu := rfl
@[simp] theorem State.singleRead_icache (s : State) : (s.singleRead).icache = s.icache := rfl
@[simp] theorem State.singleRead_dcache (s : State) : (s.singleRead).dcache = s.dcache := rfl
@[simp] theorem State.singleRead_mem (s : State) : (s.singleRead).mem = s.mem := rfl
@[simp] theorem State.singleRead_events (s : State) : (s.singleRead).events = s.events := rfl
@[simp] theorem State.singleRead_boot (s : State) : (s.singleRead).boot = s.boot := rfl
@[simp] theorem State.singleRead_part (s : State) : (s.singleRead).part = s.part := rfl
@[simp] theorem State.singleRead_platform (s : State) : (s.singleRead).platform = s.platform := rfl
@[simp] theorem State.singleRead_inputs (s : State) : (s.singleRead).inputs = s.inputs := rfl
@[simp] theorem State.singleRead_hazards (s : State) : (s.singleRead).hazards = s.hazards := rfl

@[simp] theorem State.inTransit_gpr (s : State) (l : LineRef) : (s.inTransit l).gpr = s.gpr := rfl
@[simp] theorem State.inTransit_hi (s : State) (l : LineRef) : (s.inTransit l).hi = s.hi := rfl
@[simp] theorem State.inTransit_lo (s : State) (l : LineRef) : (s.inTransit l).lo = s.lo := rfl
@[simp] theorem State.inTransit_pc (s : State) (l : LineRef) : (s.inTransit l).pc = s.pc := rfl
@[simp] theorem State.inTransit_nextPc (s : State) (l : LineRef) : (s.inTransit l).nextPc = s.nextPc := rfl
@[simp] theorem State.inTransit_inDelaySlot (s : State) (l : LineRef) : (s.inTransit l).inDelaySlot = s.inDelaySlot := rfl
@[simp] theorem State.inTransit_llBit (s : State) (l : LineRef) : (s.inTransit l).llBit = s.llBit := rfl
@[simp] theorem State.inTransit_llAddr (s : State) (l : LineRef) : (s.inTransit l).llAddr = s.llAddr := rfl
@[simp] theorem State.inTransit_llSeen (s : State) (l : LineRef) : (s.inTransit l).llSeen = s.llSeen := rfl
@[simp] theorem State.inTransit_standby (s : State) (l : LineRef) : (s.inTransit l).standby = s.standby := rfl
@[simp] theorem State.inTransit_cp0 (s : State) (l : LineRef) : (s.inTransit l).cp0 = s.cp0 := rfl
@[simp] theorem State.inTransit_fpu (s : State) (l : LineRef) : (s.inTransit l).fpu = s.fpu := rfl
@[simp] theorem State.inTransit_icache (s : State) (l : LineRef) : (s.inTransit l).icache = s.icache := rfl
@[simp] theorem State.inTransit_dcache (s : State) (l : LineRef) : (s.inTransit l).dcache = s.dcache := rfl
@[simp] theorem State.inTransit_mem (s : State) (l : LineRef) : (s.inTransit l).mem = s.mem := rfl
@[simp] theorem State.inTransit_events (s : State) (l : LineRef) : (s.inTransit l).events = s.events := rfl
@[simp] theorem State.inTransit_boot (s : State) (l : LineRef) : (s.inTransit l).boot = s.boot := rfl
@[simp] theorem State.inTransit_part (s : State) (l : LineRef) : (s.inTransit l).part = s.part := rfl
@[simp] theorem State.inTransit_platform (s : State) (l : LineRef) : (s.inTransit l).platform = s.platform := rfl
@[simp] theorem State.inTransit_inputs (s : State) (l : LineRef) : (s.inTransit l).inputs = s.inputs := rfl
@[simp] theorem State.inTransit_hazards (s : State) (l : LineRef) : (s.inTransit l).hazards = s.hazards := rfl
@[simp] theorem State.inTransit_fresh (s : State) (l : LineRef) : (s.inTransit l).fresh = s.fresh := rfl

@[simp] theorem State.settled_gpr (s : State) : (s.settled).gpr = s.gpr := rfl
@[simp] theorem State.settled_hi (s : State) : (s.settled).hi = s.hi := rfl
@[simp] theorem State.settled_lo (s : State) : (s.settled).lo = s.lo := rfl
@[simp] theorem State.settled_pc (s : State) : (s.settled).pc = s.pc := rfl
@[simp] theorem State.settled_nextPc (s : State) : (s.settled).nextPc = s.nextPc := rfl
@[simp] theorem State.settled_inDelaySlot (s : State) : (s.settled).inDelaySlot = s.inDelaySlot := rfl
@[simp] theorem State.settled_llBit (s : State) : (s.settled).llBit = s.llBit := rfl
@[simp] theorem State.settled_llAddr (s : State) : (s.settled).llAddr = s.llAddr := rfl
@[simp] theorem State.settled_llSeen (s : State) : (s.settled).llSeen = s.llSeen := rfl
@[simp] theorem State.settled_standby (s : State) : (s.settled).standby = s.standby := rfl
@[simp] theorem State.settled_cp0 (s : State) : (s.settled).cp0 = s.cp0 := rfl
@[simp] theorem State.settled_fpu (s : State) : (s.settled).fpu = s.fpu := rfl
@[simp] theorem State.settled_icache (s : State) : (s.settled).icache = s.icache := rfl
@[simp] theorem State.settled_dcache (s : State) : (s.settled).dcache = s.dcache := rfl
@[simp] theorem State.settled_mem (s : State) : (s.settled).mem = s.mem := rfl
@[simp] theorem State.settled_events (s : State) : (s.settled).events = s.events := rfl
@[simp] theorem State.settled_boot (s : State) : (s.settled).boot = s.boot := rfl
@[simp] theorem State.settled_part (s : State) : (s.settled).part = s.part := rfl
@[simp] theorem State.settled_platform (s : State) : (s.settled).platform = s.platform := rfl
@[simp] theorem State.settled_inputs (s : State) : (s.settled).inputs = s.inputs := rfl
@[simp] theorem State.settled_hazards (s : State) : (s.settled).hazards = s.hazards := rfl
@[simp] theorem State.settled_fresh (s : State) : (s.settled).fresh = s.fresh := rfl

@[simp] theorem State.countOnce_gpr (s : State) : (s.countOnce).gpr = s.gpr := rfl
@[simp] theorem State.countOnce_hi (s : State) : (s.countOnce).hi = s.hi := rfl
@[simp] theorem State.countOnce_lo (s : State) : (s.countOnce).lo = s.lo := rfl
@[simp] theorem State.countOnce_pc (s : State) : (s.countOnce).pc = s.pc := rfl
@[simp] theorem State.countOnce_nextPc (s : State) : (s.countOnce).nextPc = s.nextPc := rfl
@[simp] theorem State.countOnce_inDelaySlot (s : State) : (s.countOnce).inDelaySlot = s.inDelaySlot := rfl
@[simp] theorem State.countOnce_llBit (s : State) : (s.countOnce).llBit = s.llBit := rfl
@[simp] theorem State.countOnce_llAddr (s : State) : (s.countOnce).llAddr = s.llAddr := rfl
@[simp] theorem State.countOnce_llSeen (s : State) : (s.countOnce).llSeen = s.llSeen := rfl
@[simp] theorem State.countOnce_standby (s : State) : (s.countOnce).standby = s.standby := rfl
@[simp] theorem State.countOnce_fpu (s : State) : (s.countOnce).fpu = s.fpu := rfl
@[simp] theorem State.countOnce_icache (s : State) : (s.countOnce).icache = s.icache := rfl
@[simp] theorem State.countOnce_dcache (s : State) : (s.countOnce).dcache = s.dcache := rfl
@[simp] theorem State.countOnce_mem (s : State) : (s.countOnce).mem = s.mem := rfl
@[simp] theorem State.countOnce_bus (s : State) : (s.countOnce).bus = s.bus := rfl
@[simp] theorem State.countOnce_boot (s : State) : (s.countOnce).boot = s.boot := rfl
@[simp] theorem State.countOnce_part (s : State) : (s.countOnce).part = s.part := rfl
@[simp] theorem State.countOnce_platform (s : State) : (s.countOnce).platform = s.platform := rfl
@[simp] theorem State.countOnce_inputs (s : State) : (s.countOnce).inputs = s.inputs := rfl
@[simp] theorem State.countOnce_hazards (s : State) : (s.countOnce).hazards = s.hazards := rfl
@[simp] theorem State.countOnce_fresh (s : State) : (s.countOnce).fresh = s.fresh := rfl

@[simp] theorem State.countTimes_gpr (s : State) (n : Nat) : (s.countTimes n).gpr = s.gpr := by
  induction n generalizing s with
  | zero => rfl
  | succ n ih => exact ih s.countOnce
@[simp] theorem State.countTimes_hi (s : State) (n : Nat) : (s.countTimes n).hi = s.hi := by
  induction n generalizing s with
  | zero => rfl
  | succ n ih => exact ih s.countOnce
@[simp] theorem State.countTimes_lo (s : State) (n : Nat) : (s.countTimes n).lo = s.lo := by
  induction n generalizing s with
  | zero => rfl
  | succ n ih => exact ih s.countOnce
@[simp] theorem State.countTimes_pc (s : State) (n : Nat) : (s.countTimes n).pc = s.pc := by
  induction n generalizing s with
  | zero => rfl
  | succ n ih => exact ih s.countOnce
@[simp] theorem State.countTimes_nextPc (s : State) (n : Nat) : (s.countTimes n).nextPc = s.nextPc := by
  induction n generalizing s with
  | zero => rfl
  | succ n ih => exact ih s.countOnce
@[simp] theorem State.countTimes_inDelaySlot (s : State) (n : Nat) : (s.countTimes n).inDelaySlot = s.inDelaySlot := by
  induction n generalizing s with
  | zero => rfl
  | succ n ih => exact ih s.countOnce
@[simp] theorem State.countTimes_llBit (s : State) (n : Nat) : (s.countTimes n).llBit = s.llBit := by
  induction n generalizing s with
  | zero => rfl
  | succ n ih => exact ih s.countOnce
@[simp] theorem State.countTimes_llAddr (s : State) (n : Nat) : (s.countTimes n).llAddr = s.llAddr := by
  induction n generalizing s with
  | zero => rfl
  | succ n ih => exact ih s.countOnce
@[simp] theorem State.countTimes_llSeen (s : State) (n : Nat) : (s.countTimes n).llSeen = s.llSeen := by
  induction n generalizing s with
  | zero => rfl
  | succ n ih => exact ih s.countOnce
@[simp] theorem State.countTimes_standby (s : State) (n : Nat) : (s.countTimes n).standby = s.standby := by
  induction n generalizing s with
  | zero => rfl
  | succ n ih => exact ih s.countOnce
@[simp] theorem State.countTimes_fpu (s : State) (n : Nat) : (s.countTimes n).fpu = s.fpu := by
  induction n generalizing s with
  | zero => rfl
  | succ n ih => exact ih s.countOnce
@[simp] theorem State.countTimes_icache (s : State) (n : Nat) : (s.countTimes n).icache = s.icache := by
  induction n generalizing s with
  | zero => rfl
  | succ n ih => exact ih s.countOnce
@[simp] theorem State.countTimes_dcache (s : State) (n : Nat) : (s.countTimes n).dcache = s.dcache := by
  induction n generalizing s with
  | zero => rfl
  | succ n ih => exact ih s.countOnce
@[simp] theorem State.countTimes_mem (s : State) (n : Nat) : (s.countTimes n).mem = s.mem := by
  induction n generalizing s with
  | zero => rfl
  | succ n ih => exact ih s.countOnce
@[simp] theorem State.countTimes_bus (s : State) (n : Nat) : (s.countTimes n).bus = s.bus := by
  induction n generalizing s with
  | zero => rfl
  | succ n ih => exact ih s.countOnce
@[simp] theorem State.countTimes_boot (s : State) (n : Nat) : (s.countTimes n).boot = s.boot := by
  induction n generalizing s with
  | zero => rfl
  | succ n ih => exact ih s.countOnce
@[simp] theorem State.countTimes_part (s : State) (n : Nat) : (s.countTimes n).part = s.part := by
  induction n generalizing s with
  | zero => rfl
  | succ n ih => exact ih s.countOnce
@[simp] theorem State.countTimes_platform (s : State) (n : Nat) : (s.countTimes n).platform = s.platform := by
  induction n generalizing s with
  | zero => rfl
  | succ n ih => exact ih s.countOnce
@[simp] theorem State.countTimes_inputs (s : State) (n : Nat) : (s.countTimes n).inputs = s.inputs := by
  induction n generalizing s with
  | zero => rfl
  | succ n ih => exact ih s.countOnce
@[simp] theorem State.countTimes_hazards (s : State) (n : Nat) : (s.countTimes n).hazards = s.hazards := by
  induction n generalizing s with
  | zero => rfl
  | succ n ih => exact ih s.countOnce
@[simp] theorem State.countTimes_fresh (s : State) (n : Nat) : (s.countTimes n).fresh = s.fresh := by
  induction n generalizing s with
  | zero => rfl
  | succ n ih => exact ih s.countOnce

@[simp] theorem State.tick_gpr (s : State) : (s.tick).gpr = s.gpr := by
  unfold State.tick; split <;> rfl
@[simp] theorem State.tick_hi (s : State) : (s.tick).hi = s.hi := by
  unfold State.tick; split <;> rfl
@[simp] theorem State.tick_lo (s : State) : (s.tick).lo = s.lo := by
  unfold State.tick; split <;> rfl
@[simp] theorem State.tick_pc (s : State) : (s.tick).pc = s.pc := by
  unfold State.tick; split <;> rfl
@[simp] theorem State.tick_nextPc (s : State) : (s.tick).nextPc = s.nextPc := by
  unfold State.tick; split <;> rfl
@[simp] theorem State.tick_inDelaySlot (s : State) : (s.tick).inDelaySlot = s.inDelaySlot := by
  unfold State.tick; split <;> rfl
@[simp] theorem State.tick_llBit (s : State) : (s.tick).llBit = s.llBit := by
  unfold State.tick; split <;> rfl
@[simp] theorem State.tick_llAddr (s : State) : (s.tick).llAddr = s.llAddr := by
  unfold State.tick; split <;> rfl
@[simp] theorem State.tick_llSeen (s : State) : (s.tick).llSeen = s.llSeen := by
  unfold State.tick; split <;> rfl
@[simp] theorem State.tick_standby (s : State) : (s.tick).standby = s.standby := by
  unfold State.tick; split <;> rfl
@[simp] theorem State.tick_fpu (s : State) : (s.tick).fpu = s.fpu := by
  unfold State.tick; split <;> rfl
@[simp] theorem State.tick_icache (s : State) : (s.tick).icache = s.icache := by
  unfold State.tick; split <;> rfl
@[simp] theorem State.tick_dcache (s : State) : (s.tick).dcache = s.dcache := by
  unfold State.tick; split <;> rfl
@[simp] theorem State.tick_mem (s : State) : (s.tick).mem = s.mem := by
  unfold State.tick; split <;> rfl
@[simp] theorem State.tick_bus (s : State) : (s.tick).bus = s.bus := by
  unfold State.tick; split <;> rfl
@[simp] theorem State.tick_boot (s : State) : (s.tick).boot = s.boot := by
  unfold State.tick; split <;> rfl
@[simp] theorem State.tick_part (s : State) : (s.tick).part = s.part := by
  unfold State.tick; split <;> rfl
@[simp] theorem State.tick_platform (s : State) : (s.tick).platform = s.platform := by
  unfold State.tick; split <;> rfl
@[simp] theorem State.tick_inputs (s : State) : (s.tick).inputs = s.inputs := by
  unfold State.tick; split <;> rfl
@[simp] theorem State.tick_hazards (s : State) : (s.tick).hazards = s.hazards := by
  unfold State.tick; split <;> rfl
@[simp] theorem State.tick_fresh (s : State) : (s.tick).fresh = s.fresh := by
  unfold State.tick; split <;> rfl

@[simp] theorem State.timed_gpr (s : State) (ticks : Option Nat) : (s.timed ticks).gpr = s.gpr := by
  cases ticks <;> simp [State.timed]
@[simp] theorem State.timed_hi (s : State) (ticks : Option Nat) : (s.timed ticks).hi = s.hi := by
  cases ticks <;> simp [State.timed]
@[simp] theorem State.timed_lo (s : State) (ticks : Option Nat) : (s.timed ticks).lo = s.lo := by
  cases ticks <;> simp [State.timed]
@[simp] theorem State.timed_pc (s : State) (ticks : Option Nat) : (s.timed ticks).pc = s.pc := by
  cases ticks <;> simp [State.timed]
@[simp] theorem State.timed_nextPc (s : State) (ticks : Option Nat) : (s.timed ticks).nextPc = s.nextPc := by
  cases ticks <;> simp [State.timed]
@[simp] theorem State.timed_inDelaySlot (s : State) (ticks : Option Nat) : (s.timed ticks).inDelaySlot = s.inDelaySlot := by
  cases ticks <;> simp [State.timed]
@[simp] theorem State.timed_llBit (s : State) (ticks : Option Nat) : (s.timed ticks).llBit = s.llBit := by
  cases ticks <;> simp [State.timed]
@[simp] theorem State.timed_llAddr (s : State) (ticks : Option Nat) : (s.timed ticks).llAddr = s.llAddr := by
  cases ticks <;> simp [State.timed]
@[simp] theorem State.timed_llSeen (s : State) (ticks : Option Nat) : (s.timed ticks).llSeen = s.llSeen := by
  cases ticks <;> simp [State.timed]
@[simp] theorem State.timed_standby (s : State) (ticks : Option Nat) : (s.timed ticks).standby = s.standby := by
  cases ticks <;> simp [State.timed]
@[simp] theorem State.timed_fpu (s : State) (ticks : Option Nat) : (s.timed ticks).fpu = s.fpu := by
  cases ticks <;> simp [State.timed]
@[simp] theorem State.timed_icache (s : State) (ticks : Option Nat) : (s.timed ticks).icache = s.icache := by
  cases ticks <;> simp [State.timed]
@[simp] theorem State.timed_dcache (s : State) (ticks : Option Nat) : (s.timed ticks).dcache = s.dcache := by
  cases ticks <;> simp [State.timed]
@[simp] theorem State.timed_mem (s : State) (ticks : Option Nat) : (s.timed ticks).mem = s.mem := by
  cases ticks <;> simp [State.timed]
@[simp] theorem State.timed_bus (s : State) (ticks : Option Nat) : (s.timed ticks).bus = s.bus := by
  cases ticks <;> simp [State.timed]
@[simp] theorem State.timed_boot (s : State) (ticks : Option Nat) : (s.timed ticks).boot = s.boot := by
  cases ticks <;> simp [State.timed]
@[simp] theorem State.timed_part (s : State) (ticks : Option Nat) : (s.timed ticks).part = s.part := by
  cases ticks <;> simp [State.timed]
@[simp] theorem State.timed_platform (s : State) (ticks : Option Nat) : (s.timed ticks).platform = s.platform := by
  cases ticks <;> simp [State.timed]
@[simp] theorem State.timed_inputs (s : State) (ticks : Option Nat) : (s.timed ticks).inputs = s.inputs := by
  cases ticks <;> simp [State.timed]
@[simp] theorem State.timed_hazards (s : State) (ticks : Option Nat) : (s.timed ticks).hazards = s.hazards := by
  cases ticks <;> simp [State.timed]
@[simp] theorem State.timed_fresh (s : State) (ticks : Option Nat) : (s.timed ticks).fresh = s.fresh := by
  cases ticks <;> simp [State.timed]

@[simp] theorem State.freeHiLo_gpr (s : State) : (s.freeHiLo).gpr = s.gpr := rfl
@[simp] theorem State.freeHiLo_pc (s : State) : (s.freeHiLo).pc = s.pc := rfl
@[simp] theorem State.freeHiLo_nextPc (s : State) : (s.freeHiLo).nextPc = s.nextPc := rfl
@[simp] theorem State.freeHiLo_inDelaySlot (s : State) : (s.freeHiLo).inDelaySlot = s.inDelaySlot := rfl
@[simp] theorem State.freeHiLo_llBit (s : State) : (s.freeHiLo).llBit = s.llBit := rfl
@[simp] theorem State.freeHiLo_llAddr (s : State) : (s.freeHiLo).llAddr = s.llAddr := rfl
@[simp] theorem State.freeHiLo_llSeen (s : State) : (s.freeHiLo).llSeen = s.llSeen := rfl
@[simp] theorem State.freeHiLo_standby (s : State) : (s.freeHiLo).standby = s.standby := rfl
@[simp] theorem State.freeHiLo_cp0 (s : State) : (s.freeHiLo).cp0 = s.cp0 := rfl
@[simp] theorem State.freeHiLo_fpu (s : State) : (s.freeHiLo).fpu = s.fpu := rfl
@[simp] theorem State.freeHiLo_icache (s : State) : (s.freeHiLo).icache = s.icache := rfl
@[simp] theorem State.freeHiLo_dcache (s : State) : (s.freeHiLo).dcache = s.dcache := rfl
@[simp] theorem State.freeHiLo_mem (s : State) : (s.freeHiLo).mem = s.mem := rfl
@[simp] theorem State.freeHiLo_bus (s : State) : (s.freeHiLo).bus = s.bus := rfl
@[simp] theorem State.freeHiLo_events (s : State) : (s.freeHiLo).events = s.events := rfl
@[simp] theorem State.freeHiLo_boot (s : State) : (s.freeHiLo).boot = s.boot := rfl
@[simp] theorem State.freeHiLo_part (s : State) : (s.freeHiLo).part = s.part := rfl
@[simp] theorem State.freeHiLo_platform (s : State) : (s.freeHiLo).platform = s.platform := rfl
@[simp] theorem State.freeHiLo_inputs (s : State) : (s.freeHiLo).inputs = s.inputs := rfl
@[simp] theorem State.freeHiLo_hazards (s : State) : (s.freeHiLo).hazards = s.hazards := rfl

/-! ## Registers read through the updates -/

@[simp] theorem State.setHi_reg (s : State) (v : DWord) (q : Reg) : (s.setHi v).reg q = s.reg q :=
  State.reg_congr (by simp) q
@[simp] theorem State.setLo_reg (s : State) (v : DWord) (q : Reg) : (s.setLo v).reg q = s.reg q :=
  State.reg_congr (by simp) q
@[simp] theorem State.setCp0_reg (s : State) (c : Cp0) (q : Reg) : (s.setCp0 c).reg q = s.reg q :=
  State.reg_congr (by simp) q
@[simp] theorem State.setStatus_reg (s : State) (t : Status) (q : Reg) : (s.setStatus t).reg q = s.reg q :=
  State.reg_congr (by simp) q
@[simp] theorem State.setCause_reg (s : State) (c : Cause) (q : Reg) : (s.setCause c).reg q = s.reg q :=
  State.reg_congr (by simp) q
@[simp] theorem State.setFgr_reg (s : State) (f : Reg) (v : Word) (q : Reg) : (s.setFgr f v).reg q = s.reg q :=
  State.reg_congr (by simp) q
@[simp] theorem State.setFcr31_reg (s : State) (c : Fcr31) (q : Reg) : (s.setFcr31 c).reg q = s.reg q :=
  State.reg_congr (by simp) q
@[simp] theorem State.drawn_reg (s : State) (q : Reg) : (s.drawn).reg q = s.reg q :=
  State.reg_congr (by simp) q
@[simp] theorem State.aged_reg (s : State) (q : Reg) : (s.aged).reg q = s.reg q :=
  State.reg_congr (by simp) q
@[simp] theorem State.advance_reg (s : State) (q : Reg) : (s.advance).reg q = s.reg q :=
  State.reg_congr (by simp) q
@[simp] theorem State.branchTo_reg (s : State) (t : DWord) (q : Reg) : (s.branchTo t).reg q = s.reg q :=
  State.reg_congr (by simp) q
@[simp] theorem State.fallThrough_reg (s : State) (q : Reg) : (s.fallThrough).reg q = s.reg q :=
  State.reg_congr (by simp) q
@[simp] theorem State.nullify_reg (s : State) (q : Reg) : (s.nullify).reg q = s.reg q :=
  State.reg_congr (by simp) q
@[simp] theorem State.takeException_reg (s : State) (e : Exc) (bad : Option DWord) (q : Reg) : (s.takeException e bad).reg q = s.reg q :=
  State.reg_congr (by simp) q
@[simp] theorem State.raised_reg (s : State) (e : Exc) (bad : Option DWord) (q : Reg) : (s.raised e bad).reg q = s.reg q :=
  State.reg_congr (by simp) q
@[simp] theorem State.takeCacheError_reg (s : State) (p : ParityError) (q : Reg) : (s.takeCacheError p).reg q = s.reg q :=
  State.reg_congr (by simp) q
@[simp] theorem State.returnFromException_reg (s : State) (q : Reg) : (s.returnFromException).reg q = s.reg q :=
  State.reg_congr (by simp) q
@[simp] theorem State.softReset_reg (s : State) (q : Reg) : (s.softReset).reg q = s.reg q :=
  State.reg_congr (by simp) q
@[simp] theorem State.takeNmi_reg (s : State) (q : Reg) : (s.takeNmi).reg q = s.reg q :=
  State.reg_congr (by simp) q
@[simp] theorem State.warmReset_reg (s : State) (q : Reg) : (s.warmReset).reg q = s.reg q :=
  State.reg_congr (by simp) q
@[simp] theorem State.setEvents_reg (s : State) (e : Events) (q : Reg) : (s.setEvents e).reg q = s.reg q :=
  State.reg_congr (by simp) q
@[simp] theorem State.drained_reg (s : State) (q : Reg) : (s.drained).reg q = s.reg q :=
  State.reg_congr (by simp) q
@[simp] theorem State.buffered_reg (s : State) (ws : List BufferedWrite) (q : Reg) : (s.buffered ws).reg q = s.reg q :=
  State.reg_congr (by simp) q
@[simp] theorem State.singleRead_reg (s : State) (q : Reg) : (s.singleRead).reg q = s.reg q :=
  State.reg_congr (by simp) q
@[simp] theorem State.inTransit_reg (s : State) (l : LineRef) (q : Reg) : (s.inTransit l).reg q = s.reg q :=
  State.reg_congr (by simp) q
@[simp] theorem State.settled_reg (s : State) (q : Reg) : (s.settled).reg q = s.reg q :=
  State.reg_congr (by simp) q
@[simp] theorem State.countOnce_reg (s : State) (q : Reg) : (s.countOnce).reg q = s.reg q :=
  State.reg_congr (by simp) q
@[simp] theorem State.countTimes_reg (s : State) (n : Nat) (q : Reg) : (s.countTimes n).reg q = s.reg q :=
  State.reg_congr (by simp) q
@[simp] theorem State.tick_reg (s : State) (q : Reg) : (s.tick).reg q = s.reg q :=
  State.reg_congr (by simp) q
@[simp] theorem State.timed_reg (s : State) (ticks : Option Nat) (q : Reg) : (s.timed ticks).reg q = s.reg q :=
  State.reg_congr (by simp) q
@[simp] theorem State.freeHiLo_reg (s : State) (q : Reg) : (s.freeHiLo).reg q = s.reg q :=
  State.reg_congr (by simp) q

end Sys2Proof.Machine
end

