-- ==== Sys2Proof/Laws/StateMore.lean ====
section
/-!
SUPPORT. Sys2Proof/Laws/StateMore.lean: the same for the updates of the cache, the multiplier, the FPU and the step.
-/

namespace Sys2Proof.Machine

@[simp] theorem State.setDLine_gpr (s : State) (w : Way) (i : BitVec 7) (l : DLine) : (s.setDLine w i l).gpr = s.gpr := rfl
@[simp] theorem State.setDLine_hi (s : State) (w : Way) (i : BitVec 7) (l : DLine) : (s.setDLine w i l).hi = s.hi := rfl
@[simp] theorem State.setDLine_lo (s : State) (w : Way) (i : BitVec 7) (l : DLine) : (s.setDLine w i l).lo = s.lo := rfl
@[simp] theorem State.setDLine_pc (s : State) (w : Way) (i : BitVec 7) (l : DLine) : (s.setDLine w i l).pc = s.pc := rfl
@[simp] theorem State.setDLine_nextPc (s : State) (w : Way) (i : BitVec 7) (l : DLine) : (s.setDLine w i l).nextPc = s.nextPc := rfl
@[simp] theorem State.setDLine_inDelaySlot (s : State) (w : Way) (i : BitVec 7) (l : DLine) : (s.setDLine w i l).inDelaySlot = s.inDelaySlot := rfl
@[simp] theorem State.setDLine_llAddr (s : State) (w : Way) (i : BitVec 7) (l : DLine) : (s.setDLine w i l).llAddr = s.llAddr := rfl
@[simp] theorem State.setDLine_llSeen (s : State) (w : Way) (i : BitVec 7) (l : DLine) : (s.setDLine w i l).llSeen = s.llSeen := rfl
@[simp] theorem State.setDLine_standby (s : State) (w : Way) (i : BitVec 7) (l : DLine) : (s.setDLine w i l).standby = s.standby := rfl
@[simp] theorem State.setDLine_cp0 (s : State) (w : Way) (i : BitVec 7) (l : DLine) : (s.setDLine w i l).cp0 = s.cp0 := rfl
@[simp] theorem State.setDLine_fpu (s : State) (w : Way) (i : BitVec 7) (l : DLine) : (s.setDLine w i l).fpu = s.fpu := rfl
@[simp] theorem State.setDLine_icache (s : State) (w : Way) (i : BitVec 7) (l : DLine) : (s.setDLine w i l).icache = s.icache := rfl
@[simp] theorem State.setDLine_mem (s : State) (w : Way) (i : BitVec 7) (l : DLine) : (s.setDLine w i l).mem = s.mem := rfl
@[simp] theorem State.setDLine_bus (s : State) (w : Way) (i : BitVec 7) (l : DLine) : (s.setDLine w i l).bus = s.bus := rfl
@[simp] theorem State.setDLine_events (s : State) (w : Way) (i : BitVec 7) (l : DLine) : (s.setDLine w i l).events = s.events := rfl
@[simp] theorem State.setDLine_boot (s : State) (w : Way) (i : BitVec 7) (l : DLine) : (s.setDLine w i l).boot = s.boot := rfl
@[simp] theorem State.setDLine_part (s : State) (w : Way) (i : BitVec 7) (l : DLine) : (s.setDLine w i l).part = s.part := rfl
@[simp] theorem State.setDLine_platform (s : State) (w : Way) (i : BitVec 7) (l : DLine) : (s.setDLine w i l).platform = s.platform := rfl
@[simp] theorem State.setDLine_inputs (s : State) (w : Way) (i : BitVec 7) (l : DLine) : (s.setDLine w i l).inputs = s.inputs := rfl
@[simp] theorem State.setDLine_hazards (s : State) (w : Way) (i : BitVec 7) (l : DLine) : (s.setDLine w i l).hazards = s.hazards := rfl
@[simp] theorem State.setDLine_fresh (s : State) (w : Way) (i : BitVec 7) (l : DLine) : (s.setDLine w i l).fresh = s.fresh := rfl

@[simp] theorem State.setDFifo_gpr (s : State) (w : Way) (i : BitVec 7) : (s.setDFifo w i).gpr = s.gpr := rfl
@[simp] theorem State.setDFifo_hi (s : State) (w : Way) (i : BitVec 7) : (s.setDFifo w i).hi = s.hi := rfl
@[simp] theorem State.setDFifo_lo (s : State) (w : Way) (i : BitVec 7) : (s.setDFifo w i).lo = s.lo := rfl
@[simp] theorem State.setDFifo_pc (s : State) (w : Way) (i : BitVec 7) : (s.setDFifo w i).pc = s.pc := rfl
@[simp] theorem State.setDFifo_nextPc (s : State) (w : Way) (i : BitVec 7) : (s.setDFifo w i).nextPc = s.nextPc := rfl
@[simp] theorem State.setDFifo_inDelaySlot (s : State) (w : Way) (i : BitVec 7) : (s.setDFifo w i).inDelaySlot = s.inDelaySlot := rfl
@[simp] theorem State.setDFifo_llBit (s : State) (w : Way) (i : BitVec 7) : (s.setDFifo w i).llBit = s.llBit := rfl
@[simp] theorem State.setDFifo_llAddr (s : State) (w : Way) (i : BitVec 7) : (s.setDFifo w i).llAddr = s.llAddr := rfl
@[simp] theorem State.setDFifo_llSeen (s : State) (w : Way) (i : BitVec 7) : (s.setDFifo w i).llSeen = s.llSeen := rfl
@[simp] theorem State.setDFifo_standby (s : State) (w : Way) (i : BitVec 7) : (s.setDFifo w i).standby = s.standby := rfl
@[simp] theorem State.setDFifo_cp0 (s : State) (w : Way) (i : BitVec 7) : (s.setDFifo w i).cp0 = s.cp0 := rfl
@[simp] theorem State.setDFifo_fpu (s : State) (w : Way) (i : BitVec 7) : (s.setDFifo w i).fpu = s.fpu := rfl
@[simp] theorem State.setDFifo_icache (s : State) (w : Way) (i : BitVec 7) : (s.setDFifo w i).icache = s.icache := rfl
@[simp] theorem State.setDFifo_mem (s : State) (w : Way) (i : BitVec 7) : (s.setDFifo w i).mem = s.mem := rfl
@[simp] theorem State.setDFifo_bus (s : State) (w : Way) (i : BitVec 7) : (s.setDFifo w i).bus = s.bus := rfl
@[simp] theorem State.setDFifo_events (s : State) (w : Way) (i : BitVec 7) : (s.setDFifo w i).events = s.events := rfl
@[simp] theorem State.setDFifo_boot (s : State) (w : Way) (i : BitVec 7) : (s.setDFifo w i).boot = s.boot := rfl
@[simp] theorem State.setDFifo_part (s : State) (w : Way) (i : BitVec 7) : (s.setDFifo w i).part = s.part := rfl
@[simp] theorem State.setDFifo_platform (s : State) (w : Way) (i : BitVec 7) : (s.setDFifo w i).platform = s.platform := rfl
@[simp] theorem State.setDFifo_inputs (s : State) (w : Way) (i : BitVec 7) : (s.setDFifo w i).inputs = s.inputs := rfl
@[simp] theorem State.setDFifo_hazards (s : State) (w : Way) (i : BitVec 7) : (s.setDFifo w i).hazards = s.hazards := rfl
@[simp] theorem State.setDFifo_fresh (s : State) (w : Way) (i : BitVec 7) : (s.setDFifo w i).fresh = s.fresh := rfl

@[simp] theorem State.setILine_gpr (s : State) (w : Way) (i : BitVec 7) (l : ILine) : (s.setILine w i l).gpr = s.gpr := rfl
@[simp] theorem State.setILine_hi (s : State) (w : Way) (i : BitVec 7) (l : ILine) : (s.setILine w i l).hi = s.hi := rfl
@[simp] theorem State.setILine_lo (s : State) (w : Way) (i : BitVec 7) (l : ILine) : (s.setILine w i l).lo = s.lo := rfl
@[simp] theorem State.setILine_pc (s : State) (w : Way) (i : BitVec 7) (l : ILine) : (s.setILine w i l).pc = s.pc := rfl
@[simp] theorem State.setILine_nextPc (s : State) (w : Way) (i : BitVec 7) (l : ILine) : (s.setILine w i l).nextPc = s.nextPc := rfl
@[simp] theorem State.setILine_inDelaySlot (s : State) (w : Way) (i : BitVec 7) (l : ILine) : (s.setILine w i l).inDelaySlot = s.inDelaySlot := rfl
@[simp] theorem State.setILine_llBit (s : State) (w : Way) (i : BitVec 7) (l : ILine) : (s.setILine w i l).llBit = s.llBit := rfl
@[simp] theorem State.setILine_llAddr (s : State) (w : Way) (i : BitVec 7) (l : ILine) : (s.setILine w i l).llAddr = s.llAddr := rfl
@[simp] theorem State.setILine_llSeen (s : State) (w : Way) (i : BitVec 7) (l : ILine) : (s.setILine w i l).llSeen = s.llSeen := rfl
@[simp] theorem State.setILine_standby (s : State) (w : Way) (i : BitVec 7) (l : ILine) : (s.setILine w i l).standby = s.standby := rfl
@[simp] theorem State.setILine_cp0 (s : State) (w : Way) (i : BitVec 7) (l : ILine) : (s.setILine w i l).cp0 = s.cp0 := rfl
@[simp] theorem State.setILine_fpu (s : State) (w : Way) (i : BitVec 7) (l : ILine) : (s.setILine w i l).fpu = s.fpu := rfl
@[simp] theorem State.setILine_dcache (s : State) (w : Way) (i : BitVec 7) (l : ILine) : (s.setILine w i l).dcache = s.dcache := rfl
@[simp] theorem State.setILine_mem (s : State) (w : Way) (i : BitVec 7) (l : ILine) : (s.setILine w i l).mem = s.mem := rfl
@[simp] theorem State.setILine_bus (s : State) (w : Way) (i : BitVec 7) (l : ILine) : (s.setILine w i l).bus = s.bus := rfl
@[simp] theorem State.setILine_events (s : State) (w : Way) (i : BitVec 7) (l : ILine) : (s.setILine w i l).events = s.events := rfl
@[simp] theorem State.setILine_boot (s : State) (w : Way) (i : BitVec 7) (l : ILine) : (s.setILine w i l).boot = s.boot := rfl
@[simp] theorem State.setILine_part (s : State) (w : Way) (i : BitVec 7) (l : ILine) : (s.setILine w i l).part = s.part := rfl
@[simp] theorem State.setILine_platform (s : State) (w : Way) (i : BitVec 7) (l : ILine) : (s.setILine w i l).platform = s.platform := rfl
@[simp] theorem State.setILine_inputs (s : State) (w : Way) (i : BitVec 7) (l : ILine) : (s.setILine w i l).inputs = s.inputs := rfl
@[simp] theorem State.setILine_hazards (s : State) (w : Way) (i : BitVec 7) (l : ILine) : (s.setILine w i l).hazards = s.hazards := rfl
@[simp] theorem State.setILine_fresh (s : State) (w : Way) (i : BitVec 7) (l : ILine) : (s.setILine w i l).fresh = s.fresh := rfl

@[simp] theorem State.setIFifo_gpr (s : State) (w : Way) (i : BitVec 7) : (s.setIFifo w i).gpr = s.gpr := rfl
@[simp] theorem State.setIFifo_hi (s : State) (w : Way) (i : BitVec 7) : (s.setIFifo w i).hi = s.hi := rfl
@[simp] theorem State.setIFifo_lo (s : State) (w : Way) (i : BitVec 7) : (s.setIFifo w i).lo = s.lo := rfl
@[simp] theorem State.setIFifo_pc (s : State) (w : Way) (i : BitVec 7) : (s.setIFifo w i).pc = s.pc := rfl
@[simp] theorem State.setIFifo_nextPc (s : State) (w : Way) (i : BitVec 7) : (s.setIFifo w i).nextPc = s.nextPc := rfl
@[simp] theorem State.setIFifo_inDelaySlot (s : State) (w : Way) (i : BitVec 7) : (s.setIFifo w i).inDelaySlot = s.inDelaySlot := rfl
@[simp] theorem State.setIFifo_llBit (s : State) (w : Way) (i : BitVec 7) : (s.setIFifo w i).llBit = s.llBit := rfl
@[simp] theorem State.setIFifo_llAddr (s : State) (w : Way) (i : BitVec 7) : (s.setIFifo w i).llAddr = s.llAddr := rfl
@[simp] theorem State.setIFifo_llSeen (s : State) (w : Way) (i : BitVec 7) : (s.setIFifo w i).llSeen = s.llSeen := rfl
@[simp] theorem State.setIFifo_standby (s : State) (w : Way) (i : BitVec 7) : (s.setIFifo w i).standby = s.standby := rfl
@[simp] theorem State.setIFifo_cp0 (s : State) (w : Way) (i : BitVec 7) : (s.setIFifo w i).cp0 = s.cp0 := rfl
@[simp] theorem State.setIFifo_fpu (s : State) (w : Way) (i : BitVec 7) : (s.setIFifo w i).fpu = s.fpu := rfl
@[simp] theorem State.setIFifo_dcache (s : State) (w : Way) (i : BitVec 7) : (s.setIFifo w i).dcache = s.dcache := rfl
@[simp] theorem State.setIFifo_mem (s : State) (w : Way) (i : BitVec 7) : (s.setIFifo w i).mem = s.mem := rfl
@[simp] theorem State.setIFifo_bus (s : State) (w : Way) (i : BitVec 7) : (s.setIFifo w i).bus = s.bus := rfl
@[simp] theorem State.setIFifo_events (s : State) (w : Way) (i : BitVec 7) : (s.setIFifo w i).events = s.events := rfl
@[simp] theorem State.setIFifo_boot (s : State) (w : Way) (i : BitVec 7) : (s.setIFifo w i).boot = s.boot := rfl
@[simp] theorem State.setIFifo_part (s : State) (w : Way) (i : BitVec 7) : (s.setIFifo w i).part = s.part := rfl
@[simp] theorem State.setIFifo_platform (s : State) (w : Way) (i : BitVec 7) : (s.setIFifo w i).platform = s.platform := rfl
@[simp] theorem State.setIFifo_inputs (s : State) (w : Way) (i : BitVec 7) : (s.setIFifo w i).inputs = s.inputs := rfl
@[simp] theorem State.setIFifo_hazards (s : State) (w : Way) (i : BitVec 7) : (s.setIFifo w i).hazards = s.hazards := rfl
@[simp] theorem State.setIFifo_fresh (s : State) (w : Way) (i : BitVec 7) : (s.setIFifo w i).fresh = s.fresh := rfl

@[simp] theorem State.writeLine_gpr (s : State) (base : Nat) (data : Vector Byte 32) : (s.writeLine base data).gpr = s.gpr := rfl
@[simp] theorem State.writeLine_hi (s : State) (base : Nat) (data : Vector Byte 32) : (s.writeLine base data).hi = s.hi := rfl
@[simp] theorem State.writeLine_lo (s : State) (base : Nat) (data : Vector Byte 32) : (s.writeLine base data).lo = s.lo := rfl
@[simp] theorem State.writeLine_pc (s : State) (base : Nat) (data : Vector Byte 32) : (s.writeLine base data).pc = s.pc := rfl
@[simp] theorem State.writeLine_nextPc (s : State) (base : Nat) (data : Vector Byte 32) : (s.writeLine base data).nextPc = s.nextPc := rfl
@[simp] theorem State.writeLine_inDelaySlot (s : State) (base : Nat) (data : Vector Byte 32) : (s.writeLine base data).inDelaySlot = s.inDelaySlot := rfl
@[simp] theorem State.writeLine_llBit (s : State) (base : Nat) (data : Vector Byte 32) : (s.writeLine base data).llBit = s.llBit := rfl
@[simp] theorem State.writeLine_llAddr (s : State) (base : Nat) (data : Vector Byte 32) : (s.writeLine base data).llAddr = s.llAddr := rfl
@[simp] theorem State.writeLine_llSeen (s : State) (base : Nat) (data : Vector Byte 32) : (s.writeLine base data).llSeen = s.llSeen := rfl
@[simp] theorem State.writeLine_standby (s : State) (base : Nat) (data : Vector Byte 32) : (s.writeLine base data).standby = s.standby := rfl
@[simp] theorem State.writeLine_cp0 (s : State) (base : Nat) (data : Vector Byte 32) : (s.writeLine base data).cp0 = s.cp0 := rfl
@[simp] theorem State.writeLine_fpu (s : State) (base : Nat) (data : Vector Byte 32) : (s.writeLine base data).fpu = s.fpu := rfl
@[simp] theorem State.writeLine_icache (s : State) (base : Nat) (data : Vector Byte 32) : (s.writeLine base data).icache = s.icache := rfl
@[simp] theorem State.writeLine_dcache (s : State) (base : Nat) (data : Vector Byte 32) : (s.writeLine base data).dcache = s.dcache := rfl
@[simp] theorem State.writeLine_events (s : State) (base : Nat) (data : Vector Byte 32) : (s.writeLine base data).events = s.events := rfl
@[simp] theorem State.writeLine_boot (s : State) (base : Nat) (data : Vector Byte 32) : (s.writeLine base data).boot = s.boot := rfl
@[simp] theorem State.writeLine_part (s : State) (base : Nat) (data : Vector Byte 32) : (s.writeLine base data).part = s.part := rfl
@[simp] theorem State.writeLine_platform (s : State) (base : Nat) (data : Vector Byte 32) : (s.writeLine base data).platform = s.platform := rfl
@[simp] theorem State.writeLine_inputs (s : State) (base : Nat) (data : Vector Byte 32) : (s.writeLine base data).inputs = s.inputs := rfl
@[simp] theorem State.writeLine_hazards (s : State) (base : Nat) (data : Vector Byte 32) : (s.writeLine base data).hazards = s.hazards := rfl
@[simp] theorem State.writeLine_fresh (s : State) (base : Nat) (data : Vector Byte 32) : (s.writeLine base data).fresh = s.fresh := rfl

@[simp] theorem State.writeBackLine_gpr (s : State) (i : BitVec 7) (l : DLine) : (s.writeBackLine i l).gpr = s.gpr := rfl
@[simp] theorem State.writeBackLine_hi (s : State) (i : BitVec 7) (l : DLine) : (s.writeBackLine i l).hi = s.hi := rfl
@[simp] theorem State.writeBackLine_lo (s : State) (i : BitVec 7) (l : DLine) : (s.writeBackLine i l).lo = s.lo := rfl
@[simp] theorem State.writeBackLine_pc (s : State) (i : BitVec 7) (l : DLine) : (s.writeBackLine i l).pc = s.pc := rfl
@[simp] theorem State.writeBackLine_nextPc (s : State) (i : BitVec 7) (l : DLine) : (s.writeBackLine i l).nextPc = s.nextPc := rfl
@[simp] theorem State.writeBackLine_inDelaySlot (s : State) (i : BitVec 7) (l : DLine) : (s.writeBackLine i l).inDelaySlot = s.inDelaySlot := rfl
@[simp] theorem State.writeBackLine_llBit (s : State) (i : BitVec 7) (l : DLine) : (s.writeBackLine i l).llBit = s.llBit := rfl
@[simp] theorem State.writeBackLine_llAddr (s : State) (i : BitVec 7) (l : DLine) : (s.writeBackLine i l).llAddr = s.llAddr := rfl
@[simp] theorem State.writeBackLine_llSeen (s : State) (i : BitVec 7) (l : DLine) : (s.writeBackLine i l).llSeen = s.llSeen := rfl
@[simp] theorem State.writeBackLine_standby (s : State) (i : BitVec 7) (l : DLine) : (s.writeBackLine i l).standby = s.standby := rfl
@[simp] theorem State.writeBackLine_cp0 (s : State) (i : BitVec 7) (l : DLine) : (s.writeBackLine i l).cp0 = s.cp0 := rfl
@[simp] theorem State.writeBackLine_fpu (s : State) (i : BitVec 7) (l : DLine) : (s.writeBackLine i l).fpu = s.fpu := rfl
@[simp] theorem State.writeBackLine_icache (s : State) (i : BitVec 7) (l : DLine) : (s.writeBackLine i l).icache = s.icache := rfl
@[simp] theorem State.writeBackLine_dcache (s : State) (i : BitVec 7) (l : DLine) : (s.writeBackLine i l).dcache = s.dcache := rfl
@[simp] theorem State.writeBackLine_events (s : State) (i : BitVec 7) (l : DLine) : (s.writeBackLine i l).events = s.events := rfl
@[simp] theorem State.writeBackLine_boot (s : State) (i : BitVec 7) (l : DLine) : (s.writeBackLine i l).boot = s.boot := rfl
@[simp] theorem State.writeBackLine_part (s : State) (i : BitVec 7) (l : DLine) : (s.writeBackLine i l).part = s.part := rfl
@[simp] theorem State.writeBackLine_platform (s : State) (i : BitVec 7) (l : DLine) : (s.writeBackLine i l).platform = s.platform := rfl
@[simp] theorem State.writeBackLine_inputs (s : State) (i : BitVec 7) (l : DLine) : (s.writeBackLine i l).inputs = s.inputs := rfl
@[simp] theorem State.writeBackLine_hazards (s : State) (i : BitVec 7) (l : DLine) : (s.writeBackLine i l).hazards = s.hazards := rfl
@[simp] theorem State.writeBackLine_fresh (s : State) (i : BitVec 7) (l : DLine) : (s.writeBackLine i l).fresh = s.fresh := rfl

@[simp] theorem State.evict_gpr (s : State) (w : Way) (i : BitVec 7) : (s.evict w i).gpr = s.gpr := by
  unfold State.evict; split <;> simp
@[simp] theorem State.evict_hi (s : State) (w : Way) (i : BitVec 7) : (s.evict w i).hi = s.hi := by
  unfold State.evict; split <;> simp
@[simp] theorem State.evict_lo (s : State) (w : Way) (i : BitVec 7) : (s.evict w i).lo = s.lo := by
  unfold State.evict; split <;> simp
@[simp] theorem State.evict_pc (s : State) (w : Way) (i : BitVec 7) : (s.evict w i).pc = s.pc := by
  unfold State.evict; split <;> simp
@[simp] theorem State.evict_nextPc (s : State) (w : Way) (i : BitVec 7) : (s.evict w i).nextPc = s.nextPc := by
  unfold State.evict; split <;> simp
@[simp] theorem State.evict_inDelaySlot (s : State) (w : Way) (i : BitVec 7) : (s.evict w i).inDelaySlot = s.inDelaySlot := by
  unfold State.evict; split <;> simp
@[simp] theorem State.evict_llBit (s : State) (w : Way) (i : BitVec 7) : (s.evict w i).llBit = s.llBit := by
  unfold State.evict; split <;> simp
@[simp] theorem State.evict_llAddr (s : State) (w : Way) (i : BitVec 7) : (s.evict w i).llAddr = s.llAddr := by
  unfold State.evict; split <;> simp
@[simp] theorem State.evict_llSeen (s : State) (w : Way) (i : BitVec 7) : (s.evict w i).llSeen = s.llSeen := by
  unfold State.evict; split <;> simp
@[simp] theorem State.evict_standby (s : State) (w : Way) (i : BitVec 7) : (s.evict w i).standby = s.standby := by
  unfold State.evict; split <;> simp
@[simp] theorem State.evict_cp0 (s : State) (w : Way) (i : BitVec 7) : (s.evict w i).cp0 = s.cp0 := by
  unfold State.evict; split <;> simp
@[simp] theorem State.evict_fpu (s : State) (w : Way) (i : BitVec 7) : (s.evict w i).fpu = s.fpu := by
  unfold State.evict; split <;> simp
@[simp] theorem State.evict_icache (s : State) (w : Way) (i : BitVec 7) : (s.evict w i).icache = s.icache := by
  unfold State.evict; split <;> simp
@[simp] theorem State.evict_dcache (s : State) (w : Way) (i : BitVec 7) : (s.evict w i).dcache = s.dcache := by
  unfold State.evict; split <;> simp
@[simp] theorem State.evict_events (s : State) (w : Way) (i : BitVec 7) : (s.evict w i).events = s.events := by
  unfold State.evict; split <;> simp
@[simp] theorem State.evict_boot (s : State) (w : Way) (i : BitVec 7) : (s.evict w i).boot = s.boot := by
  unfold State.evict; split <;> simp
@[simp] theorem State.evict_part (s : State) (w : Way) (i : BitVec 7) : (s.evict w i).part = s.part := by
  unfold State.evict; split <;> simp
@[simp] theorem State.evict_platform (s : State) (w : Way) (i : BitVec 7) : (s.evict w i).platform = s.platform := by
  unfold State.evict; split <;> simp
@[simp] theorem State.evict_inputs (s : State) (w : Way) (i : BitVec 7) : (s.evict w i).inputs = s.inputs := by
  unfold State.evict; split <;> simp
@[simp] theorem State.evict_hazards (s : State) (w : Way) (i : BitVec 7) : (s.evict w i).hazards = s.hazards := by
  unfold State.evict; split <;> simp
@[simp] theorem State.evict_fresh (s : State) (w : Way) (i : BitVec 7) : (s.evict w i).fresh = s.fresh := by
  unfold State.evict; split <;> simp

/-- What dRefillBegun leaves alone. -/
theorem State.dRefillBegun_frame (s : State) (w : Way) (i : BitVec 7) :
    (s.dRefillBegun w i).gpr = s.gpr ∧
    (s.dRefillBegun w i).hi = s.hi ∧
    (s.dRefillBegun w i).lo = s.lo ∧
    (s.dRefillBegun w i).pc = s.pc ∧
    (s.dRefillBegun w i).nextPc = s.nextPc ∧
    (s.dRefillBegun w i).inDelaySlot = s.inDelaySlot ∧
    (s.dRefillBegun w i).llBit = s.llBit ∧
    (s.dRefillBegun w i).llAddr = s.llAddr ∧
    (s.dRefillBegun w i).llSeen = s.llSeen ∧
    (s.dRefillBegun w i).standby = s.standby ∧
    (s.dRefillBegun w i).cp0 = s.cp0 ∧
    (s.dRefillBegun w i).fpu = s.fpu ∧
    (s.dRefillBegun w i).icache = s.icache ∧
    (s.dRefillBegun w i).dcache = s.dcache ∧
    (s.dRefillBegun w i).events = s.events ∧
    (s.dRefillBegun w i).boot = s.boot ∧
    (s.dRefillBegun w i).part = s.part ∧
    (s.dRefillBegun w i).platform = s.platform ∧
    (s.dRefillBegun w i).inputs = s.inputs ∧
    (s.dRefillBegun w i).hazards = s.hazards := by
  simp [State.dRefillBegun]

/-- What dRefill leaves alone. -/
theorem State.dRefill_frame (s : State) (pa : Word) :
    (s.dRefill pa).gpr = s.gpr ∧
    (s.dRefill pa).hi = s.hi ∧
    (s.dRefill pa).lo = s.lo ∧
    (s.dRefill pa).pc = s.pc ∧
    (s.dRefill pa).nextPc = s.nextPc ∧
    (s.dRefill pa).inDelaySlot = s.inDelaySlot ∧
    (s.dRefill pa).llAddr = s.llAddr ∧
    (s.dRefill pa).llSeen = s.llSeen ∧
    (s.dRefill pa).standby = s.standby ∧
    (s.dRefill pa).cp0 = s.cp0 ∧
    (s.dRefill pa).fpu = s.fpu ∧
    (s.dRefill pa).icache = s.icache ∧
    (s.dRefill pa).events = s.events ∧
    (s.dRefill pa).boot = s.boot ∧
    (s.dRefill pa).part = s.part ∧
    (s.dRefill pa).platform = s.platform ∧
    (s.dRefill pa).inputs = s.inputs ∧
    (s.dRefill pa).hazards = s.hazards := by
  simp [State.dRefill, State.dRefillBegun]

/-- What dRefillFailed leaves alone. -/
theorem State.dRefillFailed_frame (s : State) (pa : Word) :
    (s.dRefillFailed pa).gpr = s.gpr ∧
    (s.dRefillFailed pa).hi = s.hi ∧
    (s.dRefillFailed pa).lo = s.lo ∧
    (s.dRefillFailed pa).pc = s.pc ∧
    (s.dRefillFailed pa).nextPc = s.nextPc ∧
    (s.dRefillFailed pa).inDelaySlot = s.inDelaySlot ∧
    (s.dRefillFailed pa).llAddr = s.llAddr ∧
    (s.dRefillFailed pa).llSeen = s.llSeen ∧
    (s.dRefillFailed pa).standby = s.standby ∧
    (s.dRefillFailed pa).cp0 = s.cp0 ∧
    (s.dRefillFailed pa).fpu = s.fpu ∧
    (s.dRefillFailed pa).icache = s.icache ∧
    (s.dRefillFailed pa).events = s.events ∧
    (s.dRefillFailed pa).boot = s.boot ∧
    (s.dRefillFailed pa).part = s.part ∧
    (s.dRefillFailed pa).platform = s.platform ∧
    (s.dRefillFailed pa).inputs = s.inputs ∧
    (s.dRefillFailed pa).hazards = s.hazards := by
  simp [State.dRefillFailed, State.dRefillBegun]

/-- What iInstall leaves alone. -/
theorem State.iInstall_frame (s : State) (w : Way) (pa : Word) (l : ILine) :
    (s.iInstall w pa l).gpr = s.gpr ∧
    (s.iInstall w pa l).hi = s.hi ∧
    (s.iInstall w pa l).lo = s.lo ∧
    (s.iInstall w pa l).pc = s.pc ∧
    (s.iInstall w pa l).nextPc = s.nextPc ∧
    (s.iInstall w pa l).inDelaySlot = s.inDelaySlot ∧
    (s.iInstall w pa l).llBit = s.llBit ∧
    (s.iInstall w pa l).llAddr = s.llAddr ∧
    (s.iInstall w pa l).llSeen = s.llSeen ∧
    (s.iInstall w pa l).standby = s.standby ∧
    (s.iInstall w pa l).cp0 = s.cp0 ∧
    (s.iInstall w pa l).fpu = s.fpu ∧
    (s.iInstall w pa l).dcache = s.dcache ∧
    (s.iInstall w pa l).mem = s.mem ∧
    (s.iInstall w pa l).events = s.events ∧
    (s.iInstall w pa l).boot = s.boot ∧
    (s.iInstall w pa l).part = s.part ∧
    (s.iInstall w pa l).platform = s.platform ∧
    (s.iInstall w pa l).inputs = s.inputs ∧
    (s.iInstall w pa l).hazards = s.hazards := by
  simp [State.iInstall, State.iRefillBegun]

/-- What iFailed leaves alone. -/
theorem State.iFailed_frame (s : State) (w : Way) (pa : Word) :
    (s.iFailed w pa).gpr = s.gpr ∧
    (s.iFailed w pa).hi = s.hi ∧
    (s.iFailed w pa).lo = s.lo ∧
    (s.iFailed w pa).pc = s.pc ∧
    (s.iFailed w pa).nextPc = s.nextPc ∧
    (s.iFailed w pa).inDelaySlot = s.inDelaySlot ∧
    (s.iFailed w pa).llBit = s.llBit ∧
    (s.iFailed w pa).llAddr = s.llAddr ∧
    (s.iFailed w pa).llSeen = s.llSeen ∧
    (s.iFailed w pa).standby = s.standby ∧
    (s.iFailed w pa).cp0 = s.cp0 ∧
    (s.iFailed w pa).fpu = s.fpu ∧
    (s.iFailed w pa).dcache = s.dcache ∧
    (s.iFailed w pa).mem = s.mem ∧
    (s.iFailed w pa).events = s.events ∧
    (s.iFailed w pa).boot = s.boot ∧
    (s.iFailed w pa).part = s.part ∧
    (s.iFailed w pa).platform = s.platform ∧
    (s.iFailed w pa).inputs = s.inputs ∧
    (s.iFailed w pa).hazards = s.hazards := by
  simp [State.iFailed, State.iRefillBegun]

/-- What iRefill leaves alone. -/
theorem State.iRefill_frame (s : State) (pa : Word) :
    (s.iRefill pa).gpr = s.gpr ∧
    (s.iRefill pa).hi = s.hi ∧
    (s.iRefill pa).lo = s.lo ∧
    (s.iRefill pa).pc = s.pc ∧
    (s.iRefill pa).nextPc = s.nextPc ∧
    (s.iRefill pa).inDelaySlot = s.inDelaySlot ∧
    (s.iRefill pa).llBit = s.llBit ∧
    (s.iRefill pa).llAddr = s.llAddr ∧
    (s.iRefill pa).llSeen = s.llSeen ∧
    (s.iRefill pa).standby = s.standby ∧
    (s.iRefill pa).cp0 = s.cp0 ∧
    (s.iRefill pa).fpu = s.fpu ∧
    (s.iRefill pa).dcache = s.dcache ∧
    (s.iRefill pa).mem = s.mem ∧
    (s.iRefill pa).events = s.events ∧
    (s.iRefill pa).boot = s.boot ∧
    (s.iRefill pa).part = s.part ∧
    (s.iRefill pa).platform = s.platform ∧
    (s.iRefill pa).inputs = s.inputs ∧
    (s.iRefill pa).hazards = s.hazards := by
  simp [State.iRefill, State.iInstall, State.iRefillBegun]

/-- What iRefillFailed leaves alone. -/
theorem State.iRefillFailed_frame (s : State) (pa : Word) :
    (s.iRefillFailed pa).gpr = s.gpr ∧
    (s.iRefillFailed pa).hi = s.hi ∧
    (s.iRefillFailed pa).lo = s.lo ∧
    (s.iRefillFailed pa).pc = s.pc ∧
    (s.iRefillFailed pa).nextPc = s.nextPc ∧
    (s.iRefillFailed pa).inDelaySlot = s.inDelaySlot ∧
    (s.iRefillFailed pa).llBit = s.llBit ∧
    (s.iRefillFailed pa).llAddr = s.llAddr ∧
    (s.iRefillFailed pa).llSeen = s.llSeen ∧
    (s.iRefillFailed pa).standby = s.standby ∧
    (s.iRefillFailed pa).cp0 = s.cp0 ∧
    (s.iRefillFailed pa).fpu = s.fpu ∧
    (s.iRefillFailed pa).dcache = s.dcache ∧
    (s.iRefillFailed pa).mem = s.mem ∧
    (s.iRefillFailed pa).events = s.events ∧
    (s.iRefillFailed pa).boot = s.boot ∧
    (s.iRefillFailed pa).part = s.part ∧
    (s.iRefillFailed pa).platform = s.platform ∧
    (s.iRefillFailed pa).inputs = s.inputs ∧
    (s.iRefillFailed pa).hazards = s.hazards := by
  simp [State.iRefillFailed, State.iFailed, State.iRefillBegun]

@[simp] theorem State.postponeDwatch_gpr (s : State) : (s.postponeDwatch).gpr = s.gpr := rfl
@[simp] theorem State.postponeDwatch_hi (s : State) : (s.postponeDwatch).hi = s.hi := rfl
@[simp] theorem State.postponeDwatch_lo (s : State) : (s.postponeDwatch).lo = s.lo := rfl
@[simp] theorem State.postponeDwatch_pc (s : State) : (s.postponeDwatch).pc = s.pc := rfl
@[simp] theorem State.postponeDwatch_nextPc (s : State) : (s.postponeDwatch).nextPc = s.nextPc := rfl
@[simp] theorem State.postponeDwatch_inDelaySlot (s : State) : (s.postponeDwatch).inDelaySlot = s.inDelaySlot := rfl
@[simp] theorem State.postponeDwatch_llBit (s : State) : (s.postponeDwatch).llBit = s.llBit := rfl
@[simp] theorem State.postponeDwatch_llAddr (s : State) : (s.postponeDwatch).llAddr = s.llAddr := rfl
@[simp] theorem State.postponeDwatch_llSeen (s : State) : (s.postponeDwatch).llSeen = s.llSeen := rfl
@[simp] theorem State.postponeDwatch_standby (s : State) : (s.postponeDwatch).standby = s.standby := rfl
@[simp] theorem State.postponeDwatch_cp0 (s : State) : (s.postponeDwatch).cp0 = s.cp0 := rfl
@[simp] theorem State.postponeDwatch_fpu (s : State) : (s.postponeDwatch).fpu = s.fpu := rfl
@[simp] theorem State.postponeDwatch_icache (s : State) : (s.postponeDwatch).icache = s.icache := rfl
@[simp] theorem State.postponeDwatch_dcache (s : State) : (s.postponeDwatch).dcache = s.dcache := rfl
@[simp] theorem State.postponeDwatch_mem (s : State) : (s.postponeDwatch).mem = s.mem := rfl
@[simp] theorem State.postponeDwatch_bus (s : State) : (s.postponeDwatch).bus = s.bus := rfl
@[simp] theorem State.postponeDwatch_boot (s : State) : (s.postponeDwatch).boot = s.boot := rfl
@[simp] theorem State.postponeDwatch_part (s : State) : (s.postponeDwatch).part = s.part := rfl
@[simp] theorem State.postponeDwatch_platform (s : State) : (s.postponeDwatch).platform = s.platform := rfl
@[simp] theorem State.postponeDwatch_inputs (s : State) : (s.postponeDwatch).inputs = s.inputs := rfl
@[simp] theorem State.postponeDwatch_hazards (s : State) : (s.postponeDwatch).hazards = s.hazards := rfl
@[simp] theorem State.postponeDwatch_fresh (s : State) : (s.postponeDwatch).fresh = s.fresh := rfl

/-- What writeStore leaves alone. -/
theorem State.writeStore_frame (s : State) (va : DWord) (pa : Word) (alg : BitVec 3) (ws : List (Nat × Byte)) :
    (s.writeStore va pa alg ws).gpr = s.gpr ∧
    (s.writeStore va pa alg ws).hi = s.hi ∧
    (s.writeStore va pa alg ws).lo = s.lo ∧
    (s.writeStore va pa alg ws).pc = s.pc ∧
    (s.writeStore va pa alg ws).nextPc = s.nextPc ∧
    (s.writeStore va pa alg ws).inDelaySlot = s.inDelaySlot ∧
    (s.writeStore va pa alg ws).llAddr = s.llAddr ∧
    (s.writeStore va pa alg ws).llSeen = s.llSeen ∧
    (s.writeStore va pa alg ws).standby = s.standby ∧
    (s.writeStore va pa alg ws).cp0 = s.cp0 ∧
    (s.writeStore va pa alg ws).fpu = s.fpu ∧
    (s.writeStore va pa alg ws).icache = s.icache ∧
    (s.writeStore va pa alg ws).events = s.events ∧
    (s.writeStore va pa alg ws).boot = s.boot ∧
    (s.writeStore va pa alg ws).part = s.part ∧
    (s.writeStore va pa alg ws).platform = s.platform ∧
    (s.writeStore va pa alg ws).inputs = s.inputs ∧
    (s.writeStore va pa alg ws).hazards = s.hazards ∧
    (s.writeStore va pa alg ws).fresh = s.fresh := by
  unfold State.writeStore; (repeat' split) <;> simp

@[simp] theorem State.setCh_gpr (s : State) (hit : Bool) : (s.setCh hit).gpr = s.gpr := rfl
@[simp] theorem State.setCh_hi (s : State) (hit : Bool) : (s.setCh hit).hi = s.hi := rfl
@[simp] theorem State.setCh_lo (s : State) (hit : Bool) : (s.setCh hit).lo = s.lo := rfl
@[simp] theorem State.setCh_pc (s : State) (hit : Bool) : (s.setCh hit).pc = s.pc := rfl
@[simp] theorem State.setCh_nextPc (s : State) (hit : Bool) : (s.setCh hit).nextPc = s.nextPc := rfl
@[simp] theorem State.setCh_inDelaySlot (s : State) (hit : Bool) : (s.setCh hit).inDelaySlot = s.inDelaySlot := rfl
@[simp] theorem State.setCh_llBit (s : State) (hit : Bool) : (s.setCh hit).llBit = s.llBit := rfl
@[simp] theorem State.setCh_llAddr (s : State) (hit : Bool) : (s.setCh hit).llAddr = s.llAddr := rfl
@[simp] theorem State.setCh_llSeen (s : State) (hit : Bool) : (s.setCh hit).llSeen = s.llSeen := rfl
@[simp] theorem State.setCh_standby (s : State) (hit : Bool) : (s.setCh hit).standby = s.standby := rfl
@[simp] theorem State.setCh_fpu (s : State) (hit : Bool) : (s.setCh hit).fpu = s.fpu := rfl
@[simp] theorem State.setCh_icache (s : State) (hit : Bool) : (s.setCh hit).icache = s.icache := rfl
@[simp] theorem State.setCh_dcache (s : State) (hit : Bool) : (s.setCh hit).dcache = s.dcache := rfl
@[simp] theorem State.setCh_mem (s : State) (hit : Bool) : (s.setCh hit).mem = s.mem := rfl
@[simp] theorem State.setCh_bus (s : State) (hit : Bool) : (s.setCh hit).bus = s.bus := rfl
@[simp] theorem State.setCh_events (s : State) (hit : Bool) : (s.setCh hit).events = s.events := rfl
@[simp] theorem State.setCh_boot (s : State) (hit : Bool) : (s.setCh hit).boot = s.boot := rfl
@[simp] theorem State.setCh_part (s : State) (hit : Bool) : (s.setCh hit).part = s.part := rfl
@[simp] theorem State.setCh_platform (s : State) (hit : Bool) : (s.setCh hit).platform = s.platform := rfl
@[simp] theorem State.setCh_inputs (s : State) (hit : Bool) : (s.setCh hit).inputs = s.inputs := rfl
@[simp] theorem State.setCh_hazards (s : State) (hit : Bool) : (s.setCh hit).hazards = s.hazards := rfl
@[simp] theorem State.setCh_fresh (s : State) (hit : Bool) : (s.setCh hit).fresh = s.fresh := rfl

@[simp] theorem State.setTag_gpr (s : State) (t : TagLo) (ecc : BitVec 8) : (s.setTag t ecc).gpr = s.gpr := rfl
@[simp] theorem State.setTag_hi (s : State) (t : TagLo) (ecc : BitVec 8) : (s.setTag t ecc).hi = s.hi := rfl
@[simp] theorem State.setTag_lo (s : State) (t : TagLo) (ecc : BitVec 8) : (s.setTag t ecc).lo = s.lo := rfl
@[simp] theorem State.setTag_pc (s : State) (t : TagLo) (ecc : BitVec 8) : (s.setTag t ecc).pc = s.pc := rfl
@[simp] theorem State.setTag_nextPc (s : State) (t : TagLo) (ecc : BitVec 8) : (s.setTag t ecc).nextPc = s.nextPc := rfl
@[simp] theorem State.setTag_inDelaySlot (s : State) (t : TagLo) (ecc : BitVec 8) : (s.setTag t ecc).inDelaySlot = s.inDelaySlot := rfl
@[simp] theorem State.setTag_llBit (s : State) (t : TagLo) (ecc : BitVec 8) : (s.setTag t ecc).llBit = s.llBit := rfl
@[simp] theorem State.setTag_llAddr (s : State) (t : TagLo) (ecc : BitVec 8) : (s.setTag t ecc).llAddr = s.llAddr := rfl
@[simp] theorem State.setTag_llSeen (s : State) (t : TagLo) (ecc : BitVec 8) : (s.setTag t ecc).llSeen = s.llSeen := rfl
@[simp] theorem State.setTag_standby (s : State) (t : TagLo) (ecc : BitVec 8) : (s.setTag t ecc).standby = s.standby := rfl
@[simp] theorem State.setTag_fpu (s : State) (t : TagLo) (ecc : BitVec 8) : (s.setTag t ecc).fpu = s.fpu := rfl
@[simp] theorem State.setTag_icache (s : State) (t : TagLo) (ecc : BitVec 8) : (s.setTag t ecc).icache = s.icache := rfl
@[simp] theorem State.setTag_dcache (s : State) (t : TagLo) (ecc : BitVec 8) : (s.setTag t ecc).dcache = s.dcache := rfl
@[simp] theorem State.setTag_mem (s : State) (t : TagLo) (ecc : BitVec 8) : (s.setTag t ecc).mem = s.mem := rfl
@[simp] theorem State.setTag_bus (s : State) (t : TagLo) (ecc : BitVec 8) : (s.setTag t ecc).bus = s.bus := rfl
@[simp] theorem State.setTag_events (s : State) (t : TagLo) (ecc : BitVec 8) : (s.setTag t ecc).events = s.events := rfl
@[simp] theorem State.setTag_boot (s : State) (t : TagLo) (ecc : BitVec 8) : (s.setTag t ecc).boot = s.boot := rfl
@[simp] theorem State.setTag_part (s : State) (t : TagLo) (ecc : BitVec 8) : (s.setTag t ecc).part = s.part := rfl
@[simp] theorem State.setTag_platform (s : State) (t : TagLo) (ecc : BitVec 8) : (s.setTag t ecc).platform = s.platform := rfl
@[simp] theorem State.setTag_inputs (s : State) (t : TagLo) (ecc : BitVec 8) : (s.setTag t ecc).inputs = s.inputs := rfl
@[simp] theorem State.setTag_hazards (s : State) (t : TagLo) (ecc : BitVec 8) : (s.setTag t ecc).hazards = s.hazards := rfl
@[simp] theorem State.setTag_fresh (s : State) (t : TagLo) (ecc : BitVec 8) : (s.setTag t ecc).fresh = s.fresh := rfl
@[simp] theorem State.beforeHiLo_hi (s : State) : (s.beforeHiLo).hi = s.hi := by
  unfold State.beforeHiLo; split <;> simp
@[simp] theorem State.beforeHiLo_lo (s : State) : (s.beforeHiLo).lo = s.lo := by
  unfold State.beforeHiLo; split <;> simp
@[simp] theorem State.beforeHiLo_pc (s : State) : (s.beforeHiLo).pc = s.pc := by
  unfold State.beforeHiLo; split <;> simp
@[simp] theorem State.beforeHiLo_nextPc (s : State) : (s.beforeHiLo).nextPc = s.nextPc := by
  unfold State.beforeHiLo; split <;> simp
@[simp] theorem State.beforeHiLo_inDelaySlot (s : State) : (s.beforeHiLo).inDelaySlot = s.inDelaySlot := by
  unfold State.beforeHiLo; split <;> simp
@[simp] theorem State.beforeHiLo_llBit (s : State) : (s.beforeHiLo).llBit = s.llBit := by
  unfold State.beforeHiLo; split <;> simp
@[simp] theorem State.beforeHiLo_llAddr (s : State) : (s.beforeHiLo).llAddr = s.llAddr := by
  unfold State.beforeHiLo; split <;> simp
@[simp] theorem State.beforeHiLo_llSeen (s : State) : (s.beforeHiLo).llSeen = s.llSeen := by
  unfold State.beforeHiLo; split <;> simp
@[simp] theorem State.beforeHiLo_standby (s : State) : (s.beforeHiLo).standby = s.standby := by
  unfold State.beforeHiLo; split <;> simp
@[simp] theorem State.beforeHiLo_cp0 (s : State) : (s.beforeHiLo).cp0 = s.cp0 := by
  unfold State.beforeHiLo; split <;> simp
@[simp] theorem State.beforeHiLo_fpu (s : State) : (s.beforeHiLo).fpu = s.fpu := by
  unfold State.beforeHiLo; split <;> simp
@[simp] theorem State.beforeHiLo_icache (s : State) : (s.beforeHiLo).icache = s.icache := by
  unfold State.beforeHiLo; split <;> simp
@[simp] theorem State.beforeHiLo_dcache (s : State) : (s.beforeHiLo).dcache = s.dcache := by
  unfold State.beforeHiLo; split <;> simp
@[simp] theorem State.beforeHiLo_mem (s : State) : (s.beforeHiLo).mem = s.mem := by
  unfold State.beforeHiLo; split <;> simp
@[simp] theorem State.beforeHiLo_bus (s : State) : (s.beforeHiLo).bus = s.bus := by
  unfold State.beforeHiLo; split <;> simp
@[simp] theorem State.beforeHiLo_events (s : State) : (s.beforeHiLo).events = s.events := by
  unfold State.beforeHiLo; split <;> simp
@[simp] theorem State.beforeHiLo_boot (s : State) : (s.beforeHiLo).boot = s.boot := by
  unfold State.beforeHiLo; split <;> simp
@[simp] theorem State.beforeHiLo_part (s : State) : (s.beforeHiLo).part = s.part := by
  unfold State.beforeHiLo; split <;> simp
@[simp] theorem State.beforeHiLo_platform (s : State) : (s.beforeHiLo).platform = s.platform := by
  unfold State.beforeHiLo; split <;> simp
@[simp] theorem State.beforeHiLo_inputs (s : State) : (s.beforeHiLo).inputs = s.inputs := by
  unfold State.beforeHiLo; split <;> simp
@[simp] theorem State.beforeHiLo_hazards (s : State) : (s.beforeHiLo).hazards = s.hazards := by
  unfold State.beforeHiLo; split <;> simp

@[simp] theorem State.fpCommit_gpr (s : State) (c : FpCause) : (s.fpCommit c).gpr = s.gpr := rfl
@[simp] theorem State.fpCommit_hi (s : State) (c : FpCause) : (s.fpCommit c).hi = s.hi := rfl
@[simp] theorem State.fpCommit_lo (s : State) (c : FpCause) : (s.fpCommit c).lo = s.lo := rfl
@[simp] theorem State.fpCommit_pc (s : State) (c : FpCause) : (s.fpCommit c).pc = s.pc := rfl
@[simp] theorem State.fpCommit_nextPc (s : State) (c : FpCause) : (s.fpCommit c).nextPc = s.nextPc := rfl
@[simp] theorem State.fpCommit_inDelaySlot (s : State) (c : FpCause) : (s.fpCommit c).inDelaySlot = s.inDelaySlot := rfl
@[simp] theorem State.fpCommit_llBit (s : State) (c : FpCause) : (s.fpCommit c).llBit = s.llBit := rfl
@[simp] theorem State.fpCommit_llAddr (s : State) (c : FpCause) : (s.fpCommit c).llAddr = s.llAddr := rfl
@[simp] theorem State.fpCommit_llSeen (s : State) (c : FpCause) : (s.fpCommit c).llSeen = s.llSeen := rfl
@[simp] theorem State.fpCommit_standby (s : State) (c : FpCause) : (s.fpCommit c).standby = s.standby := rfl
@[simp] theorem State.fpCommit_cp0 (s : State) (c : FpCause) : (s.fpCommit c).cp0 = s.cp0 := rfl
@[simp] theorem State.fpCommit_icache (s : State) (c : FpCause) : (s.fpCommit c).icache = s.icache := rfl
@[simp] theorem State.fpCommit_dcache (s : State) (c : FpCause) : (s.fpCommit c).dcache = s.dcache := rfl
@[simp] theorem State.fpCommit_mem (s : State) (c : FpCause) : (s.fpCommit c).mem = s.mem := rfl
@[simp] theorem State.fpCommit_bus (s : State) (c : FpCause) : (s.fpCommit c).bus = s.bus := rfl
@[simp] theorem State.fpCommit_events (s : State) (c : FpCause) : (s.fpCommit c).events = s.events := rfl
@[simp] theorem State.fpCommit_boot (s : State) (c : FpCause) : (s.fpCommit c).boot = s.boot := rfl
@[simp] theorem State.fpCommit_part (s : State) (c : FpCause) : (s.fpCommit c).part = s.part := rfl
@[simp] theorem State.fpCommit_platform (s : State) (c : FpCause) : (s.fpCommit c).platform = s.platform := rfl
@[simp] theorem State.fpCommit_inputs (s : State) (c : FpCause) : (s.fpCommit c).inputs = s.inputs := rfl
@[simp] theorem State.fpCommit_hazards (s : State) (c : FpCause) : (s.fpCommit c).hazards = s.hazards := rfl
@[simp] theorem State.fpCommit_fresh (s : State) (c : FpCause) : (s.fpCommit c).fresh = s.fresh := rfl

/-- What fpCompared leaves alone. -/
theorem State.fpCompared_frame (s : State) (cond : BitVec 4) (a : Word) (b : Word) :
    (s.fpCompared cond a b).gpr = s.gpr ∧
    (s.fpCompared cond a b).hi = s.hi ∧
    (s.fpCompared cond a b).lo = s.lo ∧
    (s.fpCompared cond a b).llBit = s.llBit ∧
    (s.fpCompared cond a b).llAddr = s.llAddr ∧
    (s.fpCompared cond a b).llSeen = s.llSeen ∧
    (s.fpCompared cond a b).standby = s.standby ∧
    (s.fpCompared cond a b).cp0 = s.cp0 ∧
    (s.fpCompared cond a b).icache = s.icache ∧
    (s.fpCompared cond a b).dcache = s.dcache ∧
    (s.fpCompared cond a b).mem = s.mem ∧
    (s.fpCompared cond a b).bus = s.bus ∧
    (s.fpCompared cond a b).events = s.events ∧
    (s.fpCompared cond a b).boot = s.boot ∧
    (s.fpCompared cond a b).part = s.part ∧
    (s.fpCompared cond a b).platform = s.platform ∧
    (s.fpCompared cond a b).inputs = s.inputs ∧
    (s.fpCompared cond a b).fresh = s.fresh := by
  simp [State.fpCompared]

@[simp] theorem State.wroteFcr31_gpr (s : State) (new : Fcr31) : (s.wroteFcr31 new).gpr = s.gpr := rfl
@[simp] theorem State.wroteFcr31_hi (s : State) (new : Fcr31) : (s.wroteFcr31 new).hi = s.hi := rfl
@[simp] theorem State.wroteFcr31_lo (s : State) (new : Fcr31) : (s.wroteFcr31 new).lo = s.lo := rfl
@[simp] theorem State.wroteFcr31_llBit (s : State) (new : Fcr31) : (s.wroteFcr31 new).llBit = s.llBit := rfl
@[simp] theorem State.wroteFcr31_llAddr (s : State) (new : Fcr31) : (s.wroteFcr31 new).llAddr = s.llAddr := rfl
@[simp] theorem State.wroteFcr31_llSeen (s : State) (new : Fcr31) : (s.wroteFcr31 new).llSeen = s.llSeen := rfl
@[simp] theorem State.wroteFcr31_standby (s : State) (new : Fcr31) : (s.wroteFcr31 new).standby = s.standby := rfl
@[simp] theorem State.wroteFcr31_cp0 (s : State) (new : Fcr31) : (s.wroteFcr31 new).cp0 = s.cp0 := rfl
@[simp] theorem State.wroteFcr31_icache (s : State) (new : Fcr31) : (s.wroteFcr31 new).icache = s.icache := rfl
@[simp] theorem State.wroteFcr31_dcache (s : State) (new : Fcr31) : (s.wroteFcr31 new).dcache = s.dcache := rfl
@[simp] theorem State.wroteFcr31_mem (s : State) (new : Fcr31) : (s.wroteFcr31 new).mem = s.mem := rfl
@[simp] theorem State.wroteFcr31_bus (s : State) (new : Fcr31) : (s.wroteFcr31 new).bus = s.bus := rfl
@[simp] theorem State.wroteFcr31_events (s : State) (new : Fcr31) : (s.wroteFcr31 new).events = s.events := rfl
@[simp] theorem State.wroteFcr31_boot (s : State) (new : Fcr31) : (s.wroteFcr31 new).boot = s.boot := rfl
@[simp] theorem State.wroteFcr31_part (s : State) (new : Fcr31) : (s.wroteFcr31 new).part = s.part := rfl
@[simp] theorem State.wroteFcr31_platform (s : State) (new : Fcr31) : (s.wroteFcr31 new).platform = s.platform := rfl
@[simp] theorem State.wroteFcr31_inputs (s : State) (new : Fcr31) : (s.wroteFcr31 new).inputs = s.inputs := rfl
@[simp] theorem State.wroteFcr31_fresh (s : State) (new : Fcr31) : (s.wroteFcr31 new).fresh = s.fresh := rfl

@[simp] theorem State.trappedFcr31_gpr (s : State) (new : Fcr31) : (s.trappedFcr31 new).gpr = s.gpr := rfl
@[simp] theorem State.trappedFcr31_hi (s : State) (new : Fcr31) : (s.trappedFcr31 new).hi = s.hi := rfl
@[simp] theorem State.trappedFcr31_lo (s : State) (new : Fcr31) : (s.trappedFcr31 new).lo = s.lo := rfl
@[simp] theorem State.trappedFcr31_llBit (s : State) (new : Fcr31) : (s.trappedFcr31 new).llBit = s.llBit := rfl
@[simp] theorem State.trappedFcr31_llAddr (s : State) (new : Fcr31) : (s.trappedFcr31 new).llAddr = s.llAddr := rfl
@[simp] theorem State.trappedFcr31_llSeen (s : State) (new : Fcr31) : (s.trappedFcr31 new).llSeen = s.llSeen := rfl
@[simp] theorem State.trappedFcr31_standby (s : State) (new : Fcr31) : (s.trappedFcr31 new).standby = s.standby := rfl
@[simp] theorem State.trappedFcr31_icache (s : State) (new : Fcr31) : (s.trappedFcr31 new).icache = s.icache := rfl
@[simp] theorem State.trappedFcr31_dcache (s : State) (new : Fcr31) : (s.trappedFcr31 new).dcache = s.dcache := rfl
@[simp] theorem State.trappedFcr31_mem (s : State) (new : Fcr31) : (s.trappedFcr31 new).mem = s.mem := rfl
@[simp] theorem State.trappedFcr31_bus (s : State) (new : Fcr31) : (s.trappedFcr31 new).bus = s.bus := rfl
@[simp] theorem State.trappedFcr31_events (s : State) (new : Fcr31) : (s.trappedFcr31 new).events = s.events := rfl
@[simp] theorem State.trappedFcr31_boot (s : State) (new : Fcr31) : (s.trappedFcr31 new).boot = s.boot := rfl
@[simp] theorem State.trappedFcr31_part (s : State) (new : Fcr31) : (s.trappedFcr31 new).part = s.part := rfl
@[simp] theorem State.trappedFcr31_platform (s : State) (new : Fcr31) : (s.trappedFcr31 new).platform = s.platform := rfl
@[simp] theorem State.trappedFcr31_inputs (s : State) (new : Fcr31) : (s.trappedFcr31 new).inputs = s.inputs := rfl

@[simp] theorem State.loseByte_gpr (s : State) (x : Word) : (s.loseByte x).gpr = s.gpr := rfl
@[simp] theorem State.loseByte_hi (s : State) (x : Word) : (s.loseByte x).hi = s.hi := rfl
@[simp] theorem State.loseByte_lo (s : State) (x : Word) : (s.loseByte x).lo = s.lo := rfl
@[simp] theorem State.loseByte_pc (s : State) (x : Word) : (s.loseByte x).pc = s.pc := rfl
@[simp] theorem State.loseByte_nextPc (s : State) (x : Word) : (s.loseByte x).nextPc = s.nextPc := rfl
@[simp] theorem State.loseByte_inDelaySlot (s : State) (x : Word) : (s.loseByte x).inDelaySlot = s.inDelaySlot := rfl
@[simp] theorem State.loseByte_llBit (s : State) (x : Word) : (s.loseByte x).llBit = s.llBit := rfl
@[simp] theorem State.loseByte_llAddr (s : State) (x : Word) : (s.loseByte x).llAddr = s.llAddr := rfl
@[simp] theorem State.loseByte_llSeen (s : State) (x : Word) : (s.loseByte x).llSeen = s.llSeen := rfl
@[simp] theorem State.loseByte_standby (s : State) (x : Word) : (s.loseByte x).standby = s.standby := rfl
@[simp] theorem State.loseByte_cp0 (s : State) (x : Word) : (s.loseByte x).cp0 = s.cp0 := rfl
@[simp] theorem State.loseByte_fpu (s : State) (x : Word) : (s.loseByte x).fpu = s.fpu := rfl
@[simp] theorem State.loseByte_icache (s : State) (x : Word) : (s.loseByte x).icache = s.icache := rfl
@[simp] theorem State.loseByte_dcache (s : State) (x : Word) : (s.loseByte x).dcache = s.dcache := rfl
@[simp] theorem State.loseByte_bus (s : State) (x : Word) : (s.loseByte x).bus = s.bus := rfl
@[simp] theorem State.loseByte_events (s : State) (x : Word) : (s.loseByte x).events = s.events := rfl
@[simp] theorem State.loseByte_boot (s : State) (x : Word) : (s.loseByte x).boot = s.boot := rfl
@[simp] theorem State.loseByte_part (s : State) (x : Word) : (s.loseByte x).part = s.part := rfl
@[simp] theorem State.loseByte_platform (s : State) (x : Word) : (s.loseByte x).platform = s.platform := rfl
@[simp] theorem State.loseByte_inputs (s : State) (x : Word) : (s.loseByte x).inputs = s.inputs := rfl
@[simp] theorem State.loseByte_hazards (s : State) (x : Word) : (s.loseByte x).hazards = s.hazards := rfl

@[simp] theorem State.loseLine_gpr (s : State) (l : LineRef) : (s.loseLine l).gpr = s.gpr := by
  unfold State.loseLine; (repeat' split) <;> simp
@[simp] theorem State.loseLine_hi (s : State) (l : LineRef) : (s.loseLine l).hi = s.hi := by
  unfold State.loseLine; (repeat' split) <;> simp
@[simp] theorem State.loseLine_lo (s : State) (l : LineRef) : (s.loseLine l).lo = s.lo := by
  unfold State.loseLine; (repeat' split) <;> simp
@[simp] theorem State.loseLine_pc (s : State) (l : LineRef) : (s.loseLine l).pc = s.pc := by
  unfold State.loseLine; (repeat' split) <;> simp
@[simp] theorem State.loseLine_nextPc (s : State) (l : LineRef) : (s.loseLine l).nextPc = s.nextPc := by
  unfold State.loseLine; (repeat' split) <;> simp
@[simp] theorem State.loseLine_inDelaySlot (s : State) (l : LineRef) : (s.loseLine l).inDelaySlot = s.inDelaySlot := by
  unfold State.loseLine; (repeat' split) <;> simp
@[simp] theorem State.loseLine_llAddr (s : State) (l : LineRef) : (s.loseLine l).llAddr = s.llAddr := by
  unfold State.loseLine; (repeat' split) <;> simp
@[simp] theorem State.loseLine_llSeen (s : State) (l : LineRef) : (s.loseLine l).llSeen = s.llSeen := by
  unfold State.loseLine; (repeat' split) <;> simp
@[simp] theorem State.loseLine_standby (s : State) (l : LineRef) : (s.loseLine l).standby = s.standby := by
  unfold State.loseLine; (repeat' split) <;> simp
@[simp] theorem State.loseLine_cp0 (s : State) (l : LineRef) : (s.loseLine l).cp0 = s.cp0 := by
  unfold State.loseLine; (repeat' split) <;> simp
@[simp] theorem State.loseLine_fpu (s : State) (l : LineRef) : (s.loseLine l).fpu = s.fpu := by
  unfold State.loseLine; (repeat' split) <;> simp
@[simp] theorem State.loseLine_mem (s : State) (l : LineRef) : (s.loseLine l).mem = s.mem := by
  unfold State.loseLine; (repeat' split) <;> simp
@[simp] theorem State.loseLine_bus (s : State) (l : LineRef) : (s.loseLine l).bus = s.bus := by
  unfold State.loseLine; (repeat' split) <;> simp
@[simp] theorem State.loseLine_events (s : State) (l : LineRef) : (s.loseLine l).events = s.events := by
  unfold State.loseLine; (repeat' split) <;> simp
@[simp] theorem State.loseLine_boot (s : State) (l : LineRef) : (s.loseLine l).boot = s.boot := by
  unfold State.loseLine; (repeat' split) <;> simp
@[simp] theorem State.loseLine_part (s : State) (l : LineRef) : (s.loseLine l).part = s.part := by
  unfold State.loseLine; (repeat' split) <;> simp
@[simp] theorem State.loseLine_platform (s : State) (l : LineRef) : (s.loseLine l).platform = s.platform := by
  unfold State.loseLine; (repeat' split) <;> simp
@[simp] theorem State.loseLine_inputs (s : State) (l : LineRef) : (s.loseLine l).inputs = s.inputs := by
  unfold State.loseLine; (repeat' split) <;> simp
@[simp] theorem State.loseLine_hazards (s : State) (l : LineRef) : (s.loseLine l).hazards = s.hazards := by
  unfold State.loseLine; (repeat' split) <;> simp

@[simp] theorem State.withBusOf_gpr (s : State) (t : State) : (s.withBusOf t).gpr = s.gpr := rfl
@[simp] theorem State.withBusOf_hi (s : State) (t : State) : (s.withBusOf t).hi = s.hi := rfl
@[simp] theorem State.withBusOf_lo (s : State) (t : State) : (s.withBusOf t).lo = s.lo := rfl
@[simp] theorem State.withBusOf_pc (s : State) (t : State) : (s.withBusOf t).pc = s.pc := rfl
@[simp] theorem State.withBusOf_nextPc (s : State) (t : State) : (s.withBusOf t).nextPc = s.nextPc := rfl
@[simp] theorem State.withBusOf_inDelaySlot (s : State) (t : State) : (s.withBusOf t).inDelaySlot = s.inDelaySlot := rfl
@[simp] theorem State.withBusOf_llBit (s : State) (t : State) : (s.withBusOf t).llBit = s.llBit := rfl
@[simp] theorem State.withBusOf_llAddr (s : State) (t : State) : (s.withBusOf t).llAddr = s.llAddr := rfl
@[simp] theorem State.withBusOf_llSeen (s : State) (t : State) : (s.withBusOf t).llSeen = s.llSeen := rfl
@[simp] theorem State.withBusOf_standby (s : State) (t : State) : (s.withBusOf t).standby = s.standby := rfl
@[simp] theorem State.withBusOf_cp0 (s : State) (t : State) : (s.withBusOf t).cp0 = s.cp0 := rfl
@[simp] theorem State.withBusOf_fpu (s : State) (t : State) : (s.withBusOf t).fpu = s.fpu := rfl
@[simp] theorem State.withBusOf_icache (s : State) (t : State) : (s.withBusOf t).icache = s.icache := rfl
@[simp] theorem State.withBusOf_dcache (s : State) (t : State) : (s.withBusOf t).dcache = s.dcache := rfl
@[simp] theorem State.withBusOf_mem (s : State) (t : State) : (s.withBusOf t).mem = s.mem := rfl
@[simp] theorem State.withBusOf_events (s : State) (t : State) : (s.withBusOf t).events = s.events := rfl
@[simp] theorem State.withBusOf_boot (s : State) (t : State) : (s.withBusOf t).boot = s.boot := rfl
@[simp] theorem State.withBusOf_part (s : State) (t : State) : (s.withBusOf t).part = s.part := rfl
@[simp] theorem State.withBusOf_platform (s : State) (t : State) : (s.withBusOf t).platform = s.platform := rfl
@[simp] theorem State.withBusOf_inputs (s : State) (t : State) : (s.withBusOf t).inputs = s.inputs := rfl
@[simp] theorem State.withBusOf_hazards (s : State) (t : State) : (s.withBusOf t).hazards = s.hazards := rfl
@[simp] theorem State.withBusOf_fresh (s : State) (t : State) : (s.withBusOf t).fresh = s.fresh := rfl

@[simp] theorem State.answering_gpr (s : State) : (s.answering).gpr = s.gpr := rfl
@[simp] theorem State.answering_hi (s : State) : (s.answering).hi = s.hi := rfl
@[simp] theorem State.answering_lo (s : State) : (s.answering).lo = s.lo := rfl
@[simp] theorem State.answering_pc (s : State) : (s.answering).pc = s.pc := rfl
@[simp] theorem State.answering_nextPc (s : State) : (s.answering).nextPc = s.nextPc := rfl
@[simp] theorem State.answering_inDelaySlot (s : State) : (s.answering).inDelaySlot = s.inDelaySlot := rfl
@[simp] theorem State.answering_llBit (s : State) : (s.answering).llBit = s.llBit := rfl
@[simp] theorem State.answering_llAddr (s : State) : (s.answering).llAddr = s.llAddr := rfl
@[simp] theorem State.answering_llSeen (s : State) : (s.answering).llSeen = s.llSeen := rfl
@[simp] theorem State.answering_standby (s : State) : (s.answering).standby = s.standby := rfl
@[simp] theorem State.answering_cp0 (s : State) : (s.answering).cp0 = s.cp0 := rfl
@[simp] theorem State.answering_fpu (s : State) : (s.answering).fpu = s.fpu := rfl
@[simp] theorem State.answering_icache (s : State) : (s.answering).icache = s.icache := rfl
@[simp] theorem State.answering_dcache (s : State) : (s.answering).dcache = s.dcache := rfl
@[simp] theorem State.answering_mem (s : State) : (s.answering).mem = s.mem := rfl
@[simp] theorem State.answering_bus (s : State) : (s.answering).bus = s.bus := rfl
@[simp] theorem State.answering_events (s : State) : (s.answering).events = s.events := rfl
@[simp] theorem State.answering_boot (s : State) : (s.answering).boot = s.boot := rfl
@[simp] theorem State.answering_part (s : State) : (s.answering).part = s.part := rfl
@[simp] theorem State.answering_inputs (s : State) : (s.answering).inputs = s.inputs := rfl
@[simp] theorem State.answering_hazards (s : State) : (s.answering).hazards = s.hazards := rfl
@[simp] theorem State.answering_fresh (s : State) : (s.answering).fresh = s.fresh := rfl

@[simp] theorem State.awake_gpr (s : State) : (s.awake).gpr = s.gpr := rfl
@[simp] theorem State.awake_hi (s : State) : (s.awake).hi = s.hi := rfl
@[simp] theorem State.awake_lo (s : State) : (s.awake).lo = s.lo := rfl
@[simp] theorem State.awake_pc (s : State) : (s.awake).pc = s.pc := rfl
@[simp] theorem State.awake_nextPc (s : State) : (s.awake).nextPc = s.nextPc := rfl
@[simp] theorem State.awake_inDelaySlot (s : State) : (s.awake).inDelaySlot = s.inDelaySlot := rfl
@[simp] theorem State.awake_llBit (s : State) : (s.awake).llBit = s.llBit := rfl
@[simp] theorem State.awake_llAddr (s : State) : (s.awake).llAddr = s.llAddr := rfl
@[simp] theorem State.awake_llSeen (s : State) : (s.awake).llSeen = s.llSeen := rfl
@[simp] theorem State.awake_cp0 (s : State) : (s.awake).cp0 = s.cp0 := rfl
@[simp] theorem State.awake_fpu (s : State) : (s.awake).fpu = s.fpu := rfl
@[simp] theorem State.awake_icache (s : State) : (s.awake).icache = s.icache := rfl
@[simp] theorem State.awake_dcache (s : State) : (s.awake).dcache = s.dcache := rfl
@[simp] theorem State.awake_mem (s : State) : (s.awake).mem = s.mem := rfl
@[simp] theorem State.awake_bus (s : State) : (s.awake).bus = s.bus := rfl
@[simp] theorem State.awake_events (s : State) : (s.awake).events = s.events := rfl
@[simp] theorem State.awake_boot (s : State) : (s.awake).boot = s.boot := rfl
@[simp] theorem State.awake_part (s : State) : (s.awake).part = s.part := rfl
@[simp] theorem State.awake_platform (s : State) : (s.awake).platform = s.platform := rfl
@[simp] theorem State.awake_inputs (s : State) : (s.awake).inputs = s.inputs := rfl
@[simp] theorem State.awake_hazards (s : State) : (s.awake).hazards = s.hazards := rfl
@[simp] theorem State.awake_fresh (s : State) : (s.awake).fresh = s.fresh := rfl
@[simp] theorem State.woken_gpr (s : State) : (s.woken).gpr = s.gpr := rfl
@[simp] theorem State.woken_hi (s : State) : (s.woken).hi = s.hi := rfl
@[simp] theorem State.woken_lo (s : State) : (s.woken).lo = s.lo := rfl
@[simp] theorem State.woken_pc (s : State) : (s.woken).pc = s.pc := rfl
@[simp] theorem State.woken_nextPc (s : State) : (s.woken).nextPc = s.nextPc := rfl
@[simp] theorem State.woken_inDelaySlot (s : State) : (s.woken).inDelaySlot = s.inDelaySlot := rfl
@[simp] theorem State.woken_llBit (s : State) : (s.woken).llBit = s.llBit := rfl
@[simp] theorem State.woken_llAddr (s : State) : (s.woken).llAddr = s.llAddr := rfl
@[simp] theorem State.woken_llSeen (s : State) : (s.woken).llSeen = s.llSeen := rfl
@[simp] theorem State.woken_cp0 (s : State) : (s.woken).cp0 = s.cp0 := rfl
@[simp] theorem State.woken_fpu (s : State) : (s.woken).fpu = s.fpu := rfl
@[simp] theorem State.woken_icache (s : State) : (s.woken).icache = s.icache := rfl
@[simp] theorem State.woken_dcache (s : State) : (s.woken).dcache = s.dcache := rfl
@[simp] theorem State.woken_mem (s : State) : (s.woken).mem = s.mem := rfl
@[simp] theorem State.woken_bus (s : State) : (s.woken).bus = s.bus := rfl
@[simp] theorem State.woken_events (s : State) : (s.woken).events = s.events := rfl
@[simp] theorem State.woken_boot (s : State) : (s.woken).boot = s.boot := rfl
@[simp] theorem State.woken_part (s : State) : (s.woken).part = s.part := rfl
@[simp] theorem State.woken_platform (s : State) : (s.woken).platform = s.platform := rfl
@[simp] theorem State.woken_inputs (s : State) : (s.woken).inputs = s.inputs := rfl
@[simp] theorem State.woken_hazards (s : State) : (s.woken).hazards = s.hazards := rfl
@[simp] theorem State.woken_fresh (s : State) : (s.woken).fresh = s.fresh := rfl
@[simp] theorem State.woken_standby (s : State) : (s.woken).standby = (s.standby && !s.wakes) := rfl

@[simp] theorem State.setPins_gpr (s : State) (int : BitVec 6) (nmi ext : Bool) : (s.setPins int nmi ext).gpr = s.gpr := rfl
@[simp] theorem State.setPins_hi (s : State) (int : BitVec 6) (nmi ext : Bool) : (s.setPins int nmi ext).hi = s.hi := rfl
@[simp] theorem State.setPins_lo (s : State) (int : BitVec 6) (nmi ext : Bool) : (s.setPins int nmi ext).lo = s.lo := rfl
@[simp] theorem State.setPins_pc (s : State) (int : BitVec 6) (nmi ext : Bool) : (s.setPins int nmi ext).pc = s.pc := rfl
@[simp] theorem State.setPins_nextPc (s : State) (int : BitVec 6) (nmi ext : Bool) : (s.setPins int nmi ext).nextPc = s.nextPc := rfl
@[simp] theorem State.setPins_inDelaySlot (s : State) (int : BitVec 6) (nmi ext : Bool) : (s.setPins int nmi ext).inDelaySlot = s.inDelaySlot := rfl
@[simp] theorem State.setPins_llBit (s : State) (int : BitVec 6) (nmi ext : Bool) : (s.setPins int nmi ext).llBit = s.llBit := rfl
@[simp] theorem State.setPins_llAddr (s : State) (int : BitVec 6) (nmi ext : Bool) : (s.setPins int nmi ext).llAddr = s.llAddr := rfl
@[simp] theorem State.setPins_llSeen (s : State) (int : BitVec 6) (nmi ext : Bool) : (s.setPins int nmi ext).llSeen = s.llSeen := rfl
@[simp] theorem State.setPins_cp0 (s : State) (int : BitVec 6) (nmi ext : Bool) : (s.setPins int nmi ext).cp0 = s.cp0 := rfl
@[simp] theorem State.setPins_fpu (s : State) (int : BitVec 6) (nmi ext : Bool) : (s.setPins int nmi ext).fpu = s.fpu := rfl
@[simp] theorem State.setPins_icache (s : State) (int : BitVec 6) (nmi ext : Bool) : (s.setPins int nmi ext).icache = s.icache := rfl
@[simp] theorem State.setPins_dcache (s : State) (int : BitVec 6) (nmi ext : Bool) : (s.setPins int nmi ext).dcache = s.dcache := rfl
@[simp] theorem State.setPins_mem (s : State) (int : BitVec 6) (nmi ext : Bool) : (s.setPins int nmi ext).mem = s.mem := rfl
@[simp] theorem State.setPins_bus (s : State) (int : BitVec 6) (nmi ext : Bool) : (s.setPins int nmi ext).bus = s.bus := rfl
@[simp] theorem State.setPins_events (s : State) (int : BitVec 6) (nmi ext : Bool) : (s.setPins int nmi ext).events =
    (s.setEvents { s.events with intPins := int, nmiPin := nmi, extRqst := ext }).events := rfl
@[simp] theorem State.setPins_boot (s : State) (int : BitVec 6) (nmi ext : Bool) : (s.setPins int nmi ext).boot = s.boot := rfl
@[simp] theorem State.setPins_part (s : State) (int : BitVec 6) (nmi ext : Bool) : (s.setPins int nmi ext).part = s.part := rfl
@[simp] theorem State.setPins_platform (s : State) (int : BitVec 6) (nmi ext : Bool) : (s.setPins int nmi ext).platform = s.platform := rfl
@[simp] theorem State.setPins_inputs (s : State) (int : BitVec 6) (nmi ext : Bool) : (s.setPins int nmi ext).inputs = s.inputs := rfl
@[simp] theorem State.setPins_hazards (s : State) (int : BitVec 6) (nmi ext : Bool) : (s.setPins int nmi ext).hazards = s.hazards := rfl
@[simp] theorem State.setPins_fresh (s : State) (int : BitVec 6) (nmi ext : Bool) : (s.setPins int nmi ext).fresh = s.fresh := rfl
@[simp] theorem State.setPins_standby (s : State) (int : BitVec 6) (nmi ext : Bool) : (s.setPins int nmi ext).standby =
    (s.standby && !(nmi && !s.events.nmiPin)) := rfl

@[simp] theorem State.takePostponedWatch_gpr (s : State) : (s.takePostponedWatch).gpr = s.gpr := rfl
@[simp] theorem State.takePostponedWatch_hi (s : State) : (s.takePostponedWatch).hi = s.hi := rfl
@[simp] theorem State.takePostponedWatch_lo (s : State) : (s.takePostponedWatch).lo = s.lo := rfl
@[simp] theorem State.takePostponedWatch_llBit (s : State) : (s.takePostponedWatch).llBit = s.llBit := rfl
@[simp] theorem State.takePostponedWatch_llAddr (s : State) : (s.takePostponedWatch).llAddr = s.llAddr := rfl
@[simp] theorem State.takePostponedWatch_llSeen (s : State) : (s.takePostponedWatch).llSeen = s.llSeen := rfl
@[simp] theorem State.takePostponedWatch_standby (s : State) : (s.takePostponedWatch).standby = s.standby := rfl
@[simp] theorem State.takePostponedWatch_fpu (s : State) : (s.takePostponedWatch).fpu = s.fpu := rfl
@[simp] theorem State.takePostponedWatch_icache (s : State) : (s.takePostponedWatch).icache = s.icache := rfl
@[simp] theorem State.takePostponedWatch_dcache (s : State) : (s.takePostponedWatch).dcache = s.dcache := rfl
@[simp] theorem State.takePostponedWatch_mem (s : State) : (s.takePostponedWatch).mem = s.mem := rfl
@[simp] theorem State.takePostponedWatch_bus (s : State) : (s.takePostponedWatch).bus = s.bus := rfl
@[simp] theorem State.takePostponedWatch_boot (s : State) : (s.takePostponedWatch).boot = s.boot := rfl
@[simp] theorem State.takePostponedWatch_part (s : State) : (s.takePostponedWatch).part = s.part := rfl
@[simp] theorem State.takePostponedWatch_platform (s : State) : (s.takePostponedWatch).platform = s.platform := rfl
@[simp] theorem State.takePostponedWatch_inputs (s : State) : (s.takePostponedWatch).inputs = s.inputs := rfl
@[simp] theorem State.takePostponedWatch_hazards (s : State) : (s.takePostponedWatch).hazards = s.hazards := rfl

/-! ## Registers read through the updates -/

@[simp] theorem State.setDLine_reg (s : State) (w : Way) (i : BitVec 7) (l : DLine) (q : Reg) : (s.setDLine w i l).reg q = s.reg q :=
  State.reg_congr (by simp) q
@[simp] theorem State.setDFifo_reg (s : State) (w : Way) (i : BitVec 7) (q : Reg) : (s.setDFifo w i).reg q = s.reg q :=
  State.reg_congr (by simp) q
@[simp] theorem State.setILine_reg (s : State) (w : Way) (i : BitVec 7) (l : ILine) (q : Reg) : (s.setILine w i l).reg q = s.reg q :=
  State.reg_congr (by simp) q
@[simp] theorem State.setIFifo_reg (s : State) (w : Way) (i : BitVec 7) (q : Reg) : (s.setIFifo w i).reg q = s.reg q :=
  State.reg_congr (by simp) q
@[simp] theorem State.writeLine_reg (s : State) (base : Nat) (data : Vector Byte 32) (q : Reg) : (s.writeLine base data).reg q = s.reg q :=
  State.reg_congr (by simp) q
@[simp] theorem State.writeBackLine_reg (s : State) (i : BitVec 7) (l : DLine) (q : Reg) : (s.writeBackLine i l).reg q = s.reg q :=
  State.reg_congr (by simp) q
@[simp] theorem State.evict_reg (s : State) (w : Way) (i : BitVec 7) (q : Reg) : (s.evict w i).reg q = s.reg q :=
  State.reg_congr (by simp) q
@[simp] theorem State.postponeDwatch_reg (s : State) (q : Reg) : (s.postponeDwatch).reg q = s.reg q :=
  State.reg_congr (by simp) q
@[simp] theorem State.setCh_reg (s : State) (hit : Bool) (q : Reg) : (s.setCh hit).reg q = s.reg q :=
  State.reg_congr (by simp) q
@[simp] theorem State.setTag_reg (s : State) (t : TagLo) (ecc : BitVec 8) (q : Reg) : (s.setTag t ecc).reg q = s.reg q :=
  State.reg_congr (by simp) q
@[simp] theorem State.fpCommit_reg (s : State) (c : FpCause) (q : Reg) : (s.fpCommit c).reg q = s.reg q :=
  State.reg_congr (by simp) q
@[simp] theorem State.wroteFcr31_reg (s : State) (new : Fcr31) (q : Reg) : (s.wroteFcr31 new).reg q = s.reg q :=
  State.reg_congr (by simp) q
@[simp] theorem State.trappedFcr31_reg (s : State) (new : Fcr31) (q : Reg) : (s.trappedFcr31 new).reg q = s.reg q :=
  State.reg_congr (by simp) q
@[simp] theorem State.loseByte_reg (s : State) (x : Word) (q : Reg) : (s.loseByte x).reg q = s.reg q :=
  State.reg_congr (by simp) q
@[simp] theorem State.loseLine_reg (s : State) (l : LineRef) (q : Reg) : (s.loseLine l).reg q = s.reg q :=
  State.reg_congr (by simp) q
@[simp] theorem State.withBusOf_reg (s : State) (t : State) (q : Reg) : (s.withBusOf t).reg q = s.reg q :=
  State.reg_congr (by simp) q
@[simp] theorem State.answering_reg (s : State) (q : Reg) : (s.answering).reg q = s.reg q :=
  State.reg_congr (by simp) q
@[simp] theorem State.awake_reg (s : State) (q : Reg) : (s.awake).reg q = s.reg q :=
  State.reg_congr (by simp) q
@[simp] theorem State.woken_reg (s : State) (q : Reg) : (s.woken).reg q = s.reg q :=
  State.reg_congr (by simp) q
@[simp] theorem State.setPins_reg (s : State) (int : BitVec 6) (nmi ext : Bool) (q : Reg) :
    (s.setPins int nmi ext).reg q = s.reg q := State.reg_congr (by simp) q
@[simp] theorem State.takePostponedWatch_reg (s : State) (q : Reg) : (s.takePostponedWatch).reg q = s.reg q :=
  State.reg_congr (by simp) q

end Sys2Proof.Machine
end

