-- ==== Sys2Proof/Laws/Ops.lean ====
section
/-!
SUPPORT. Sys2Proof/Laws/Ops.lean: for each shared operation, once, everything it can do: what follows when it answers, and
what it answers when nothing stands in its way. Proofs about instructions cite these and unfold no shared operation.
-/

namespace Sys2Proof.Machine

/-! ## Memory operations in a row -/

theorem Access.bind_ok {α β : Type} {x : Access α} {f : α → State → Access β} {b : β} {t : State} (h : x.bind f = .ok b t) :
    ∃ a u, x = .ok a u ∧ f a u = .ok b t := by
  cases x with
  | ok a u => exact ⟨a, u, rfl, h⟩
  | trap u => cases h
  | fault r => cases h
  | refused r => cases h

theorem Access.bind_trap {α β : Type} {x : Access α} {f : α → State → Access β} {t : State} (h : x.bind f = .trap t) :
    x = .trap t ∨ ∃ a u, x = .ok a u ∧ f a u = .trap t := by
  cases x with
  | ok a u => exact .inr ⟨a, u, rfl, h⟩
  | trap u => exact .inl (by cases h; rfl)
  | fault r => cases h
  | refused r => cases h

theorem Access.finish_next {α : Type} {x : Access α} {f : α → State → Result} {t : State} (h : x.finish f = .next t) :
    x = .trap t ∨ ∃ a u, x = .ok a u ∧ f a u = .next t := by
  cases x with
  | ok a u => exact .inr ⟨a, u, rfl, h⟩
  | trap u => exact .inl (by cases h; rfl)
  | fault r => cases h
  | refused r => cases h

@[simp] theorem Access.bind_of_ok {α β : Type} (a : α) (s : State) (f : α → State → Access β) :
    (Access.ok a s).bind f = f a s := rfl
@[simp] theorem Access.bind_of_trap {α β : Type} (s : State) (f : α → State → Access β) :
    (Access.trap s : Access α).bind f = .trap s := rfl
@[simp] theorem Access.bind_of_fault {α β : Type} (r : Fault) (f : α → State → Access β) :
    (Access.fault r : Access α).bind f = .fault r := rfl
@[simp] theorem Access.bind_of_refused {α β : Type} (r : Refusal) (f : α → State → Access β) :
    (Access.refused r : Access α).bind f = .refused r := rfl
@[simp] theorem Access.finish_of_ok {α : Type} (a : α) (s : State) (f : α → State → Result) :
    (Access.ok a s).finish f = f a s := rfl
@[simp] theorem Access.finish_of_trap {α : Type} (s : State) (f : α → State → Result) :
    (Access.trap s : Access α).finish f = .next s := rfl
@[simp] theorem Access.finish_of_fault {α : Type} (r : Fault) (f : α → State → Result) :
    (Access.fault r : Access α).finish f = .fault r := rfl
@[simp] theorem Access.finish_of_refused {α : Type} (r : Refusal) (f : α → State → Result) :
    (Access.refused r : Access α).finish f = .refused r := rfl

/-! ## Usability, 64-bit operations, delay slots -/

theorem cp0Usable_iff (s : State) : s.cp0.status.cp0Usable = true ↔ Cp0Usable s := by
  simp [Cp0Usable, Status.cp0Usable, State.userMode]

theorem allows64_iff (s : State) : s.cp0.status.allows64 = true ↔ Allows64 s := by
  simp [Allows64, Status.allows64, State.userMode]

theorem State.needCp0_of_usable {s : State} (h : Cp0Usable s) (r : Result) : s.needCp0 r = r :=
  if_pos ((cp0Usable_iff s).2 h)

theorem State.needCp0_of_unusable {s : State} (h : ¬Cp0Usable s) (r : Result) : s.needCp0 r = s.trap (.cpu 0) :=
  if_neg (fun c => h ((cp0Usable_iff s).1 c))

theorem State.needCp1_of_usable {s : State} (h : Cp1Usable s) (r : Result) : s.needCp1 r = r := if_pos h

theorem State.needCp1_of_unusable {s : State} (h : ¬Cp1Usable s) (r : Result) : s.needCp1 r = s.trap (.cpu 1) := if_neg h

theorem State.need64_of_allowed {s : State} (h : Allows64 s) (r : Result) : s.need64 r = r :=
  if_pos ((allows64_iff s).2 h)

theorem State.need64_of_forbidden {s : State} (h : ¬Allows64 s) (r : Result) : s.need64 r = s.trap .ri :=
  if_neg (fun c => h ((allows64_iff s).1 c))

theorem State.needCp0_next {s t : State} {r : Result} (h : s.needCp0 r = .next t) :
    Cp0Usable s ∧ r = .next t ∨ ¬Cp0Usable s ∧ t = s.raised (.cpu 0) none := by
  by_cases c : Cp0Usable s
  · exact .inl ⟨c, State.needCp0_of_usable c r ▸ h⟩
  · rw [State.needCp0_of_unusable c] at h
    exact .inr ⟨c, by cases h; rfl⟩

theorem State.needCp1_next {s t : State} {r : Result} (h : s.needCp1 r = .next t) :
    Cp1Usable s ∧ r = .next t ∨ ¬Cp1Usable s ∧ t = s.raised (.cpu 1) none := by
  by_cases c : Cp1Usable s
  · exact .inl ⟨c, State.needCp1_of_usable c r ▸ h⟩
  · rw [State.needCp1_of_unusable c] at h
    exact .inr ⟨c, by cases h; rfl⟩

theorem State.need64_next {s t : State} {r : Result} (h : s.need64 r = .next t) :
    Allows64 s ∧ r = .next t ∨ ¬Allows64 s ∧ t = s.raised .ri none := by
  by_cases c : Allows64 s
  · exact .inl ⟨c, State.need64_of_allowed c r ▸ h⟩
  · rw [State.need64_of_forbidden c] at h
    exact .inr ⟨c, by cases h; rfl⟩

theorem State.cop2_next {s t : State} (h : s.cop2 = .next t) :
    s.cp0.status.cu.getLsbD 2 = false ∧ t = s.raised (.cpu 2) none := by
  by_cases c : s.cp0.status.cu.getLsbD 2 = true
  · rw [State.cop2, if_pos c] at h
    cases h
  · rw [State.cop2, if_neg c] at h
    exact ⟨by simpa using c, by cases h; rfl⟩

theorem State.outsideSlot_next {s t : State} {r : Result} (h : s.outsideSlot r = .next t) :
    s.inDelaySlot = false ∧ r = .next t := by
  cases c : s.inDelaySlot
  · exact ⟨rfl, by simpa [State.outsideSlot, c] using h⟩
  · simp [State.outsideSlot, c] at h

/-! ## The writes of HI and LO behind a move from them -/

/-- Behind no move within two instructions a write of HI or LO starts from the state as it is. -/
theorem State.beforeHiLo_of_quiet {s : State} (h : NoHiLoHazard s) : s.beforeHiLo = s :=
  if_neg (Nat.not_lt.mpr h)

/-- What a write of HI or LO does first can change the register that the last move wrote alone. -/
theorem State.beforeHiLo_reg {s : State} {q : Reg} (h : q = s.hazards.mfRd → NoHiLoHazard s) :
    s.beforeHiLo.reg q = s.reg q := by
  by_cases c : s.hazards.mfAge < 2
  · have hq : q ≠ s.hazards.mfRd := fun e => absurd (h e) (Nat.not_le.mpr c)
    rw [State.beforeHiLo, if_pos c]
    exact State.reg_setReg_ne s _ hq
  · rw [State.beforeHiLo, if_neg c]

/-- The record behind one more instruction, in the words of Safety.lean. -/
theorem State.agedHazards_eq (s : State) : s.agedHazards = agedRecord s := by
  have h : (if s.hazards.mfAge < 2 then s.hazards.mfAge + 1 else 2) = min (s.hazards.mfAge + 1) 2 := by
    split <;> omega
  simp only [State.agedHazards, Hazards.aged, agedRecord, h, Hazards.mk.injEq, and_true, Option.some.injEq]
  ext k hk
  simp [regionOf, low32]
  omega

/-! ## The ends of an instruction -/

theorem State.advance_advanced (s : State) : Advanced s s.advance := ⟨rfl, rfl, rfl⟩

theorem State.done_next {s t : State} (h : s.done = .next t) : t = s.advance := by cases h; rfl

theorem State.branch_next {s t : State} {taken likely : Bool} {offset : BitVec 16}
    (h : s.branch taken likely offset = .next t) :
    t = if taken then s.branchTo (branchTarget s.pc offset) else if likely then s.nullify else s.fallThrough := by
  cases taken <;> cases likely <;> (cases h; rfl)

theorem State.branch_branches (s : State) (taken likely : Bool) (offset : BitVec 16) :
    ∃ t, s.branch taken likely offset = .next t ∧ Branches taken likely (branchTarget s.pc offset) s t := by
  cases taken <;> cases likely <;> exact ⟨_, rfl, rfl, rfl, rfl⟩

theorem State.doneMem_next {s t : State} (h : s.doneMem = .next t) :
    t = { s.advance with hazards := { s.agedHazards with afterMem := true } } := by cases h; rfl

theorem State.trapIf_next {s t : State} {c : Bool} (h : s.trapIf c = .next t) :
    t = if c then s.raised .tr none else s.advance := by
  cases c <;> (cases h; rfl)

/-! ## Arithmetic -/

theorem State.result_next {s t : State} {rd : Reg} {v : DWord} (h : s.result rd v = .next t) :
    t = (s.setReg rd v).advance := by cases h; rfl

theorem State.result32_of_valid (s : State) (rd : Reg) (v : Word) : s.result32 true rd v = s.result rd (sext32 v) := rfl

theorem State.result32_next {s t : State} {valid : Bool} {rd : Reg} {v : Word} (h : s.result32 valid rd v = .next t) :
    t = if valid then (s.setReg rd (sext32 v)).advance else ((s.setReg rd (s.free 64)).drawn).advance := by
  cases valid <;> (cases h; rfl)

theorem State.arith32_of_valid (s : State) (rd : Reg) (x : Int) :
    s.arith32 true rd x =
      if overflows 32 x then s.trap .ov else s.result rd (sext32 (BitVec.ofInt 32 x)) := rfl

theorem State.arith32_next {s t : State} {valid : Bool} {rd : Reg} {x : Int} (h : s.arith32 valid rd x = .next t) :
    valid = true ∧ overflows 32 x = true ∧ t = s.raised .ov none ∨
    valid = true ∧ overflows 32 x = false ∧ t = (s.setReg rd (sext32 (BitVec.ofInt 32 x))).advance ∨
    valid = false ∧ (t = s.drawn.raised .ov none ∨ t = ((s.drawn.setReg rd (s.drawn.free 64)).drawn).advance) := by
  cases valid
  · refine .inr (.inr ⟨rfl, ?_⟩)
    cases c : s.freeBool <;> simp only [State.arith32, c] at h
    · exact .inr (by cases h; rfl)
    · exact .inl (by cases h; rfl)
  · cases c : overflows 32 x <;> simp only [State.arith32, c] at h
    · exact .inr (.inl ⟨rfl, rfl, by cases h; rfl⟩)
    · exact .inl ⟨rfl, rfl, by cases h; rfl⟩

theorem State.arith64_next {s t : State} {rd : Reg} {x : Int} (h : s.arith64 rd x = .next t) :
    overflows 64 x = true ∧ t = s.raised .ov none ∨
    overflows 64 x = false ∧ t = (s.setReg rd (BitVec.ofInt 64 x)).advance := by
  cases c : overflows 64 x <;> simp only [State.arith64, c] at h
  · exact .inr ⟨rfl, by cases h; rfl⟩
  · exact .inl ⟨rfl, by cases h; rfl⟩

/-! ## Floating point -/

theorem State.fpUnlessTrap_next {s t : State} {c : FpCause} {r : Result} (h : s.fpUnlessTrap c r = .next t) :
    fpTrap c s.fpu.fcr31.enables = true ∧ s.fpRaise c = .next t ∨
    fpTrap c s.fpu.fcr31.enables = false ∧ r = .next t := by
  cases k : fpTrap c s.fpu.fcr31.enables <;> simp only [State.fpUnlessTrap, k] at h
  · exact .inr ⟨rfl, h⟩
  · exact .inl ⟨rfl, h⟩

theorem State.fpStore_next {s t : State} {fd : Reg} {x : FpResult} (h : s.fpStore fd x = .next t) :
    (∃ c, (x = .traps c ∨ ∃ v, x = .value c v ∧ fpTrap c s.fpu.fcr31.enables = true) ∧ s.fpRaise c = .next t) ∨
    ∃ c v, x = .value c v ∧ fpTrap c s.fpu.fcr31.enables = false ∧ t = ((s.fpCommit c).setFgr fd v).advance := by
  cases x with
  | traps c => exact .inl ⟨c, .inl rfl, h⟩
  | value c v =>
    rcases State.fpUnlessTrap_next h with ⟨k, e⟩ | ⟨k, e⟩
    · exact .inl ⟨c, .inr ⟨v, rfl, k⟩, e⟩
    · exact .inr ⟨c, v, rfl, k, State.done_next e⟩

theorem fpOddForbidden_iff (s : State) (fs : List Reg) : s.fpOddForbidden fs = false ↔ FpRegsLegal s fs := by
  cases h : s.cp0.status.fr <;> simp [State.fpOddForbidden, FpRegsLegal, h]

theorem State.fpOp_of_legal {s : State} {fs : List Reg} (hc : Cp1Usable s) (hl : FpRegsLegal s fs) (r : Result) :
    s.fpOp fs r = r := by
  simp [State.fpOp, State.needCp1_of_usable hc, (fpOddForbidden_iff s fs).2 hl]

theorem State.fpOp_of_odd {s : State} {fs : List Reg} (hc : Cp1Usable s) (hl : ¬FpRegsLegal s fs) (r : Result) :
    s.fpOp fs r = s.fpRaise causeE := by
  cases k : s.fpOddForbidden fs
  · exact absurd ((fpOddForbidden_iff s fs).1 k) hl
  · simp [State.fpOp, State.needCp1_of_usable hc, k]

/-! ## The address of a data access -/

theorem State.memHazard_none {s : State} (h : NoMemHazard s) (va : DWord) : s.memHazard va = none := by
  simp [State.memHazard, h.1, h.2]

theorem State.dataAddress_of {s : State} {va : DWord} {align : Nat} {pa : Word} {alg : BitVec 3} (store : Bool)
    (hh : NoMemHazard s) (hm : MapsTo s va pa alg) (ha : va.toNat % align = 0) :
    s.dataAddress va align store = .ok (pa, alg) s := by
  have hm' : s.translateData va = .ok pa alg := hm
  simp [State.dataAddress, State.memHazard_none hh, hm', ha]

theorem State.dataAddress_ok {s t : State} {va : DWord} {align : Nat} {store : Bool} {pa : Word} {alg : BitVec 3}
    (h : s.dataAddress va align store = .ok (pa, alg) t) :
    t = s ∧ s.memHazard va = none ∧ MapsTo s va pa alg ∧ va.toNat % align = 0 := by
  unfold State.dataAddress at h
  split at h
  · cases h
  · rename_i hh
    split at h
    · cases h
    · cases h
    · rename_i p a hm
      split at h
      · cases h
      · rename_i hal
        cases h
        exact ⟨rfl, hh, hm, by omega⟩

theorem State.dataAddress_trap {s t : State} {va : DWord} {align : Nat} {store : Bool}
    (h : s.dataAddress va align store = .trap t) :
    s.memHazard va = none ∧
    (t = s.raised (if store then .adES else .adEL) (some va) ∨
      t = s.raised .dBound (some va) ∧ s.translateData va = .outOfBounds) := by
  unfold State.dataAddress at h
  split at h
  · cases h
  · rename_i hh
    refine ⟨hh, ?_⟩
    split at h
    · exact .inl (by cases h; rfl)
    · rename_i hm
      exact .inr ⟨by cases h; rfl, hm⟩
    · split at h
      · exact .inl (by cases h; rfl)
      · cases h

/-! ## Plain uncached accesses -/

theorem physical_aligned (s : State) (va : DWord) (n : Nat) (pa : Word) :
    (aligned va n).physical s.cp0.status.reverseEndian pa = byteAddrs s pa n := by
  simp only [Span.physical, aligned, byteAddrs]
  refine List.map_congr_left fun k _ => ?_
  simp [byteAddr, Status.reverseEndian, State.userMode]

theorem State.dwatch_quiet {s : State} {va : DWord} {store : Bool} (h : QuietData s va store) :
    s.dwatchUnsure va store = false ∧ s.dwatchNoticed va store = false := by
  simp [State.dwatchUnsure, State.dwatchNoticed, h.2.2.2.2]

/-- Where all is RAM, no access hangs. -/
theorem State.busHangs_ram {s : State} (h : s.platform = []) (pa : Word) (alg : BitVec 3) (xs : List Nat) (store : Bool) :
    s.busHangs pa alg xs store = none := by
  simp [State.busHangs, State.victimHangs, h]

theorem State.dataReady_uncached {s : State} {va : DWord} {pa : Word} {store : Bool} (xs : List Nat)
    (h : QuietData s va store) : s.dataReady va pa 2 xs store = .ok () s := by
  obtain ⟨hu, hn⟩ := State.dwatch_quiet h
  have hp : s.platform = [] := h.2.2.2.1
  have he : s.dataParityError va pa 2#3 xs store = none := by
    simp [State.dataParityError, hp, State.busBad]
  have hr : calgReserved 2#3 = false := by decide
  simp [State.dataReady, hu, hn, he, hr, State.dataRefilled, State.busHangs_ram hp, State.busError, hp]

/-- Where all is RAM, the bus answers with memory, without an error. -/
theorem State.bus_ram {s : State} (h : s.platform = []) :
    s.busByte = s.mem.get ∧ (∀ x, s.busBad x = false) ∧ ∀ xs, s.busError xs = false := by
  refine ⟨?_, ?_, ?_⟩
  · funext x; simp [State.busByte, h]
  · intro x; simp [State.busBad, h]
  · intro xs; simp [State.busError, h]

/-- An aligned load from uncached RAM gives the bytes of memory and empties the write buffer. -/
theorem State.load_uncached {s : State} {va : DWord} {pa : Word} {n : Nat} (h : UncachedRam s va pa false)
    (ha : va.toNat % n = 0) : s.load (aligned va n) = .ok ((byteAddrs s pa n).map s.mem.get, pa, 2) s.singleRead := by
  have hd := State.dataAddress_of (align := n) false ⟨h.2.1, h.2.2.1⟩ h.1 ha
  have hr := State.dataReady_uncached (pa := pa) (byteAddrs s pa n) h.2
  simp only [State.load, aligned] at hd ⊢
  rw [hd, Access.bind_of_ok]
  have hp := physical_aligned s va n pa
  simp only [aligned] at hp
  simp only [hp, hr, Access.bind_of_ok, State.readBytes]
  simp [(State.bus_ram h.2.2.2.2.1).1, State.afterRead]

/-- A store to uncached RAM at any span writes its bytes, through the write buffer, and nothing else. -/
theorem State.store_uncached {s : State} {va : DWord} {pa : Word} {n : Nat} (bs : List Byte)
    (h : UncachedRam s va pa true) (ha : va.toNat % n = 0) :
    s.store (aligned va n) bs = .ok ()
      ({ s with mem := writeBytes [] s.mem ((byteAddrs s pa n).zip bs) }.buffered
        [bufferedStore (regionOf va) (((byteAddrs s pa n).zip bs).map Prod.fst)]) := by
  have hd := State.dataAddress_of (align := n) true ⟨h.2.1, h.2.2.1⟩ h.1 ha
  have hr : s.dataReady va pa 2#3 (byteAddrs s pa n) true = .ok () s := State.dataReady_uncached _ h.2
  have hpl : s.platform = [] := h.2.2.2.2.1
  simp only [State.store, State.storeReady, aligned] at hd ⊢
  rw [hd, Access.bind_of_ok]
  have hp := physical_aligned s va n pa
  simp only [aligned] at hp
  simp [hp, hr, State.writeStore, hpl]

/-! ## Plain uncached fetches -/

/-- The fetch of a word of uncached RAM, with no watch and no hazard in the way. -/
theorem State.fetch_uncached {s : State} {pa : Word} (hw : s.hazards.mappedWindow = 0)
    (ht : s.translateFetch = .ok pa 2) (ha : s.pc.toNat % 4 = 0) (hi : s.iwatchMatches = false)
    (hp : s.platform = []) :
    s.fetch = .ok (BitVec.ofNat 32 (fromBytes s.boot.bigEndian ((wordBytes pa).map s.mem.get))) s.singleRead := by
  simp [State.fetch, State.fetchAddress, hw, ht, ha, State.iwatchCheck, hi, State.fetchUncached, hp, State.bus_ram hp]

/-! ## The timer -/

/-- What some increments leave: Count that much further, the latch set when one of them met Compare. -/
theorem State.countTimes_eq (n : Nat) : ∀ s : State, s.countTimes n =
    { s with
      cp0 := { s.cp0 with count := s.cp0.count + BitVec.ofNat 32 n }
      events := { s.events with
        timerPending := s.events.timerPending ||
          (List.range n).any fun k => s.cp0.count + BitVec.ofNat 32 (k + 1) == s.cp0.compare } } := by
  induction n with
  | zero => intro s; simp [State.countTimes]
  | succ n ih =>
    intro s
    have h1 : s.cp0.count + 1 = s.cp0.count + BitVec.ofNat 32 (0 + 1) := rfl
    have hk : ∀ k : Nat,
        s.cp0.count + BitVec.ofNat 32 (0 + 1) + BitVec.ofNat 32 k = s.cp0.count + BitVec.ofNat 32 (k + 1) := by
      intro k
      rw [Nat.add_comm k 1, BitVec.add_assoc, ← BitVec.ofNat_add]
    rw [State.countTimes, ih]
    simp only [State.countOnce, h1, hk, List.range_succ_eq_map, List.any_cons, List.any_map, Function.comp_def,
      Bool.or_assoc, Nat.succ_eq_add_one]

/-! ## The interrupt lines -/

theorem getLsbD_bit (b : Bool) (i : Nat) : (bit b).getLsbD i = (decide (i = 0) && b) := by
  cases b <;> cases i <;> simp [bit]

theorem getElem_bit (b : Bool) : (bit b)[0] = b := by cases b <;> rfl

/-- IP[7:2] as 60_exceptions R702 composes them. -/
theorem State.hardwareIp_eq (s : State) : s.hardwareIp = interruptLines s := by
  simp only [State.hardwareIp, Machine.hardwareIp, interruptLines]
  refine BitVec.eq_of_getLsbD_eq fun i hi => ?_
  obtain rfl | rfl | rfl | rfl | rfl | rfl : i = 0 ∨ i = 1 ∨ i = 2 ∨ i = 3 ∨ i = 4 ∨ i = 5 := by omega
  all_goals
    cases s.boot.timerDisabled <;>
      simp only [BitVec.getLsbD_append, getLsbD_bit, BitVec.getLsbD_extractLsb', BitVec.getLsbD_or] <;> simp [getElem_bit]

/-! ## WAIT -/

/-- What WAIT can do: standby, with no write on record, or nothing; standby for certain on an idle bus with no write on
record, and never while ExtRqst* is asserted. -/
theorem execWait_next {s t : State} (hc : s.cp0.status.cp0Usable = true) (h : execWait s = .next t) :
    (t = { s.drawn.drained.advance with standby := true } ∧ s.events.extRqst = false) ∨
    (t = s.drawn.advance ∧ (s.events.extRqst = true ∨ s.bus.writes ≠ [])) := by
  unfold execWait State.needCp0 at h
  rw [if_pos hc] at h
  split at h
  · rename_i hb
    cases h
    simp only [State.busIdle, Bool.and_eq_true, Bool.not_eq_true'] at hb
    exact .inl ⟨rfl, hb.1⟩
  · rename_i hb
    cases h
    refine .inr ⟨rfl, ?_⟩
    simp only [State.busIdle, Bool.and_eq_true, Bool.not_eq_true', Bool.or_eq_true, not_and, not_or] at hb
    cases he : s.events.extRqst
    · exact .inr fun hw => (hb he).1 (by simp [hw])
    · exact .inl rfl

/-! ## The link -/

theorem State.linkedLine_iff (s : State) (i : BitVec 7) (l : DLine) : s.linkedLine i l = true ↔ LinkedLine s i l := by
  simp [State.linkedLine, LinkedLine, and_assoc]

/-- What a replaced line of the data cache does to LLbit. -/
theorem State.setDLine_link (s : State) (w : Way) (i : BitVec 7) (l old : DLine) (h : old = s.dcache.line w i) :
    LinkKept (LinkedLine s i old ∧ (l.tag ≠ old.tag ∨ l.cs ≠ old.cs)) s (s.setDLine w i l) := by
  subst h
  refine ⟨rfl, rfl, ?_⟩
  rw [← State.linkedLine_iff]
  cases hb : s.llBit <;> cases hl : s.linkedLine i (s.dcache.line w i) <;> simp [State.setDLine, hb, hl]

/-! ## Inputs -/

/-- What delivering an input can do: what asserted lines do to standby, the input, and the same again. -/
theorem State.deliver_ok {s t : State} {i : Input} (h : s.deliver i = .ok t) :
    ∃ u, s.woken.receive i = .ok u ∧ t = u.woken := by
  unfold State.deliver at h
  split at h
  · rename_i u hu
    cases h
    exact ⟨u, hu, rfl⟩
  · cases h

/-- Outside standby an input is delivered as it is received. -/
theorem State.deliver_awake {s : State} (h : s.standby = false) (i : Input) : s.deliver i = s.receive i := by
  have hw : ∀ u : State, u.standby = false → u.woken = u := by
    intro u hu
    cases u
    simp_all [State.woken]
  unfold State.deliver
  rw [hw s h]
  cases i <;> simp only [State.receive, Except.ok.injEq] <;> exact hw _ (by first | exact h | rfl | simp [h])

/-! ## The step when nothing arrives -/

theorem Access.deliver_nil {α : Type} (x : Access α) : x.deliver [] = x := by cases x <;> rfl

/-- The step at a state with no inputs left. -/
theorem State.run_quiet {s : State} (h : s.inputs = []) :
    s.run = ticked none ((s.begun false).finish fun w t => t.execWord w) := by
  have hs : ({ s with inputs := s.inputs.tail } : State) = s := by
    cases s
    simp_all
  unfold State.run State.runWith State.arrivals
  rw [hs, h]
  simp [Arrivals.quiet, State.deliverAll, State.cycle, Access.deliver_nil]

end Sys2Proof.Machine
end

