-- ==== Sys2Proof/Laws/Invariant.lean ====
section
/-!
SUPPORT. Sys2Proof/Laws/Invariant.lean: every shared operation keeps the invariant of the machine, memory's canonical
form with it.
-/

namespace Sys2Proof.Machine

/-! ## Properties of every state an operation can answer -/

/-- Every state the memory operation can answer, at its end or at an exception's vector, has the property. -/
def Access.All {α : Type} (P : State → Prop) : Access α → Prop
  | .ok _ s => P s
  | .trap s => P s
  | .fault _ => True
  | .refused _ => True

/-- The next state, if there is one, has the property. -/
def AllNext (P : State → Prop) : Result → Prop
  | .next s => P s
  | .fault _ => True
  | .refused _ => True

theorem Access.All.bind {α β : Type} {P : State → Prop} {x : Access α} {f : α → State → Access β} (hx : x.All P)
    (hf : ∀ v s, P s → (f v s).All P) : (x.bind f).All P := by
  cases x with
  | ok v s => exact hf v s hx
  | trap s => exact hx
  | fault r => trivial
  | refused r => trivial

theorem Access.All.finish {α : Type} {P : State → Prop} {x : Access α} {f : α → State → Result} (hx : x.All P)
    (hf : ∀ v s, P s → AllNext P (f v s)) : AllNext P (x.finish f) := by
  cases x with
  | ok v s => exact hf v s hx
  | trap s => exact hx
  | fault r => trivial
  | refused r => trivial

theorem AllNext.next {P : State → Prop} {r : Result} {t : State} (h : AllNext P r) (hr : r = .next t) : P t := by
  subst hr; exact h

/-! ## The invariant and the fields it reads -/

theorem State.Inv.mem_wf {s : State} (h : s.Inv) : s.mem.wf = true := h.1

/-- A state with the fields the invariant reads has it too; memory may be another canonical one, and the branch state
may be another legal one. -/
theorem State.Inv.of_fields {s t : State} (h : s.Inv) (hm : t.mem.wf = true) (hg : t.gpr[0] = s.gpr[0])
    (hc : t.cp0.calg = s.cp0.calg) (he : t.cp0.cacheErr = s.cp0.cacheErr)
    (hp : t.nextPc.isSome → t.inDelaySlot = true) : t.Inv :=
  ⟨hm, hg.trans h.2.1, hc ▸ h.2.2.1, he ▸ h.2.2.2.1, hp⟩

/-- A state that shares with `s` every field the invariant reads. -/
theorem State.Inv.of_same {s t : State} (h : s.Inv) (hm : t.mem = s.mem) (hg : t.gpr = s.gpr) (hc : t.cp0 = s.cp0)
    (hn : t.nextPc = s.nextPc) (hd : t.inDelaySlot = s.inDelaySlot) : t.Inv :=
  h.of_fields (hm ▸ h.1) (by rw [hg]) (by rw [hc]) (by rw [hc]) (by rw [hn, hd]; exact h.2.2.2.2)

/-- The counter of free values is no part of the invariant. -/
theorem State.Inv.withFresh {s : State} (h : s.Inv) (n : Nat) : ({ s with fresh := n } : State).Inv :=
  h.of_same rfl rfl rfl rfl rfl
theorem State.Inv.drawn {s : State} (h : s.Inv) : s.drawn.Inv := h.of_same rfl rfl rfl rfl rfl
theorem State.Inv.aged {s : State} (h : s.Inv) : s.aged.Inv := h.of_same rfl rfl rfl rfl rfl
theorem State.Inv.setHi {s : State} (h : s.Inv) (v : DWord) : (s.setHi v).Inv := h.of_same rfl rfl rfl rfl rfl
theorem State.Inv.setLo {s : State} (h : s.Inv) (v : DWord) : (s.setLo v).Inv := h.of_same rfl rfl rfl rfl rfl
theorem State.Inv.freeHiLo {s : State} (h : s.Inv) : s.freeHiLo.Inv := h.of_same rfl rfl rfl rfl rfl
theorem State.Inv.setFgr {s : State} (h : s.Inv) (f : Reg) (v : Word) : (s.setFgr f v).Inv :=
  h.of_same rfl rfl rfl rfl rfl
theorem State.Inv.setFcr31 {s : State} (h : s.Inv) (c : Fcr31) : (s.setFcr31 c).Inv := h.of_same rfl rfl rfl rfl rfl
theorem State.Inv.fpCommit {s : State} (h : s.Inv) (c : FpCause) : (s.fpCommit c).Inv := h.of_same rfl rfl rfl rfl rfl
theorem State.Inv.postponeDwatch {s : State} (h : s.Inv) : s.postponeDwatch.Inv := h.of_same rfl rfl rfl rfl rfl
theorem State.Inv.awake {s : State} (h : s.Inv) : s.awake.Inv := h.of_same rfl rfl rfl rfl rfl
theorem State.Inv.woken {s : State} (h : s.Inv) : s.woken.Inv := h.of_same rfl rfl rfl rfl rfl
theorem State.Inv.setEvents {s : State} (h : s.Inv) (e : Events) : (s.setEvents e).Inv := h.of_same rfl rfl rfl rfl rfl
theorem State.Inv.setCh {s : State} (h : s.Inv) (b : Bool) : (s.setCh b).Inv :=
  h.of_fields h.1 rfl rfl rfl h.2.2.2.2
theorem State.Inv.setTag {s : State} (h : s.Inv) (t : TagLo) (e : BitVec 8) : (s.setTag t e).Inv :=
  h.of_fields h.1 rfl rfl rfl h.2.2.2.2
theorem State.Inv.setReg {s : State} (h : s.Inv) (r : Reg) (v : DWord) : (s.setReg r v).Inv :=
  h.of_fields (by simpa using h.1) (by simp) (by simp) (by simp) (by simpa using h.2.2.2.2)
theorem State.Inv.beforeHiLo {s : State} (h : s.Inv) : s.beforeHiLo.Inv := by
  unfold State.beforeHiLo; split
  · exact (h.setReg _ _).drawn
  · exact h

/-! ## Ends of instructions and exceptions -/

theorem State.Inv.advance {s : State} (h : s.Inv) : s.advance.Inv := h.of_fields h.1 rfl rfl rfl (by simp)
theorem State.Inv.branchTo {s : State} (h : s.Inv) (t : DWord) : (s.branchTo t).Inv :=
  h.of_fields h.1 rfl rfl rfl (by simp)
theorem State.Inv.fallThrough {s : State} (h : s.Inv) : s.fallThrough.Inv := h.of_fields h.1 rfl rfl rfl (by simp)
theorem State.Inv.nullify {s : State} (h : s.Inv) : s.nullify.Inv := h.of_fields h.1 rfl rfl rfl (by simp)
theorem State.Inv.takeException {s : State} (h : s.Inv) (e : Exc) (bad : Option DWord) :
    (s.takeException e bad).Inv := h.of_fields h.1 rfl rfl rfl (by simp)
theorem State.Inv.raised {s : State} (h : s.Inv) (e : Exc) (bad : Option DWord) : (s.raised e bad).Inv :=
  h.aged.takeException e bad
theorem State.Inv.returnFromException {s : State} (h : s.Inv) : s.returnFromException.Inv :=
  h.of_fields h.1 rfl rfl rfl (by simp)
theorem State.Inv.softReset {s : State} (h : s.Inv) : s.softReset.Inv := h.of_fields h.1 rfl rfl rfl (by simp)
theorem State.Inv.takeNmi {s : State} (h : s.Inv) : s.takeNmi.Inv := h.of_fields h.1 rfl rfl rfl (by simp)
theorem State.Inv.warmReset {s : State} (h : s.Inv) : s.warmReset.Inv := h.of_fields h.1 rfl rfl rfl (by simp)
theorem State.Inv.takePostponedWatch {s : State} (h : s.Inv) : s.takePostponedWatch.Inv :=
  (h.takeException (.watch s.events.iwPend s.events.dwPend) none).of_same rfl rfl rfl rfl rfl
theorem State.Inv.drained {s : State} (h : s.Inv) : s.drained.Inv := h.of_same rfl rfl rfl rfl rfl
theorem State.Inv.buffered {s : State} (h : s.Inv) (ws : List BufferedWrite) : (s.buffered ws).Inv :=
  h.of_same rfl rfl rfl rfl rfl
theorem State.Inv.inTransit {s : State} (h : s.Inv) (l : LineRef) : (s.inTransit l).Inv := h.of_same rfl rfl rfl rfl rfl
theorem State.Inv.settled {s : State} (h : s.Inv) : s.settled.Inv := h.of_same rfl rfl rfl rfl rfl
theorem State.Inv.singleRead {s : State} (h : s.Inv) : s.singleRead.Inv := h.drained.drawn
theorem State.Inv.afterRead {s : State} (h : s.Inv) (alg : BitVec 3) : (s.afterRead alg).Inv := by
  unfold State.afterRead; split
  · exact h.singleRead
  · exact h
theorem State.Inv.withBusOf {s : State} (h : s.Inv) (t : State) : (s.withBusOf t).Inv := h.of_same rfl rfl rfl rfl rfl
theorem State.Inv.answering {s : State} (h : s.Inv) : s.answering.Inv := h.of_same rfl rfl rfl rfl rfl
theorem State.Inv.countOnce {s : State} (h : s.Inv) : s.countOnce.Inv := h.of_fields h.1 rfl rfl rfl h.2.2.2.2
theorem State.Inv.countTimes (n : Nat) : ∀ {s : State}, s.Inv → (s.countTimes n).Inv := by
  induction n with
  | zero => exact id
  | succ n ih => exact fun h => ih h.countOnce
theorem State.Inv.tick {s : State} (h : s.Inv) : s.tick.Inv := by
  unfold State.tick; split
  · exact h.countOnce.of_same rfl rfl rfl rfl rfl
  · exact h.of_same rfl rfl rfl rfl rfl
theorem State.Inv.timed {s : State} (h : s.Inv) (ticks : Option Nat) : (s.timed ticks).Inv := by
  cases ticks with
  | none => exact h.tick
  | some n => exact h.countTimes n

/-- CacheErr's bits 24:22 and 2 are zero whatever the error (11_cp0_registers R111). -/
theorem ParityError.toWord_zero_bits (p : ParityError) : p.toWord &&& 0x01C00004 = 0 := by
  unfold ParityError.toWord
  generalize p.pa.extractLsb' 3 19 = x
  generalize p.va.extractLsb' 12 2 = y
  generalize bit p.data = a
  generalize bit p.ed = b
  generalize bit p.et = c
  generalize bit p.ee = d
  show (a ++ 0#1 ++ b ++ c ++ 0#1 ++ d ++ 0#1 ++ 0#3 ++ x ++ 0#1 ++ y : BitVec (1+1+1+1+1+1+1+3+19+1+2)) &&&
    (0#1 ++ 0#1 ++ 0#1 ++ 0#1 ++ 0#1 ++ 0#1 ++ 0#1 ++ 7#3 ++ 0#19 ++ 1#1 ++ 0#2) = _
  simp only [BitVec.and_append, BitVec.and_zero]
  rfl

theorem State.Inv.takeCacheError {s : State} (h : s.Inv) (p : ParityError) : (s.takeCacheError p).Inv :=
  ⟨h.1, h.2.1, h.2.2.1, p.toWord_zero_bits, by simp⟩

theorem State.Inv.coldReset {s : State} (h : s.Inv) (b : BootMode) : (s.coldReset b).Inv :=
  ⟨h.1, rfl, (show (0x22233333 : Word) &&& ~~~calgMask = 0 by decide),
    (show (0 : Word) &&& 0x01C00004 = 0 by decide), fun hn => by simp [State.coldReset, State.reset] at hn⟩

/-! ## The caches -/

theorem State.Inv.setDLine {s : State} (h : s.Inv) (w : Way) (i : BitVec 7) (l : DLine) : (s.setDLine w i l).Inv :=
  h.of_same rfl rfl rfl rfl rfl
theorem State.Inv.setDFifo {s : State} (h : s.Inv) (w : Way) (i : BitVec 7) : (s.setDFifo w i).Inv :=
  h.of_same rfl rfl rfl rfl rfl
theorem State.Inv.setILine {s : State} (h : s.Inv) (w : Way) (i : BitVec 7) (l : ILine) : (s.setILine w i l).Inv :=
  h.of_same rfl rfl rfl rfl rfl
theorem State.Inv.setIFifo {s : State} (h : s.Inv) (w : Way) (i : BitVec 7) : (s.setIFifo w i).Inv :=
  h.of_same rfl rfl rfl rfl rfl

/-- The last byte of a line still lies within 32 bits. -/
theorem lineBase_le (tag : BitVec 20) (i : BitVec 7) : lineBase tag i ≤ 2 ^ 32 - 32 := by
  unfold lineBase
  have h : (tag ++ i ++ 0#5).toNat = (tag ++ i).toNat <<< 5 ||| (0#5).toNat := BitVec.toNat_append ..
  have h2 : (tag ++ i).toNat < 2 ^ 27 := (tag ++ i).isLt
  rw [h]
  simp only [BitVec.toNat_ofNat, Nat.zero_mod, Nat.or_zero, Nat.shiftLeft_eq]
  omega

theorem lineBytes_lt {base a : Nat} (hb : base ≤ 2 ^ 32 - 32) (ha : a ∈ lineBytes base) : a < 2 ^ 32 := by
  simp only [lineBytes, List.mem_map, List.mem_range] at ha
  obtain ⟨k, hk, rfl⟩ := ha
  omega

theorem zip_fst_lt {xs : List Nat} {bs : List Byte} (h : ∀ x ∈ xs, x < 2 ^ 32) :
    ∀ w ∈ xs.zip bs, w.1 < 2 ^ 32 := fun _ hw => h _ (List.of_mem_zip hw).1

theorem State.Inv.writeLine {s : State} (h : s.Inv) (tag : BitVec 20) (i : BitVec 7) (data : Vector Byte 32) :
    (s.writeLine (lineBase tag i) data).Inv :=
  h.of_fields (wf_writeBytes _ _ h.1 (zip_fst_lt fun _ hx => lineBytes_lt (lineBase_le tag i) hx)) rfl rfl rfl
    h.2.2.2.2

theorem State.Inv.writeBackLine {s : State} (h : s.Inv) (i : BitVec 7) (l : DLine) : (s.writeBackLine i l).Inv :=
  h.writeLine l.tag i l.data

theorem State.Inv.evict {s : State} (h : s.Inv) (w : Way) (i : BitVec 7) : (s.evict w i).Inv := by
  unfold State.evict; split
  · exact h.writeBackLine _ _
  · exact h

theorem State.Inv.dRefillBegun {s : State} (h : s.Inv) (w : Way) (i : BitVec 7) : (s.dRefillBegun w i).Inv :=
  (h.drawn.drained.inTransit _).evict _ _

theorem State.Inv.dRefill {s : State} (h : s.Inv) (pa : Word) : (s.dRefill pa).Inv :=
  ((h.dRefillBegun _ _).setDLine _ _ _).setDFifo _ _

theorem State.Inv.dRefillFailed {s : State} (h : s.Inv) (pa : Word) : (s.dRefillFailed pa).Inv :=
  ((h.dRefillBegun _ _).setDLine _ _ _).withFresh _

theorem State.Inv.dRefillTried {s : State} (h : s.Inv) (pa : Word) (xs : List Nat) : (s.dRefillTried pa xs).Inv := by
  unfold State.dRefillTried; split
  · exact h.dRefillFailed pa
  · exact h.dRefill pa

theorem State.Inv.iRefillBegun {s : State} (h : s.Inv) (w : Way) (i : BitVec 7) : (s.iRefillBegun w i).Inv :=
  h.drawn.drained.inTransit _

theorem State.Inv.iInstall {s : State} (h : s.Inv) (w : Way) (pa : Word) (l : ILine) : (s.iInstall w pa l).Inv :=
  ((h.iRefillBegun _ _).setILine _ _ _).setIFifo _ _

theorem State.Inv.iRefill {s : State} (h : s.Inv) (pa : Word) : (s.iRefill pa).Inv := h.iInstall _ _ _

theorem State.Inv.iFailed {s : State} (h : s.Inv) (w : Way) (pa : Word) : (s.iFailed w pa).Inv :=
  ((h.iRefillBegun _ _).setILine _ _ _).withFresh _

theorem State.Inv.iRefillFailed {s : State} (h : s.Inv) (pa : Word) : (s.iRefillFailed pa).Inv := h.iFailed _ _

/-! ## Data accesses -/

theorem State.Inv.dataAddress {s : State} (h : s.Inv) (va : DWord) (align : Nat) (store : Bool) :
    (s.dataAddress va align store).All State.Inv := by
  unfold State.dataAddress
  split
  · trivial
  · split
    · exact h.raised _ _
    · exact h.raised _ _
    · split
      · exact h.raised _ _
      · exact h

theorem State.Inv.dataRefilled {s : State} (h : s.Inv) (pa : Word) (alg : BitVec 3) (xs : List Nat)
    (store noticed : Bool) : (s.dataRefilled pa alg xs store noticed).All State.Inv := by
  unfold State.dataRefilled
  have hp : (if noticed = true then s.postponeDwatch else s).Inv := by
    split
    · exact h.postponeDwatch
    · exact h
  revert hp
  generalize (if noticed = true then s.postponeDwatch else s) = t
  intro hp
  split
  · exact h.raised _ _
  · split
    · trivial
    · dsimp only
      split
      · split
        · exact hp
        · split
          · exact hp.singleRead.raised _ _
          · exact hp
      · split
        · split
          · exact (hp.dRefillFailed pa).raised _ _
          · exact hp.dRefill pa
        · exact hp

theorem State.Inv.dataCacheError {s : State} (h : s.Inv) (p : ParityError) (pa : Word) (alg : BitVec 3)
    (xs : List Nat) (store : Bool) : (s.dataCacheError p pa alg xs store).All State.Inv := by
  unfold State.dataCacheError
  split
  · trivial
  · refine State.Inv.takeCacheError (State.Inv.aged ?_) p
    split
    · exact h.singleRead
    · split
      · exact h.dRefillTried pa xs
      · exact h

theorem State.Inv.dataReady {s : State} (h : s.Inv) (va : DWord) (pa : Word) (alg : BitVec 3) (xs : List Nat)
    (store : Bool) : (s.dataReady va pa alg xs store).All State.Inv := by
  unfold State.dataReady
  have hd : (if s.dwatchUnsure va store = true then s.drawn else s).Inv := by
    split
    · exact h.drawn
    · exact h
  revert hd
  generalize (if s.dwatchUnsure va store = true then s.drawn else s) = t
  intro hd
  dsimp only
  split
  · trivial
  · split
    · trivial
    · split
      · exact hd.dataCacheError _ _ _ _ _
      · exact hd.dataRefilled _ _ _ _ _

theorem State.Inv.load {s : State} (h : s.Inv) (sp : Span) : (s.load sp).All State.Inv :=
  (h.dataAddress _ _ _).bind fun _ _ h1 => (h1.dataReady _ _ _ _ _).bind fun _ _ h2 => h2.afterRead _

theorem physical_lt (sp : Span) (reverse : Bool) (pa : Word) : ∀ x ∈ sp.physical reverse pa, x < 2 ^ 32 := by
  intro x hx
  simp only [Span.physical, List.mem_map] at hx
  obtain ⟨k, _, rfl⟩ := hx
  exact BitVec.isLt _

theorem State.Inv.writeStore {s : State} (h : s.Inv) (va : DWord) (pa : Word) (alg : BitVec 3)
    (ws : List (Nat × Byte)) (hw : ∀ w ∈ ws, w.1 < 2 ^ 32) : (s.writeStore va pa alg ws).Inv := by
  have hf := s.writeStore_frame va pa alg ws
  refine h.of_fields ?_ (by rw [hf.1]) (by rw [hf.2.2.2.2.2.2.2.2.2.1]) (by rw [hf.2.2.2.2.2.2.2.2.2.1])
    (by rw [hf.2.2.2.2.1, hf.2.2.2.2.2.1]; exact h.2.2.2.2)
  unfold State.writeStore
  dsimp only
  split <;> split <;> first
    | exact h.1
    | exact wf_writeBytes _ _ h.1 hw
    | (split <;> exact h.1)

theorem State.Inv.storeReady {s : State} (h : s.Inv) (sp : Span) :
    (s.storeReady sp).All State.Inv :=
  (h.dataAddress _ _ _).bind fun _ _ h1 => (h1.dataReady _ _ _ _ _).bind fun _ _ h2 => h2

theorem State.Inv.store {s : State} (h : s.Inv) (sp : Span) (bs : List Byte) : (s.store sp bs).All State.Inv := by
  unfold State.store State.storeReady
  cases hx : s.dataAddress sp.va sp.align true with
  | ok v s1 =>
    have h1 : s1.Inv := by have := h.dataAddress sp.va sp.align true; rw [hx] at this; exact this
    obtain ⟨pa, alg⟩ := v
    have h2 := h1.dataReady sp.va pa alg (sp.physical s1.cp0.status.reverseEndian pa) true
    dsimp only [Access.bind]
    cases hy : s1.dataReady sp.va pa alg (sp.physical s1.cp0.status.reverseEndian pa) true with
    | ok u s2 =>
      rw [hy] at h2
      dsimp only
      split
      · trivial
      · exact State.Inv.writeStore h2 _ _ _ _ (zip_fst_lt (physical_lt _ _ _))
    | trap s2 => rw [hy] at h2; exact h2
    | fault r => trivial
    | refused r => trivial
  | trap s1 => have := h.dataAddress sp.va sp.align true; rw [hx] at this; exact this
  | fault r => trivial
  | refused r => trivial

/-! ## The instruction fetch -/

theorem State.Inv.fetchAddress {s : State} (h : s.Inv) : s.fetchAddress.All State.Inv := by
  unfold State.fetchAddress
  split
  · trivial
  · split
    · exact h.takeException _ _
    · exact h.takeException _ _
    · split
      · exact h.takeException _ _
      · exact h

theorem State.Inv.iwatchCheck {s : State} (h : s.Inv) : s.iwatchCheck.All State.Inv := by
  unfold State.iwatchCheck
  have hd : (if 0 < s.hazards.iwWindow then s.drawn else s).Inv := by
    split
    · exact h.drawn
    · exact h
  revert hd
  generalize (if 0 < s.hazards.iwWindow then s.drawn else s) = t
  intro hd
  dsimp only
  split
  · split
    · exact hd
    · split
      · exact hd.takeException _ _
      · exact hd.of_same rfl rfl rfl rfl rfl
  · exact h

theorem State.Inv.fetchUncached {s : State} (h : s.Inv) (pa : Word) : (s.fetchUncached pa).All State.Inv := by
  unfold State.fetchUncached
  dsimp only
  split
  · trivial
  · split
    · exact h.singleRead.takeCacheError _
    · split
      · exact h.singleRead.takeException _ _
      · exact h.singleRead

theorem State.Inv.fetchCached {s : State} (h : s.Inv) (pa : Word) : (s.fetchCached pa).All State.Inv := by
  unfold State.fetchCached
  split
  · trivial
  · unfold State.fetchHit
    dsimp only
    split
    · exact h.takeCacheError _
    · exact h
  · dsimp only
    split
    · trivial
    · split
      · refine State.Inv.takeCacheError ?_ _
        split
        · exact h.iRefillFailed pa
        · exact h.iRefill pa
      · split
        · exact (h.iRefillFailed pa).takeException _ _
        · exact h.iRefill pa

theorem State.Inv.fetch {s : State} (h : s.Inv) : s.fetch.All State.Inv :=
  h.fetchAddress.bind fun _ _ h1 => h1.iwatchCheck.bind fun _ _ h2 => by
    split
    · exact h2.fetchUncached _
    · split
      · trivial
      · exact h2.fetchCached _

/-! ## CACHE -/

theorem State.Inv.sendChecked {s : State} (h : s.Inv) (va : DWord) (pa : Word) (line : LineRef) (tag : BitVec 20)
    (i : BitVec 7) (data : Vector Byte 32) (ed et : Bool) :
    (s.sendChecked va pa line (lineBase tag i) data ed et).All State.Inv := by
  unfold State.sendChecked
  dsimp only
  split
  · trivial
  · split
    · exact ((h.writeLine tag i data).inTransit line).aged.takeCacheError _
    · exact (h.writeLine tag i data).inTransit line

theorem State.Inv.sendLine {s : State} (h : s.Inv) (va : DWord) (pa : Word) (w : Way) (i : BitVec 7) (l : DLine) :
    (s.sendLine va pa w i l).All State.Inv := h.sendChecked _ _ _ _ _ _ _ _

theorem State.Inv.sendIfDirty {s : State} (h : s.Inv) (va : DWord) (pa : Word) (w : Way) (i : BitVec 7) (l : DLine) :
    (s.sendIfDirty va pa w i l).All State.Inv := by
  unfold State.sendIfDirty
  split
  · exact h.sendLine _ _ _ _ _
  · exact h

theorem State.Inv.writeBack {s : State} (h : s.Inv) (va : DWord) (pa : Word) (w : Way) (i : BitVec 7) (l : DLine) :
    (s.writeBack va pa w i l).All State.Inv := by
  unfold State.writeBack
  split
  · exact h.sendLine _ _ _ _ _
  · exact h

theorem State.Inv.sendILine {s : State} (h : s.Inv) (va : DWord) (pa : Word) (w : Way) (i : BitVec 7) (l : ILine) :
    (s.sendILine va pa w i l).All State.Inv := h.sendChecked _ _ _ _ _ _ _ _

theorem State.Inv.fill {s : State} (h : s.Inv) (va : DWord) (pa : Word) : (s.fill va pa).All State.Inv := by
  unfold State.fill
  dsimp only
  split
  · trivial
  · split
    · refine State.Inv.takeCacheError (State.Inv.aged ?_) _
      split
      · exact h.iFailed _ _
      · exact h.iInstall _ _ _
    · split
      · exact (h.iFailed _ _).raised _ _
      · exact h.iInstall _ _ _

theorem State.Inv.createDirtyExclusive {s : State} (h : s.Inv) (va : DWord) (pa : Word) :
    (s.createDirtyExclusive va pa).All State.Inv := by
  unfold State.createDirtyExclusive
  dsimp only
  split
  · trivial
  · exact h.setDLine _ _ _
  · exact (h.drawn.sendIfDirty _ _ _ _ _).bind fun _ _ h1 =>
      ((h1.setDLine _ _ _).setDFifo _ _).withFresh _

theorem State.Inv.hitD {s : State} (h : s.Inv) (pa : Word) (f : Way → DLine → State → Access Unit)
    (hf : ∀ w l t, t.Inv → (f w l t).All State.Inv) : (s.hitD pa f).All State.Inv := by
  unfold State.hitD
  split
  · trivial
  · exact h.setCh _
  · exact (hf _ _ _ h).bind fun _ _ h1 => h1.setCh _

theorem State.Inv.hitI {s : State} (h : s.Inv) (pa : Word) (f : Way → ILine → State → Access Unit)
    (hf : ∀ w l t, t.Inv → (f w l t).All State.Inv) : (s.hitI pa f).All State.Inv := by
  unfold State.hitI
  split
  · trivial
  · exact h.setCh _
  · exact (hf _ _ _ h).bind fun _ _ h1 => h1.setCh _

theorem State.Inv.cacheOp {s : State} (h : s.Inv) (op : CacheOperation) (va : DWord) (pa : Word) :
    (s.cacheOp op va pa).All State.Inv := by
  cases op with
  | indexInvalidateI => exact h.setILine _ _ _
  | indexWritebackInvalidateD => exact (h.writeBack _ _ _ _ _).bind fun _ _ h1 => h1.setDLine _ _ _
  | indexLoadTagI => exact h.setTag _ _
  | indexLoadTagD => exact h.setTag _ _
  | indexStoreTagI => exact h.setILine _ _ _
  | indexStoreTagD => exact h.setDLine _ _ _
  | createDirtyExclusiveD => exact h.createDirtyExclusive va pa
  | hitInvalidateI =>
    unfold State.cacheOp
    refine h.hitI pa _ ?_
    intro w l t h1
    exact h1.setILine _ _ _
  | hitInvalidateD =>
    unfold State.cacheOp
    refine h.hitD pa _ ?_
    intro w l t h1
    exact h1.setDLine _ _ _
  | fillI => exact h.fill va pa
  | hitWritebackInvalidateD =>
    unfold State.cacheOp
    refine h.hitD pa _ ?_
    intro w l t h1
    exact (h1.writeBack _ _ _ _ _).bind fun _ _ h2 => h2.setDLine _ _ _
  | hitWritebackI =>
    unfold State.cacheOp
    refine h.hitI pa _ ?_
    intro w l t h1
    exact h1.sendILine _ _ _ _ _
  | hitWritebackD =>
    unfold State.cacheOp
    refine h.hitD pa _ ?_
    intro w l t h1
    exact (h1.writeBack _ _ _ _ _).bind fun _ _ h2 => h2.setDLine _ _ _

/-! ## Inputs -/

theorem State.Inv.agentWrite {s : State} (h : s.Inv) (addr : Word) (v : Byte) :
    ({ s with mem := writeByte s.platform s.mem addr.toNat v } : State).Inv :=
  h.of_fields (wf_writeByte _ v h.1 addr.isLt) rfl rfl rfl h.2.2.2.2

theorem State.Inv.setPins {s : State} (h : s.Inv) (int : BitVec 6) (nmi extRqst : Bool) : (s.setPins int nmi extRqst).Inv :=
  (h.setEvents { s.events with intPins := int, nmiPin := nmi, extRqst := extRqst }).of_same rfl rfl rfl rfl rfl

theorem State.Inv.receive {s t : State} (h : s.Inv) {i : Input} (hd : s.receive i = .ok t) : t.Inv := by
  cases i <;> simp only [State.receive, Except.ok.injEq, reduceCtorEq] at hd
  all_goals subst hd
  · exact h.setPins _ _ _
  · exact (h.setEvents _).awake
  · exact h.awake
  · exact h.agentWrite _ _

theorem State.Inv.deliver {s t : State} (h : s.Inv) {i : Input} (hd : s.deliver i = .ok t) : t.Inv := by
  obtain ⟨u, hu, rfl⟩ := State.deliver_ok hd
  exact (h.woken.receive hu).woken

theorem State.Inv.deliverAll {is : List Input} : ∀ {s t : State}, s.Inv → s.deliverAll is = .ok t → t.Inv := by
  induction is with
  | nil => intro s t h hd; cases hd; exact h
  | cons i is ih =>
    intro s t h hd
    unfold State.deliverAll at hd
    split at hd
    · rename_i u hu
      exact ih (h.deliver hu) hd
    · cases hd

/-! ## Resets -/

theorem State.Inv.loseByte {s : State} (h : s.Inv) (x : Word) : (s.loseByte x).Inv :=
  h.of_fields (wf_writeByte _ _ h.1 x.isLt) rfl rfl rfl h.2.2.2.2

theorem State.Inv.loseLine {s : State} (h : s.Inv) (l : LineRef) : (s.loseLine l).Inv := by
  unfold State.loseLine
  dsimp only
  split
  · exact (h.setILine _ _ _).withFresh _
  · exact (h.setDLine _ _ _).withFresh _

theorem inv_foldl {α : Type} {f : State → α → State} (hf : ∀ s x, State.Inv s → State.Inv (f s x)) (xs : List α) :
    ∀ {s : State}, s.Inv → (xs.foldl f s).Inv := by
  induction xs with
  | nil => intro s h; exact h
  | cons x xs ih => intro s h; exact ih (hf s x h)

theorem State.Inv.interruptBus {s : State} (h : s.Inv) (lost : Nat) : (s.interruptBus lost).Inv :=
  (inv_foldl (fun _ x h => h.loseByte x) _ (inv_foldl (fun _ l h => h.loseLine l) s.bus.lines h)).of_same rfl rfl rfl
    rfl rfl

/-! ## The placed word -/

/-- The word placed for a fetch keeps the canonical form of memory. -/
theorem State.Inv.placeWord {s : State} (h : s.Inv) (w : Word) (hpa : ∀ pa alg, s.fetchPa = some (pa, alg) →
    pa.toNat + 4 ≤ 2 ^ 32) : (s.placeWord w).Inv := by
  unfold State.placeWord
  split
  · exact h
  · rename_i pa alg heq
    have hl : (s.wordBytesOf w).length = 4 := by
      unfold State.wordBytesOf toBytes
      split <;> simp [leBytes]
    have hm : (putMem s.mem pa.toNat (s.wordBytesOf w)).wf = true :=
      wf_putMem _ _ h.1 (by rw [hl]; exact hpa pa alg heq)
    have ht : ({ s with mem := putMem s.mem pa.toNat (s.wordBytesOf w) } : State).Inv :=
      h.of_fields hm rfl rfl rfl h.2.2.2.2
    dsimp only
    split
    · exact ht
    · split
      · exact ht.setILine _ _ _
      · exact ht

end Sys2Proof.Machine
end

