-- ==== Sys2Proof/Laws/PerInstr.lean ====
section
/-!
SUPPORT. Sys2Proof/Laws/PerInstr.lean: a family of one lemma per constructor of Instr: the encoded word has the bits that
its row of the opcode table fixes.
-/

namespace Sys2Proof.Laws

/-! ## Masks, field by field -/

theorem iType_and (op : BitVec 6) (rs : BitVec 5) (rt : BitVec 5) (imm : BitVec 16) (m0 : BitVec 6) (m1 : BitVec 5) (m2 : BitVec 5) (m3 : BitVec 16) :
    iType op rs rt imm &&& (m0 ++ m1 ++ m2 ++ m3) = (op &&& m0) ++ (rs &&& m1) ++ (rt &&& m2) ++ (imm &&& m3) := by
  show (op ++ rs ++ rt ++ imm : BitVec (6+5+5+16)) &&& (m0 ++ m1 ++ m2 ++ m3) = _
  simp only [BitVec.and_append]

theorem jType_and (op : BitVec 6) (target : BitVec 26) (m0 : BitVec 6) (m1 : BitVec 26) :
    jType op target &&& (m0 ++ m1) = (op &&& m0) ++ (target &&& m1) := by
  show (op ++ target : BitVec (6+26)) &&& (m0 ++ m1) = _
  simp only [BitVec.and_append]

theorem rType_and (op : BitVec 6) (rs : BitVec 5) (rt : BitVec 5) (rd : BitVec 5) (sa : BitVec 5) (fn : BitVec 6) (m0 : BitVec 6) (m1 : BitVec 5) (m2 : BitVec 5) (m3 : BitVec 5) (m4 : BitVec 5) (m5 : BitVec 6) :
    rType op rs rt rd sa fn &&& (m0 ++ m1 ++ m2 ++ m3 ++ m4 ++ m5) = (op &&& m0) ++ (rs &&& m1) ++ (rt &&& m2) ++ (rd &&& m3) ++ (sa &&& m4) ++ (fn &&& m5) := by
  show (op ++ rs ++ rt ++ rd ++ sa ++ fn : BitVec (6+5+5+5+5+6)) &&& (m0 ++ m1 ++ m2 ++ m3 ++ m4 ++ m5) = _
  simp only [BitVec.and_append]

theorem code20Type_and (code : BitVec 20) (fn : BitVec 6) (m0 : BitVec 6) (m1 : BitVec 20) (m2 : BitVec 6) :
    code20Type code fn &&& (m0 ++ m1 ++ m2) = (0#6 &&& m0) ++ (code &&& m1) ++ (fn &&& m2) := by
  show (0#6 ++ code ++ fn : BitVec (6+20+6)) &&& (m0 ++ m1 ++ m2) = _
  simp only [BitVec.and_append]

theorem code10Type_and (rs : BitVec 5) (rt : BitVec 5) (code : BitVec 10) (fn : BitVec 6) (m0 : BitVec 6) (m1 : BitVec 5) (m2 : BitVec 5) (m3 : BitVec 10) (m4 : BitVec 6) :
    code10Type rs rt code fn &&& (m0 ++ m1 ++ m2 ++ m3 ++ m4) = (0#6 &&& m0) ++ (rs &&& m1) ++ (rt &&& m2) ++ (code &&& m3) ++ (fn &&& m4) := by
  show (0#6 ++ rs ++ rt ++ code ++ fn : BitVec (6+5+5+10+6)) &&& (m0 ++ m1 ++ m2 ++ m3 ++ m4) = _
  simp only [BitVec.and_append]

theorem cop1Type_and (fmtLow : BitVec 4) (ft : BitVec 5) (fs : BitVec 5) (fd : BitVec 5) (fn : BitVec 6) (m0 : BitVec 6) (m1 : BitVec 1) (m2 : BitVec 4) (m3 : BitVec 5) (m4 : BitVec 5) (m5 : BitVec 5) (m6 : BitVec 6) :
    cop1Type fmtLow ft fs fd fn &&& (m0 ++ m1 ++ m2 ++ m3 ++ m4 ++ m5 ++ m6) = (0x11#6 &&& m0) ++ (1#1 &&& m1) ++ (fmtLow &&& m2) ++ (ft &&& m3) ++ (fs &&& m4) ++ (fd &&& m5) ++ (fn &&& m6) := by
  show (0x11#6 ++ 1#1 ++ fmtLow ++ ft ++ fs ++ fd ++ fn : BitVec (6+1+4+5+5+5+6)) &&& (m0 ++ m1 ++ m2 ++ m3 ++ m4 ++ m5 ++ m6) = _
  simp only [BitVec.and_append]

/-- The word of `i` carries the fixed bits of its row (30_encoding R255 to R264). -/
def EncodingRow.Statement (i : Instr) : Prop := encode i &&& i.row.1 = i.row.2

theorem iType_mask_fc000000 (op : BitVec 6) (rs : BitVec 5) (rt : BitVec 5) (imm : BitVec 16) :
    iType op rs rt imm &&& 0xfc000000 = (op ++ 0#5 ++ 0#5 ++ 0#16 : BitVec (6+5+5+16)) := by
  refine (iType_and op rs rt imm (BitVec.allOnes 6) 0#5 0#5 0#16).trans ?_
  simp only [BitVec.and_allOnes, BitVec.and_zero]

theorem rType_mask_fc00003f (op : BitVec 6) (rs : BitVec 5) (rt : BitVec 5) (rd : BitVec 5) (sa : BitVec 5) (fn : BitVec 6) :
    rType op rs rt rd sa fn &&& 0xfc00003f = (op ++ 0#5 ++ 0#5 ++ 0#5 ++ 0#5 ++ fn : BitVec (6+5+5+5+5+6)) := by
  refine (rType_and op rs rt rd sa fn (BitVec.allOnes 6) 0#5 0#5 0#5 0#5 (BitVec.allOnes 6)).trans ?_
  simp only [BitVec.and_allOnes, BitVec.and_zero]

theorem code20Type_mask_fc00003f (code : BitVec 20) (fn : BitVec 6) :
    code20Type code fn &&& 0xfc00003f = (0#6 ++ 0#20 ++ fn : BitVec (6+20+6)) := by
  refine (code20Type_and code fn (BitVec.allOnes 6) 0#20 (BitVec.allOnes 6)).trans ?_
  simp only [BitVec.and_allOnes, BitVec.and_zero]

theorem code10Type_mask_fc00003f (rs : BitVec 5) (rt : BitVec 5) (code : BitVec 10) (fn : BitVec 6) :
    code10Type rs rt code fn &&& 0xfc00003f = (0#6 ++ 0#5 ++ 0#5 ++ 0#10 ++ fn : BitVec (6+5+5+10+6)) := by
  refine (code10Type_and rs rt code fn (BitVec.allOnes 6) 0#5 0#5 0#10 (BitVec.allOnes 6)).trans ?_
  simp only [BitVec.and_allOnes, BitVec.and_zero]

theorem jType_mask_fc000000 (op : BitVec 6) (target : BitVec 26) :
    jType op target &&& 0xfc000000 = (op ++ 0#26 : BitVec (6+26)) := by
  refine (jType_and op target (BitVec.allOnes 6) 0#26).trans ?_
  simp only [BitVec.and_allOnes, BitVec.and_zero]

theorem iType_mask_fc1f0000 (op : BitVec 6) (rs : BitVec 5) (rt : BitVec 5) (imm : BitVec 16) :
    iType op rs rt imm &&& 0xfc1f0000 = (op ++ 0#5 ++ rt ++ 0#16 : BitVec (6+5+5+16)) := by
  refine (iType_and op rs rt imm (BitVec.allOnes 6) 0#5 (BitVec.allOnes 5) 0#16).trans ?_
  simp only [BitVec.and_allOnes, BitVec.and_zero]

theorem iType_mask_ffff0000 (op : BitVec 6) (rs : BitVec 5) (rt : BitVec 5) (imm : BitVec 16) :
    iType op rs rt imm &&& 0xffff0000 = (op ++ rs ++ rt ++ 0#16 : BitVec (6+5+5+16)) := by
  refine (iType_and op rs rt imm (BitVec.allOnes 6) (BitVec.allOnes 5) (BitVec.allOnes 5) 0#16).trans ?_
  simp only [BitVec.and_allOnes, BitVec.and_zero]

theorem rType_mask_ffe00000 (op : BitVec 6) (rs : BitVec 5) (rt : BitVec 5) (rd : BitVec 5) (sa : BitVec 5) (fn : BitVec 6) :
    rType op rs rt rd sa fn &&& 0xffe00000 = (op ++ rs ++ 0#5 ++ 0#5 ++ 0#5 ++ 0#6 : BitVec (6+5+5+5+5+6)) := by
  refine (rType_and op rs rt rd sa fn (BitVec.allOnes 6) (BitVec.allOnes 5) 0#5 0#5 0#5 0#6).trans ?_
  simp only [BitVec.and_allOnes, BitVec.and_zero]

theorem rType_mask_ffe0003f (op : BitVec 6) (rs : BitVec 5) (rt : BitVec 5) (rd : BitVec 5) (sa : BitVec 5) (fn : BitVec 6) :
    rType op rs rt rd sa fn &&& 0xffe0003f = (op ++ rs ++ 0#5 ++ 0#5 ++ 0#5 ++ fn : BitVec (6+5+5+5+5+6)) := by
  refine (rType_and op rs rt rd sa fn (BitVec.allOnes 6) (BitVec.allOnes 5) 0#5 0#5 0#5 (BitVec.allOnes 6)).trans ?_
  simp only [BitVec.and_allOnes, BitVec.and_zero]

theorem cop1Type_mask_fe000000 (fmtLow : BitVec 4) (ft : BitVec 5) (fs : BitVec 5) (fd : BitVec 5) (fn : BitVec 6) :
    cop1Type fmtLow ft fs fd fn &&& 0xfe000000 = (0x11#6 ++ 1#1 ++ 0#4 ++ 0#5 ++ 0#5 ++ 0#5 ++ 0#6 : BitVec (6+1+4+5+5+5+6)) := by
  refine (cop1Type_and fmtLow ft fs fd fn (BitVec.allOnes 6) (BitVec.allOnes 1) 0#4 0#5 0#5 0#5 0#6).trans ?_
  simp only [BitVec.and_allOnes, BitVec.and_zero]

theorem EncodingRow.lb (base : BitVec 5) (rt : BitVec 5) (offset : BitVec 16) : EncodingRow.Statement (.lb base rt offset) :=
  iType_mask_fc000000 32#6 base rt offset
theorem EncodingRow.lh (base : BitVec 5) (rt : BitVec 5) (offset : BitVec 16) : EncodingRow.Statement (.lh base rt offset) :=
  iType_mask_fc000000 33#6 base rt offset
theorem EncodingRow.lwl (base : BitVec 5) (rt : BitVec 5) (offset : BitVec 16) : EncodingRow.Statement (.lwl base rt offset) :=
  iType_mask_fc000000 34#6 base rt offset
theorem EncodingRow.lw (base : BitVec 5) (rt : BitVec 5) (offset : BitVec 16) : EncodingRow.Statement (.lw base rt offset) :=
  iType_mask_fc000000 35#6 base rt offset
theorem EncodingRow.lbu (base : BitVec 5) (rt : BitVec 5) (offset : BitVec 16) : EncodingRow.Statement (.lbu base rt offset) :=
  iType_mask_fc000000 36#6 base rt offset
theorem EncodingRow.lhu (base : BitVec 5) (rt : BitVec 5) (offset : BitVec 16) : EncodingRow.Statement (.lhu base rt offset) :=
  iType_mask_fc000000 37#6 base rt offset
theorem EncodingRow.lwr (base : BitVec 5) (rt : BitVec 5) (offset : BitVec 16) : EncodingRow.Statement (.lwr base rt offset) :=
  iType_mask_fc000000 38#6 base rt offset
theorem EncodingRow.lwu (base : BitVec 5) (rt : BitVec 5) (offset : BitVec 16) : EncodingRow.Statement (.lwu base rt offset) :=
  iType_mask_fc000000 39#6 base rt offset
theorem EncodingRow.sb (base : BitVec 5) (rt : BitVec 5) (offset : BitVec 16) : EncodingRow.Statement (.sb base rt offset) :=
  iType_mask_fc000000 40#6 base rt offset
theorem EncodingRow.sh (base : BitVec 5) (rt : BitVec 5) (offset : BitVec 16) : EncodingRow.Statement (.sh base rt offset) :=
  iType_mask_fc000000 41#6 base rt offset
theorem EncodingRow.swl (base : BitVec 5) (rt : BitVec 5) (offset : BitVec 16) : EncodingRow.Statement (.swl base rt offset) :=
  iType_mask_fc000000 42#6 base rt offset
theorem EncodingRow.sw (base : BitVec 5) (rt : BitVec 5) (offset : BitVec 16) : EncodingRow.Statement (.sw base rt offset) :=
  iType_mask_fc000000 43#6 base rt offset
theorem EncodingRow.sdl (base : BitVec 5) (rt : BitVec 5) (offset : BitVec 16) : EncodingRow.Statement (.sdl base rt offset) :=
  iType_mask_fc000000 44#6 base rt offset
theorem EncodingRow.sdr (base : BitVec 5) (rt : BitVec 5) (offset : BitVec 16) : EncodingRow.Statement (.sdr base rt offset) :=
  iType_mask_fc000000 45#6 base rt offset
theorem EncodingRow.swr (base : BitVec 5) (rt : BitVec 5) (offset : BitVec 16) : EncodingRow.Statement (.swr base rt offset) :=
  iType_mask_fc000000 46#6 base rt offset
theorem EncodingRow.ll (base : BitVec 5) (rt : BitVec 5) (offset : BitVec 16) : EncodingRow.Statement (.ll base rt offset) :=
  iType_mask_fc000000 48#6 base rt offset
theorem EncodingRow.lld (base : BitVec 5) (rt : BitVec 5) (offset : BitVec 16) : EncodingRow.Statement (.lld base rt offset) :=
  iType_mask_fc000000 52#6 base rt offset
theorem EncodingRow.ld (base : BitVec 5) (rt : BitVec 5) (offset : BitVec 16) : EncodingRow.Statement (.ld base rt offset) :=
  iType_mask_fc000000 55#6 base rt offset
theorem EncodingRow.ldl (base : BitVec 5) (rt : BitVec 5) (offset : BitVec 16) : EncodingRow.Statement (.ldl base rt offset) :=
  iType_mask_fc000000 26#6 base rt offset
theorem EncodingRow.ldr (base : BitVec 5) (rt : BitVec 5) (offset : BitVec 16) : EncodingRow.Statement (.ldr base rt offset) :=
  iType_mask_fc000000 27#6 base rt offset
theorem EncodingRow.sc (base : BitVec 5) (rt : BitVec 5) (offset : BitVec 16) : EncodingRow.Statement (.sc base rt offset) :=
  iType_mask_fc000000 56#6 base rt offset
theorem EncodingRow.scd (base : BitVec 5) (rt : BitVec 5) (offset : BitVec 16) : EncodingRow.Statement (.scd base rt offset) :=
  iType_mask_fc000000 60#6 base rt offset
theorem EncodingRow.sd (base : BitVec 5) (rt : BitVec 5) (offset : BitVec 16) : EncodingRow.Statement (.sd base rt offset) :=
  iType_mask_fc000000 63#6 base rt offset
theorem EncodingRow.cache (base : BitVec 5) (op : BitVec 5) (offset : BitVec 16) : EncodingRow.Statement (.cache base op offset) :=
  iType_mask_fc000000 47#6 base op offset
theorem EncodingRow.lwc1 (base : BitVec 5) (ft : BitVec 5) (offset : BitVec 16) : EncodingRow.Statement (.lwc1 base ft offset) :=
  iType_mask_fc000000 49#6 base ft offset
theorem EncodingRow.ldc1 (base : BitVec 5) (ft : BitVec 5) (offset : BitVec 16) : EncodingRow.Statement (.ldc1 base ft offset) :=
  iType_mask_fc000000 53#6 base ft offset
theorem EncodingRow.swc1 (base : BitVec 5) (ft : BitVec 5) (offset : BitVec 16) : EncodingRow.Statement (.swc1 base ft offset) :=
  iType_mask_fc000000 57#6 base ft offset
theorem EncodingRow.sdc1 (base : BitVec 5) (ft : BitVec 5) (offset : BitVec 16) : EncodingRow.Statement (.sdc1 base ft offset) :=
  iType_mask_fc000000 61#6 base ft offset
theorem EncodingRow.lwc2 (base : BitVec 5) (rt : BitVec 5) (offset : BitVec 16) : EncodingRow.Statement (.lwc2 base rt offset) :=
  iType_mask_fc000000 50#6 base rt offset
theorem EncodingRow.ldc2 (base : BitVec 5) (rt : BitVec 5) (offset : BitVec 16) : EncodingRow.Statement (.ldc2 base rt offset) :=
  iType_mask_fc000000 54#6 base rt offset
theorem EncodingRow.swc2 (base : BitVec 5) (rt : BitVec 5) (offset : BitVec 16) : EncodingRow.Statement (.swc2 base rt offset) :=
  iType_mask_fc000000 58#6 base rt offset
theorem EncodingRow.sdc2 (base : BitVec 5) (rt : BitVec 5) (offset : BitVec 16) : EncodingRow.Statement (.sdc2 base rt offset) :=
  iType_mask_fc000000 62#6 base rt offset
theorem EncodingRow.addi (rs : BitVec 5) (rt : BitVec 5) (imm : BitVec 16) : EncodingRow.Statement (.addi rs rt imm) :=
  iType_mask_fc000000 8#6 rs rt imm
theorem EncodingRow.addiu (rs : BitVec 5) (rt : BitVec 5) (imm : BitVec 16) : EncodingRow.Statement (.addiu rs rt imm) :=
  iType_mask_fc000000 9#6 rs rt imm
theorem EncodingRow.slti (rs : BitVec 5) (rt : BitVec 5) (imm : BitVec 16) : EncodingRow.Statement (.slti rs rt imm) :=
  iType_mask_fc000000 10#6 rs rt imm
theorem EncodingRow.sltiu (rs : BitVec 5) (rt : BitVec 5) (imm : BitVec 16) : EncodingRow.Statement (.sltiu rs rt imm) :=
  iType_mask_fc000000 11#6 rs rt imm
theorem EncodingRow.andi (rs : BitVec 5) (rt : BitVec 5) (imm : BitVec 16) : EncodingRow.Statement (.andi rs rt imm) :=
  iType_mask_fc000000 12#6 rs rt imm
theorem EncodingRow.ori (rs : BitVec 5) (rt : BitVec 5) (imm : BitVec 16) : EncodingRow.Statement (.ori rs rt imm) :=
  iType_mask_fc000000 13#6 rs rt imm
theorem EncodingRow.xori (rs : BitVec 5) (rt : BitVec 5) (imm : BitVec 16) : EncodingRow.Statement (.xori rs rt imm) :=
  iType_mask_fc000000 14#6 rs rt imm
theorem EncodingRow.daddi (rs : BitVec 5) (rt : BitVec 5) (imm : BitVec 16) : EncodingRow.Statement (.daddi rs rt imm) :=
  iType_mask_fc000000 24#6 rs rt imm
theorem EncodingRow.daddiu (rs : BitVec 5) (rt : BitVec 5) (imm : BitVec 16) : EncodingRow.Statement (.daddiu rs rt imm) :=
  iType_mask_fc000000 25#6 rs rt imm
theorem EncodingRow.lui (rt : BitVec 5) (imm : BitVec 16) : EncodingRow.Statement (.lui rt imm) :=
  iType_mask_fc000000 15#6 0#5 rt imm
theorem EncodingRow.add (rs : BitVec 5) (rt : BitVec 5) (rd : BitVec 5) : EncodingRow.Statement (.add rs rt rd) :=
  rType_mask_fc00003f 0#6 rs rt rd 0#5 32#6
theorem EncodingRow.addu (rs : BitVec 5) (rt : BitVec 5) (rd : BitVec 5) : EncodingRow.Statement (.addu rs rt rd) :=
  rType_mask_fc00003f 0#6 rs rt rd 0#5 33#6
theorem EncodingRow.sub (rs : BitVec 5) (rt : BitVec 5) (rd : BitVec 5) : EncodingRow.Statement (.sub rs rt rd) :=
  rType_mask_fc00003f 0#6 rs rt rd 0#5 34#6
theorem EncodingRow.subu (rs : BitVec 5) (rt : BitVec 5) (rd : BitVec 5) : EncodingRow.Statement (.subu rs rt rd) :=
  rType_mask_fc00003f 0#6 rs rt rd 0#5 35#6
theorem EncodingRow.and (rs : BitVec 5) (rt : BitVec 5) (rd : BitVec 5) : EncodingRow.Statement (.and rs rt rd) :=
  rType_mask_fc00003f 0#6 rs rt rd 0#5 36#6
theorem EncodingRow.or (rs : BitVec 5) (rt : BitVec 5) (rd : BitVec 5) : EncodingRow.Statement (.or rs rt rd) :=
  rType_mask_fc00003f 0#6 rs rt rd 0#5 37#6
theorem EncodingRow.xor (rs : BitVec 5) (rt : BitVec 5) (rd : BitVec 5) : EncodingRow.Statement (.xor rs rt rd) :=
  rType_mask_fc00003f 0#6 rs rt rd 0#5 38#6
theorem EncodingRow.nor (rs : BitVec 5) (rt : BitVec 5) (rd : BitVec 5) : EncodingRow.Statement (.nor rs rt rd) :=
  rType_mask_fc00003f 0#6 rs rt rd 0#5 39#6
theorem EncodingRow.slt (rs : BitVec 5) (rt : BitVec 5) (rd : BitVec 5) : EncodingRow.Statement (.slt rs rt rd) :=
  rType_mask_fc00003f 0#6 rs rt rd 0#5 42#6
theorem EncodingRow.sltu (rs : BitVec 5) (rt : BitVec 5) (rd : BitVec 5) : EncodingRow.Statement (.sltu rs rt rd) :=
  rType_mask_fc00003f 0#6 rs rt rd 0#5 43#6
theorem EncodingRow.dadd (rs : BitVec 5) (rt : BitVec 5) (rd : BitVec 5) : EncodingRow.Statement (.dadd rs rt rd) :=
  rType_mask_fc00003f 0#6 rs rt rd 0#5 44#6
theorem EncodingRow.daddu (rs : BitVec 5) (rt : BitVec 5) (rd : BitVec 5) : EncodingRow.Statement (.daddu rs rt rd) :=
  rType_mask_fc00003f 0#6 rs rt rd 0#5 45#6
theorem EncodingRow.dsub (rs : BitVec 5) (rt : BitVec 5) (rd : BitVec 5) : EncodingRow.Statement (.dsub rs rt rd) :=
  rType_mask_fc00003f 0#6 rs rt rd 0#5 46#6
theorem EncodingRow.dsubu (rs : BitVec 5) (rt : BitVec 5) (rd : BitVec 5) : EncodingRow.Statement (.dsubu rs rt rd) :=
  rType_mask_fc00003f 0#6 rs rt rd 0#5 47#6
theorem EncodingRow.sllv (rs : BitVec 5) (rt : BitVec 5) (rd : BitVec 5) : EncodingRow.Statement (.sllv rs rt rd) :=
  rType_mask_fc00003f 0#6 rs rt rd 0#5 4#6
theorem EncodingRow.srlv (rs : BitVec 5) (rt : BitVec 5) (rd : BitVec 5) : EncodingRow.Statement (.srlv rs rt rd) :=
  rType_mask_fc00003f 0#6 rs rt rd 0#5 6#6
theorem EncodingRow.srav (rs : BitVec 5) (rt : BitVec 5) (rd : BitVec 5) : EncodingRow.Statement (.srav rs rt rd) :=
  rType_mask_fc00003f 0#6 rs rt rd 0#5 7#6
theorem EncodingRow.dsllv (rs : BitVec 5) (rt : BitVec 5) (rd : BitVec 5) : EncodingRow.Statement (.dsllv rs rt rd) :=
  rType_mask_fc00003f 0#6 rs rt rd 0#5 20#6
theorem EncodingRow.dsrlv (rs : BitVec 5) (rt : BitVec 5) (rd : BitVec 5) : EncodingRow.Statement (.dsrlv rs rt rd) :=
  rType_mask_fc00003f 0#6 rs rt rd 0#5 22#6
theorem EncodingRow.dsrav (rs : BitVec 5) (rt : BitVec 5) (rd : BitVec 5) : EncodingRow.Statement (.dsrav rs rt rd) :=
  rType_mask_fc00003f 0#6 rs rt rd 0#5 23#6
theorem EncodingRow.sll (rt : BitVec 5) (rd : BitVec 5) (sa : BitVec 5) : EncodingRow.Statement (.sll rt rd sa) :=
  rType_mask_fc00003f 0#6 0#5 rt rd sa 0#6
theorem EncodingRow.srl (rt : BitVec 5) (rd : BitVec 5) (sa : BitVec 5) : EncodingRow.Statement (.srl rt rd sa) :=
  rType_mask_fc00003f 0#6 0#5 rt rd sa 2#6
theorem EncodingRow.sra (rt : BitVec 5) (rd : BitVec 5) (sa : BitVec 5) : EncodingRow.Statement (.sra rt rd sa) :=
  rType_mask_fc00003f 0#6 0#5 rt rd sa 3#6
theorem EncodingRow.dsll (rt : BitVec 5) (rd : BitVec 5) (sa : BitVec 5) : EncodingRow.Statement (.dsll rt rd sa) :=
  rType_mask_fc00003f 0#6 0#5 rt rd sa 56#6
theorem EncodingRow.dsrl (rt : BitVec 5) (rd : BitVec 5) (sa : BitVec 5) : EncodingRow.Statement (.dsrl rt rd sa) :=
  rType_mask_fc00003f 0#6 0#5 rt rd sa 58#6
theorem EncodingRow.dsra (rt : BitVec 5) (rd : BitVec 5) (sa : BitVec 5) : EncodingRow.Statement (.dsra rt rd sa) :=
  rType_mask_fc00003f 0#6 0#5 rt rd sa 59#6
theorem EncodingRow.dsll32 (rt : BitVec 5) (rd : BitVec 5) (sa : BitVec 5) : EncodingRow.Statement (.dsll32 rt rd sa) :=
  rType_mask_fc00003f 0#6 0#5 rt rd sa 60#6
theorem EncodingRow.dsrl32 (rt : BitVec 5) (rd : BitVec 5) (sa : BitVec 5) : EncodingRow.Statement (.dsrl32 rt rd sa) :=
  rType_mask_fc00003f 0#6 0#5 rt rd sa 62#6
theorem EncodingRow.dsra32 (rt : BitVec 5) (rd : BitVec 5) (sa : BitVec 5) : EncodingRow.Statement (.dsra32 rt rd sa) :=
  rType_mask_fc00003f 0#6 0#5 rt rd sa 63#6
theorem EncodingRow.mult (rs : BitVec 5) (rt : BitVec 5) : EncodingRow.Statement (.mult rs rt) :=
  rType_mask_fc00003f 0#6 rs rt 0#5 0#5 24#6
theorem EncodingRow.multu (rs : BitVec 5) (rt : BitVec 5) : EncodingRow.Statement (.multu rs rt) :=
  rType_mask_fc00003f 0#6 rs rt 0#5 0#5 25#6
theorem EncodingRow.div (rs : BitVec 5) (rt : BitVec 5) : EncodingRow.Statement (.div rs rt) :=
  rType_mask_fc00003f 0#6 rs rt 0#5 0#5 26#6
theorem EncodingRow.divu (rs : BitVec 5) (rt : BitVec 5) : EncodingRow.Statement (.divu rs rt) :=
  rType_mask_fc00003f 0#6 rs rt 0#5 0#5 27#6
theorem EncodingRow.dmult (rs : BitVec 5) (rt : BitVec 5) : EncodingRow.Statement (.dmult rs rt) :=
  rType_mask_fc00003f 0#6 rs rt 0#5 0#5 28#6
theorem EncodingRow.dmultu (rs : BitVec 5) (rt : BitVec 5) : EncodingRow.Statement (.dmultu rs rt) :=
  rType_mask_fc00003f 0#6 rs rt 0#5 0#5 29#6
theorem EncodingRow.ddiv (rs : BitVec 5) (rt : BitVec 5) : EncodingRow.Statement (.ddiv rs rt) :=
  rType_mask_fc00003f 0#6 rs rt 0#5 0#5 30#6
theorem EncodingRow.ddivu (rs : BitVec 5) (rt : BitVec 5) : EncodingRow.Statement (.ddivu rs rt) :=
  rType_mask_fc00003f 0#6 rs rt 0#5 0#5 31#6
theorem EncodingRow.mfhi (rd : BitVec 5) : EncodingRow.Statement (.mfhi rd) :=
  rType_mask_fc00003f 0#6 0#5 0#5 rd 0#5 16#6
theorem EncodingRow.mthi (rs : BitVec 5) : EncodingRow.Statement (.mthi rs) :=
  rType_mask_fc00003f 0#6 rs 0#5 0#5 0#5 17#6
theorem EncodingRow.mflo (rd : BitVec 5) : EncodingRow.Statement (.mflo rd) :=
  rType_mask_fc00003f 0#6 0#5 0#5 rd 0#5 18#6
theorem EncodingRow.mtlo (rs : BitVec 5) : EncodingRow.Statement (.mtlo rs) :=
  rType_mask_fc00003f 0#6 rs 0#5 0#5 0#5 19#6
theorem EncodingRow.jr (rs : BitVec 5) : EncodingRow.Statement (.jr rs) :=
  rType_mask_fc00003f 0#6 rs 0#5 0#5 0#5 8#6
theorem EncodingRow.jalr (rs : BitVec 5) (rd : BitVec 5) : EncodingRow.Statement (.jalr rs rd) :=
  rType_mask_fc00003f 0#6 rs 0#5 rd 0#5 9#6
theorem EncodingRow.syscall (code : BitVec 20) : EncodingRow.Statement (.syscall code) :=
  code20Type_mask_fc00003f code 12#6
theorem EncodingRow.break_ (code : BitVec 20) : EncodingRow.Statement (.break_ code) :=
  code20Type_mask_fc00003f code 13#6
theorem EncodingRow.sync : EncodingRow.Statement .sync := by unfold EncodingRow.Statement; decide
theorem EncodingRow.tge (rs : BitVec 5) (rt : BitVec 5) (code : BitVec 10) : EncodingRow.Statement (.tge rs rt code) :=
  code10Type_mask_fc00003f rs rt code 48#6
theorem EncodingRow.tgeu (rs : BitVec 5) (rt : BitVec 5) (code : BitVec 10) : EncodingRow.Statement (.tgeu rs rt code) :=
  code10Type_mask_fc00003f rs rt code 49#6
theorem EncodingRow.tlt (rs : BitVec 5) (rt : BitVec 5) (code : BitVec 10) : EncodingRow.Statement (.tlt rs rt code) :=
  code10Type_mask_fc00003f rs rt code 50#6
theorem EncodingRow.tltu (rs : BitVec 5) (rt : BitVec 5) (code : BitVec 10) : EncodingRow.Statement (.tltu rs rt code) :=
  code10Type_mask_fc00003f rs rt code 51#6
theorem EncodingRow.teq (rs : BitVec 5) (rt : BitVec 5) (code : BitVec 10) : EncodingRow.Statement (.teq rs rt code) :=
  code10Type_mask_fc00003f rs rt code 52#6
theorem EncodingRow.tne (rs : BitVec 5) (rt : BitVec 5) (code : BitVec 10) : EncodingRow.Statement (.tne rs rt code) :=
  code10Type_mask_fc00003f rs rt code 54#6
theorem EncodingRow.mad (rs : BitVec 5) (rt : BitVec 5) : EncodingRow.Statement (.mad rs rt) :=
  rType_mask_fc00003f 28#6 rs rt 0#5 0#5 0#6
theorem EncodingRow.madu (rs : BitVec 5) (rt : BitVec 5) : EncodingRow.Statement (.madu rs rt) :=
  rType_mask_fc00003f 28#6 rs rt 0#5 0#5 1#6
theorem EncodingRow.mul (rs : BitVec 5) (rt : BitVec 5) (rd : BitVec 5) : EncodingRow.Statement (.mul rs rt rd) :=
  rType_mask_fc00003f 28#6 rs rt rd 0#5 2#6
theorem EncodingRow.j (target : BitVec 26) : EncodingRow.Statement (.j target) :=
  jType_mask_fc000000 2#6 target
theorem EncodingRow.jal (target : BitVec 26) : EncodingRow.Statement (.jal target) :=
  jType_mask_fc000000 3#6 target
theorem EncodingRow.beq (rs : BitVec 5) (rt : BitVec 5) (offset : BitVec 16) : EncodingRow.Statement (.beq rs rt offset) :=
  iType_mask_fc000000 4#6 rs rt offset
theorem EncodingRow.bne (rs : BitVec 5) (rt : BitVec 5) (offset : BitVec 16) : EncodingRow.Statement (.bne rs rt offset) :=
  iType_mask_fc000000 5#6 rs rt offset
theorem EncodingRow.beql (rs : BitVec 5) (rt : BitVec 5) (offset : BitVec 16) : EncodingRow.Statement (.beql rs rt offset) :=
  iType_mask_fc000000 20#6 rs rt offset
theorem EncodingRow.bnel (rs : BitVec 5) (rt : BitVec 5) (offset : BitVec 16) : EncodingRow.Statement (.bnel rs rt offset) :=
  iType_mask_fc000000 21#6 rs rt offset
theorem EncodingRow.blez (rs : BitVec 5) (offset : BitVec 16) : EncodingRow.Statement (.blez rs offset) :=
  iType_mask_fc000000 6#6 rs 0#5 offset
theorem EncodingRow.bgtz (rs : BitVec 5) (offset : BitVec 16) : EncodingRow.Statement (.bgtz rs offset) :=
  iType_mask_fc000000 7#6 rs 0#5 offset
theorem EncodingRow.blezl (rs : BitVec 5) (offset : BitVec 16) : EncodingRow.Statement (.blezl rs offset) :=
  iType_mask_fc000000 22#6 rs 0#5 offset
theorem EncodingRow.bgtzl (rs : BitVec 5) (offset : BitVec 16) : EncodingRow.Statement (.bgtzl rs offset) :=
  iType_mask_fc000000 23#6 rs 0#5 offset
theorem EncodingRow.bltz (rs : BitVec 5) (offset : BitVec 16) : EncodingRow.Statement (.bltz rs offset) :=
  iType_mask_fc1f0000 1#6 rs 0#5 offset
theorem EncodingRow.bgez (rs : BitVec 5) (offset : BitVec 16) : EncodingRow.Statement (.bgez rs offset) :=
  iType_mask_fc1f0000 1#6 rs 1#5 offset
theorem EncodingRow.bltzl (rs : BitVec 5) (offset : BitVec 16) : EncodingRow.Statement (.bltzl rs offset) :=
  iType_mask_fc1f0000 1#6 rs 2#5 offset
theorem EncodingRow.bgezl (rs : BitVec 5) (offset : BitVec 16) : EncodingRow.Statement (.bgezl rs offset) :=
  iType_mask_fc1f0000 1#6 rs 3#5 offset
theorem EncodingRow.bltzal (rs : BitVec 5) (offset : BitVec 16) : EncodingRow.Statement (.bltzal rs offset) :=
  iType_mask_fc1f0000 1#6 rs 16#5 offset
theorem EncodingRow.bgezal (rs : BitVec 5) (offset : BitVec 16) : EncodingRow.Statement (.bgezal rs offset) :=
  iType_mask_fc1f0000 1#6 rs 17#5 offset
theorem EncodingRow.bltzall (rs : BitVec 5) (offset : BitVec 16) : EncodingRow.Statement (.bltzall rs offset) :=
  iType_mask_fc1f0000 1#6 rs 18#5 offset
theorem EncodingRow.bgezall (rs : BitVec 5) (offset : BitVec 16) : EncodingRow.Statement (.bgezall rs offset) :=
  iType_mask_fc1f0000 1#6 rs 19#5 offset
theorem EncodingRow.tgei (rs : BitVec 5) (imm : BitVec 16) : EncodingRow.Statement (.tgei rs imm) :=
  iType_mask_fc1f0000 1#6 rs 8#5 imm
theorem EncodingRow.tgeiu (rs : BitVec 5) (imm : BitVec 16) : EncodingRow.Statement (.tgeiu rs imm) :=
  iType_mask_fc1f0000 1#6 rs 9#5 imm
theorem EncodingRow.tlti (rs : BitVec 5) (imm : BitVec 16) : EncodingRow.Statement (.tlti rs imm) :=
  iType_mask_fc1f0000 1#6 rs 10#5 imm
theorem EncodingRow.tltiu (rs : BitVec 5) (imm : BitVec 16) : EncodingRow.Statement (.tltiu rs imm) :=
  iType_mask_fc1f0000 1#6 rs 11#5 imm
theorem EncodingRow.teqi (rs : BitVec 5) (imm : BitVec 16) : EncodingRow.Statement (.teqi rs imm) :=
  iType_mask_fc1f0000 1#6 rs 12#5 imm
theorem EncodingRow.tnei (rs : BitVec 5) (imm : BitVec 16) : EncodingRow.Statement (.tnei rs imm) :=
  iType_mask_fc1f0000 1#6 rs 14#5 imm
theorem EncodingRow.bc1f (offset : BitVec 16) : EncodingRow.Statement (.bc1f offset) :=
  iType_mask_ffff0000 17#6 8#5 0#5 offset
theorem EncodingRow.bc1t (offset : BitVec 16) : EncodingRow.Statement (.bc1t offset) :=
  iType_mask_ffff0000 17#6 8#5 1#5 offset
theorem EncodingRow.bc1fl (offset : BitVec 16) : EncodingRow.Statement (.bc1fl offset) :=
  iType_mask_ffff0000 17#6 8#5 2#5 offset
theorem EncodingRow.bc1tl (offset : BitVec 16) : EncodingRow.Statement (.bc1tl offset) :=
  iType_mask_ffff0000 17#6 8#5 3#5 offset
theorem EncodingRow.mfc0 (rt : BitVec 5) (rd : BitVec 5) : EncodingRow.Statement (.mfc0 rt rd) :=
  rType_mask_ffe00000 16#6 0#5 rt rd 0#5 0#6
theorem EncodingRow.dmfc0 (rt : BitVec 5) (rd : BitVec 5) : EncodingRow.Statement (.dmfc0 rt rd) :=
  rType_mask_ffe00000 16#6 1#5 rt rd 0#5 0#6
theorem EncodingRow.mtc0 (rt : BitVec 5) (rd : BitVec 5) : EncodingRow.Statement (.mtc0 rt rd) :=
  rType_mask_ffe00000 16#6 4#5 rt rd 0#5 0#6
theorem EncodingRow.dmtc0 (rt : BitVec 5) (rd : BitVec 5) : EncodingRow.Statement (.dmtc0 rt rd) :=
  rType_mask_ffe00000 16#6 5#5 rt rd 0#5 0#6
theorem EncodingRow.eret : EncodingRow.Statement .eret := by unfold EncodingRow.Statement; decide
theorem EncodingRow.wait : EncodingRow.Statement .wait := by unfold EncodingRow.Statement; decide
theorem EncodingRow.tlbr : EncodingRow.Statement .tlbr := by unfold EncodingRow.Statement; decide
theorem EncodingRow.tlbwi : EncodingRow.Statement .tlbwi := by unfold EncodingRow.Statement; decide
theorem EncodingRow.tlbwr : EncodingRow.Statement .tlbwr := by unfold EncodingRow.Statement; decide
theorem EncodingRow.tlbp : EncodingRow.Statement .tlbp := by unfold EncodingRow.Statement; decide
theorem EncodingRow.addS (ft : BitVec 5) (fs : BitVec 5) (fd : BitVec 5) : EncodingRow.Statement (.addS ft fs fd) :=
  rType_mask_ffe0003f 17#6 16#5 ft fs fd 0#6
theorem EncodingRow.subS (ft : BitVec 5) (fs : BitVec 5) (fd : BitVec 5) : EncodingRow.Statement (.subS ft fs fd) :=
  rType_mask_ffe0003f 17#6 16#5 ft fs fd 1#6
theorem EncodingRow.mulS (ft : BitVec 5) (fs : BitVec 5) (fd : BitVec 5) : EncodingRow.Statement (.mulS ft fs fd) :=
  rType_mask_ffe0003f 17#6 16#5 ft fs fd 2#6
theorem EncodingRow.divS (ft : BitVec 5) (fs : BitVec 5) (fd : BitVec 5) : EncodingRow.Statement (.divS ft fs fd) :=
  rType_mask_ffe0003f 17#6 16#5 ft fs fd 3#6
theorem EncodingRow.sqrtS (fs : BitVec 5) (fd : BitVec 5) : EncodingRow.Statement (.sqrtS fs fd) :=
  rType_mask_ffe0003f 17#6 16#5 0#5 fs fd 4#6
theorem EncodingRow.absS (fs : BitVec 5) (fd : BitVec 5) : EncodingRow.Statement (.absS fs fd) :=
  rType_mask_ffe0003f 17#6 16#5 0#5 fs fd 5#6
theorem EncodingRow.movS (fs : BitVec 5) (fd : BitVec 5) : EncodingRow.Statement (.movS fs fd) :=
  rType_mask_ffe0003f 17#6 16#5 0#5 fs fd 6#6
theorem EncodingRow.negS (fs : BitVec 5) (fd : BitVec 5) : EncodingRow.Statement (.negS fs fd) :=
  rType_mask_ffe0003f 17#6 16#5 0#5 fs fd 7#6
theorem EncodingRow.roundWS (fs : BitVec 5) (fd : BitVec 5) : EncodingRow.Statement (.roundWS fs fd) :=
  rType_mask_ffe0003f 17#6 16#5 0#5 fs fd 12#6
theorem EncodingRow.truncWS (fs : BitVec 5) (fd : BitVec 5) : EncodingRow.Statement (.truncWS fs fd) :=
  rType_mask_ffe0003f 17#6 16#5 0#5 fs fd 13#6
theorem EncodingRow.ceilWS (fs : BitVec 5) (fd : BitVec 5) : EncodingRow.Statement (.ceilWS fs fd) :=
  rType_mask_ffe0003f 17#6 16#5 0#5 fs fd 14#6
theorem EncodingRow.floorWS (fs : BitVec 5) (fd : BitVec 5) : EncodingRow.Statement (.floorWS fs fd) :=
  rType_mask_ffe0003f 17#6 16#5 0#5 fs fd 15#6
theorem EncodingRow.cvtWS (fs : BitVec 5) (fd : BitVec 5) : EncodingRow.Statement (.cvtWS fs fd) :=
  rType_mask_ffe0003f 17#6 16#5 0#5 fs fd 36#6
theorem EncodingRow.cvtSW (fs : BitVec 5) (fd : BitVec 5) : EncodingRow.Statement (.cvtSW fs fd) :=
  rType_mask_ffe0003f 17#6 20#5 0#5 fs fd 32#6
theorem EncodingRow.roundLS (fs : BitVec 5) (fd : BitVec 5) : EncodingRow.Statement (.roundLS fs fd) :=
  rType_mask_ffe0003f 17#6 16#5 0#5 fs fd 8#6
theorem EncodingRow.truncLS (fs : BitVec 5) (fd : BitVec 5) : EncodingRow.Statement (.truncLS fs fd) :=
  rType_mask_ffe0003f 17#6 16#5 0#5 fs fd 9#6
theorem EncodingRow.ceilLS (fs : BitVec 5) (fd : BitVec 5) : EncodingRow.Statement (.ceilLS fs fd) :=
  rType_mask_ffe0003f 17#6 16#5 0#5 fs fd 10#6
theorem EncodingRow.floorLS (fs : BitVec 5) (fd : BitVec 5) : EncodingRow.Statement (.floorLS fs fd) :=
  rType_mask_ffe0003f 17#6 16#5 0#5 fs fd 11#6
theorem EncodingRow.cvtDS (fs : BitVec 5) (fd : BitVec 5) : EncodingRow.Statement (.cvtDS fs fd) :=
  rType_mask_ffe0003f 17#6 16#5 0#5 fs fd 33#6
theorem EncodingRow.cvtLS (fs : BitVec 5) (fd : BitVec 5) : EncodingRow.Statement (.cvtLS fs fd) :=
  rType_mask_ffe0003f 17#6 16#5 0#5 fs fd 37#6
theorem EncodingRow.cFS (ft : BitVec 5) (fs : BitVec 5) : EncodingRow.Statement (.cFS ft fs) :=
  rType_mask_ffe0003f 17#6 16#5 ft fs 0#5 48#6
theorem EncodingRow.cUnS (ft : BitVec 5) (fs : BitVec 5) : EncodingRow.Statement (.cUnS ft fs) :=
  rType_mask_ffe0003f 17#6 16#5 ft fs 0#5 49#6
theorem EncodingRow.cEqS (ft : BitVec 5) (fs : BitVec 5) : EncodingRow.Statement (.cEqS ft fs) :=
  rType_mask_ffe0003f 17#6 16#5 ft fs 0#5 50#6
theorem EncodingRow.cUeqS (ft : BitVec 5) (fs : BitVec 5) : EncodingRow.Statement (.cUeqS ft fs) :=
  rType_mask_ffe0003f 17#6 16#5 ft fs 0#5 51#6
theorem EncodingRow.cOltS (ft : BitVec 5) (fs : BitVec 5) : EncodingRow.Statement (.cOltS ft fs) :=
  rType_mask_ffe0003f 17#6 16#5 ft fs 0#5 52#6
theorem EncodingRow.cUltS (ft : BitVec 5) (fs : BitVec 5) : EncodingRow.Statement (.cUltS ft fs) :=
  rType_mask_ffe0003f 17#6 16#5 ft fs 0#5 53#6
theorem EncodingRow.cOleS (ft : BitVec 5) (fs : BitVec 5) : EncodingRow.Statement (.cOleS ft fs) :=
  rType_mask_ffe0003f 17#6 16#5 ft fs 0#5 54#6
theorem EncodingRow.cUleS (ft : BitVec 5) (fs : BitVec 5) : EncodingRow.Statement (.cUleS ft fs) :=
  rType_mask_ffe0003f 17#6 16#5 ft fs 0#5 55#6
theorem EncodingRow.cSfS (ft : BitVec 5) (fs : BitVec 5) : EncodingRow.Statement (.cSfS ft fs) :=
  rType_mask_ffe0003f 17#6 16#5 ft fs 0#5 56#6
theorem EncodingRow.cNgleS (ft : BitVec 5) (fs : BitVec 5) : EncodingRow.Statement (.cNgleS ft fs) :=
  rType_mask_ffe0003f 17#6 16#5 ft fs 0#5 57#6
theorem EncodingRow.cSeqS (ft : BitVec 5) (fs : BitVec 5) : EncodingRow.Statement (.cSeqS ft fs) :=
  rType_mask_ffe0003f 17#6 16#5 ft fs 0#5 58#6
theorem EncodingRow.cNglS (ft : BitVec 5) (fs : BitVec 5) : EncodingRow.Statement (.cNglS ft fs) :=
  rType_mask_ffe0003f 17#6 16#5 ft fs 0#5 59#6
theorem EncodingRow.cLtS (ft : BitVec 5) (fs : BitVec 5) : EncodingRow.Statement (.cLtS ft fs) :=
  rType_mask_ffe0003f 17#6 16#5 ft fs 0#5 60#6
theorem EncodingRow.cNgeS (ft : BitVec 5) (fs : BitVec 5) : EncodingRow.Statement (.cNgeS ft fs) :=
  rType_mask_ffe0003f 17#6 16#5 ft fs 0#5 61#6
theorem EncodingRow.cLeS (ft : BitVec 5) (fs : BitVec 5) : EncodingRow.Statement (.cLeS ft fs) :=
  rType_mask_ffe0003f 17#6 16#5 ft fs 0#5 62#6
theorem EncodingRow.cNgtS (ft : BitVec 5) (fs : BitVec 5) : EncodingRow.Statement (.cNgtS ft fs) :=
  rType_mask_ffe0003f 17#6 16#5 ft fs 0#5 63#6
theorem EncodingRow.mfc1 (rt : BitVec 5) (fs : BitVec 5) : EncodingRow.Statement (.mfc1 rt fs) :=
  rType_mask_ffe00000 17#6 0#5 rt fs 0#5 0#6
theorem EncodingRow.dmfc1 (rt : BitVec 5) (fs : BitVec 5) : EncodingRow.Statement (.dmfc1 rt fs) :=
  rType_mask_ffe00000 17#6 1#5 rt fs 0#5 0#6
theorem EncodingRow.cfc1 (rt : BitVec 5) (fs : BitVec 5) : EncodingRow.Statement (.cfc1 rt fs) :=
  rType_mask_ffe00000 17#6 2#5 rt fs 0#5 0#6
theorem EncodingRow.mtc1 (rt : BitVec 5) (fs : BitVec 5) : EncodingRow.Statement (.mtc1 rt fs) :=
  rType_mask_ffe00000 17#6 4#5 rt fs 0#5 0#6
theorem EncodingRow.dmtc1 (rt : BitVec 5) (fs : BitVec 5) : EncodingRow.Statement (.dmtc1 rt fs) :=
  rType_mask_ffe00000 17#6 5#5 rt fs 0#5 0#6
theorem EncodingRow.ctc1 (rt : BitVec 5) (fs : BitVec 5) : EncodingRow.Statement (.ctc1 rt fs) :=
  rType_mask_ffe00000 17#6 6#5 rt fs 0#5 0#6
theorem EncodingRow.cop1Other (fmtLow : BitVec 4) (ft : BitVec 5) (fs : BitVec 5) (fd : BitVec 5) (fn : BitVec 6) : EncodingRow.Statement (.cop1Other fmtLow ft fs fd fn) :=
  cop1Type_mask_fe000000 fmtLow ft fs fd fn
theorem EncodingRow.cop2 (cofun : BitVec 26) : EncodingRow.Statement (.cop2 cofun) :=
  jType_mask_fc000000 18#6 cofun
theorem EncodingRow.cop3 (cofun : BitVec 26) : EncodingRow.Statement (.cop3 cofun) :=
  jType_mask_fc000000 19#6 cofun

end Sys2Proof.Laws
end

