-- ==== Sys2Proof/Tests/Slice0.lean ====
section
/-!
SUPPORT. Sys2Proof/Tests/Slice0.lean: the model's own tests. Decoding: one word for every constructor, written out from
the encodings of spec/. Steps: expected results are those of spec/95_test_vectors.md, spec/96_test_vectors_system.md and
of the examples in the rules, never the model's own. Witnesses: for every statement with hypotheses, a state and operands
that meet them.
-/

namespace Sys2Proof.Tests

open Sys2Proof.Machine

-- One theorem after the other: side by side, the evaluations take more threads than the memory limit leaves room for.
set_option Elab.async false

/-! ## Decoding -/

/-- Words written out from the encodings of 40_load_store. -/
theorem test_decode_load_store_1 :
    decode 0b100000_10001_01010_1000000100100011 = .ok (.lb 17 10 33059) ∧
    decode 0b100001_10001_01010_1000000100100011 = .ok (.lh 17 10 33059) ∧
    decode 0b100010_10001_01010_1000000100100011 = .ok (.lwl 17 10 33059) ∧
    decode 0b100011_10001_01010_1000000100100011 = .ok (.lw 17 10 33059) ∧
    decode 0b100100_10001_01010_1000000100100011 = .ok (.lbu 17 10 33059) ∧
    decode 0b100101_10001_01010_1000000100100011 = .ok (.lhu 17 10 33059) ∧
    decode 0b100110_10001_01010_1000000100100011 = .ok (.lwr 17 10 33059) ∧
    decode 0b100111_10001_01010_1000000100100011 = .ok (.lwu 17 10 33059) ∧
    decode 0b101000_10001_01010_1000000100100011 = .ok (.sb 17 10 33059) ∧
    decode 0b101001_10001_01010_1000000100100011 = .ok (.sh 17 10 33059) ∧
    decode 0b101010_10001_01010_1000000100100011 = .ok (.swl 17 10 33059) ∧
    decode 0b101011_10001_01010_1000000100100011 = .ok (.sw 17 10 33059) ∧
    decode 0b101100_10001_01010_1000000100100011 = .ok (.sdl 17 10 33059) ∧
    decode 0b101101_10001_01010_1000000100100011 = .ok (.sdr 17 10 33059) ∧
    decode 0b101110_10001_01010_1000000100100011 = .ok (.swr 17 10 33059) := by decide

/-- Words written out from the encodings of 40_load_store. -/
theorem test_decode_load_store_2 :
    decode 0b110000_10001_01010_1000000100100011 = .ok (.ll 17 10 33059) ∧
    decode 0b110100_10001_01010_1000000100100011 = .ok (.lld 17 10 33059) ∧
    decode 0b110111_10001_01010_1000000100100011 = .ok (.ld 17 10 33059) ∧
    decode 0b011010_10001_01010_1000000100100011 = .ok (.ldl 17 10 33059) ∧
    decode 0b011011_10001_01010_1000000100100011 = .ok (.ldr 17 10 33059) ∧
    decode 0b111000_10001_01010_1000000100100011 = .ok (.sc 17 10 33059) ∧
    decode 0b111100_10001_01010_1000000100100011 = .ok (.scd 17 10 33059) ∧
    decode 0b111111_10001_01010_1000000100100011 = .ok (.sd 17 10 33059) := by decide

/-- Words written out from the encodings of 21_caches R234, R235; 30_encoding R262. -/
theorem test_decode_cache :
    decode 0b101111_10001_01010_1000000100100011 = .ok (.cache 17 10 33059) := by decide

/-- Words written out from the encodings of 49_fpu_instructions R630 to R643. -/
theorem test_decode_fpu_moves :
    decode 0b110001_10001_01010_1000000100100011 = .ok (.lwc1 17 10 33059) ∧
    decode 0b110101_10001_01010_1000000100100011 = .ok (.ldc1 17 10 33059) ∧
    decode 0b111001_10001_01010_1000000100100011 = .ok (.swc1 17 10 33059) ∧
    decode 0b111101_10001_01010_1000000100100011 = .ok (.sdc1 17 10 33059) ∧
    decode 0b01000100000_10001_01010_00000000000 = .ok (.mfc1 17 10) ∧
    decode 0b01000100001_10001_01010_00000000000 = .ok (.dmfc1 17 10) ∧
    decode 0b01000100010_10001_01010_00000000000 = .ok (.cfc1 17 10) ∧
    decode 0b01000100100_10001_01010_00000000000 = .ok (.mtc1 17 10) ∧
    decode 0b01000100101_10001_01010_00000000000 = .ok (.dmtc1 17 10) ∧
    decode 0b01000100110_10001_01010_00000000000 = .ok (.ctc1 17 10) := by decide

/-- Words written out from the encodings of 47_coprocessor_cp0. -/
theorem test_decode_coprocessor :
    decode 0b110010_10001_01010_1000000100100011 = .ok (.lwc2 17 10 33059) ∧
    decode 0b110110_10001_01010_1000000100100011 = .ok (.ldc2 17 10 33059) ∧
    decode 0b111010_10001_01010_1000000100100011 = .ok (.swc2 17 10 33059) ∧
    decode 0b111110_10001_01010_1000000100100011 = .ok (.sdc2 17 10 33059) ∧
    decode 0b01000000000_10001_01010_00000000000 = .ok (.mfc0 17 10) ∧
    decode 0b01000000001_10001_01010_00000000000 = .ok (.dmfc0 17 10) ∧
    decode 0b01000000100_10001_01010_00000000000 = .ok (.mtc0 17 10) ∧
    decode 0b01000000101_10001_01010_00000000000 = .ok (.dmtc0 17 10) ∧
    decode 0b0100001_0000000000000000000_000001 = .ok (.tlbr) ∧
    decode 0b0100001_0000000000000000000_000010 = .ok (.tlbwi) ∧
    decode 0b0100001_0000000000000000000_000110 = .ok (.tlbwr) ∧
    decode 0b0100001_0000000000000000000_001000 = .ok (.tlbp) ∧
    decode 0b010010_10001101000101011001110001 = .ok (.cop2 36984433) ∧
    decode 0b010011_10001101000101011001110001 = .ok (.cop3 36984433) := by decide

/-- Words written out from the encodings of 41_alu_immediate. -/
theorem test_decode_alu_immediate :
    decode 0b001000_10001_01010_1000000100100011 = .ok (.addi 17 10 33059) ∧
    decode 0b001001_10001_01010_1000000100100011 = .ok (.addiu 17 10 33059) ∧
    decode 0b001010_10001_01010_1000000100100011 = .ok (.slti 17 10 33059) ∧
    decode 0b001011_10001_01010_1000000100100011 = .ok (.sltiu 17 10 33059) ∧
    decode 0b001100_10001_01010_1000000100100011 = .ok (.andi 17 10 33059) ∧
    decode 0b001101_10001_01010_1000000100100011 = .ok (.ori 17 10 33059) ∧
    decode 0b001110_10001_01010_1000000100100011 = .ok (.xori 17 10 33059) ∧
    decode 0b011000_10001_01010_1000000100100011 = .ok (.daddi 17 10 33059) ∧
    decode 0b011001_10001_01010_1000000100100011 = .ok (.daddiu 17 10 33059) ∧
    decode 0b001111_00000_10001_1000000100100011 = .ok (.lui 17 33059) := by decide

/-- Words written out from the encodings of 42_alu_three_operand. -/
theorem test_decode_alu_register :
    decode 0b000000_10001_01010_00101_00000_100000 = .ok (.add 17 10 5) ∧
    decode 0b000000_10001_01010_00101_00000_100001 = .ok (.addu 17 10 5) ∧
    decode 0b000000_10001_01010_00101_00000_100010 = .ok (.sub 17 10 5) ∧
    decode 0b000000_10001_01010_00101_00000_100011 = .ok (.subu 17 10 5) ∧
    decode 0b000000_10001_01010_00101_00000_100100 = .ok (.and 17 10 5) ∧
    decode 0b000000_10001_01010_00101_00000_100101 = .ok (.or 17 10 5) ∧
    decode 0b000000_10001_01010_00101_00000_100110 = .ok (.xor 17 10 5) ∧
    decode 0b000000_10001_01010_00101_00000_100111 = .ok (.nor 17 10 5) ∧
    decode 0b000000_10001_01010_00101_00000_101010 = .ok (.slt 17 10 5) ∧
    decode 0b000000_10001_01010_00101_00000_101011 = .ok (.sltu 17 10 5) ∧
    decode 0b000000_10001_01010_00101_00000_101100 = .ok (.dadd 17 10 5) ∧
    decode 0b000000_10001_01010_00101_00000_101101 = .ok (.daddu 17 10 5) ∧
    decode 0b000000_10001_01010_00101_00000_101110 = .ok (.dsub 17 10 5) ∧
    decode 0b000000_10001_01010_00101_00000_101111 = .ok (.dsubu 17 10 5) := by decide

/-- Words written out from the encodings of 43_shift. -/
theorem test_decode_shift :
    decode 0b000000_10001_01010_00101_00000_000100 = .ok (.sllv 17 10 5) ∧
    decode 0b000000_10001_01010_00101_00000_000110 = .ok (.srlv 17 10 5) ∧
    decode 0b000000_10001_01010_00101_00000_000111 = .ok (.srav 17 10 5) ∧
    decode 0b000000_10001_01010_00101_00000_010100 = .ok (.dsllv 17 10 5) ∧
    decode 0b000000_10001_01010_00101_00000_010110 = .ok (.dsrlv 17 10 5) ∧
    decode 0b000000_10001_01010_00101_00000_010111 = .ok (.dsrav 17 10 5) ∧
    decode 0b000000_00000_10001_01010_00101_000000 = .ok (.sll 17 10 5) ∧
    decode 0b000000_00000_10001_01010_00101_000010 = .ok (.srl 17 10 5) ∧
    decode 0b000000_00000_10001_01010_00101_000011 = .ok (.sra 17 10 5) ∧
    decode 0b000000_00000_10001_01010_00101_111000 = .ok (.dsll 17 10 5) ∧
    decode 0b000000_00000_10001_01010_00101_111010 = .ok (.dsrl 17 10 5) ∧
    decode 0b000000_00000_10001_01010_00101_111011 = .ok (.dsra 17 10 5) ∧
    decode 0b000000_00000_10001_01010_00101_111100 = .ok (.dsll32 17 10 5) ∧
    decode 0b000000_00000_10001_01010_00101_111110 = .ok (.dsrl32 17 10 5) ∧
    decode 0b000000_00000_10001_01010_00101_111111 = .ok (.dsra32 17 10 5) := by decide

/-- Words written out from the encodings of 44_multiply_divide. -/
theorem test_decode_multiply_divide :
    decode 0b000000_10001_01010_0000000000_011000 = .ok (.mult 17 10) ∧
    decode 0b000000_10001_01010_0000000000_011001 = .ok (.multu 17 10) ∧
    decode 0b000000_10001_01010_0000000000_011010 = .ok (.div 17 10) ∧
    decode 0b000000_10001_01010_0000000000_011011 = .ok (.divu 17 10) ∧
    decode 0b000000_10001_01010_0000000000_011100 = .ok (.dmult 17 10) ∧
    decode 0b000000_10001_01010_0000000000_011101 = .ok (.dmultu 17 10) ∧
    decode 0b000000_10001_01010_0000000000_011110 = .ok (.ddiv 17 10) ∧
    decode 0b000000_10001_01010_0000000000_011111 = .ok (.ddivu 17 10) ∧
    decode 0b000000_0000000000_10001_00000_010000 = .ok (.mfhi 17) ∧
    decode 0b000000_10001_000000000000000_010001 = .ok (.mthi 17) ∧
    decode 0b000000_0000000000_10001_00000_010010 = .ok (.mflo 17) ∧
    decode 0b000000_10001_000000000000000_010011 = .ok (.mtlo 17) ∧
    decode 0b011100_10001_01010_0000000000_000000 = .ok (.mad 17 10) ∧
    decode 0b011100_10001_01010_0000000000_000001 = .ok (.madu 17 10) ∧
    decode 0b011100_10001_01010_00101_00000_000010 = .ok (.mul 17 10 5) := by decide

/-- Words written out from the encodings of 45_jump_branch. -/
theorem test_decode_branch_1 :
    decode 0b000000_10001_000000000000000_001000 = .ok (.jr 17) ∧
    decode 0b000000_10001_00000_01010_00000_001001 = .ok (.jalr 17 10) ∧
    decode 0b000010_10001101000101011001110001 = .ok (.j 36984433) ∧
    decode 0b000011_10001101000101011001110001 = .ok (.jal 36984433) ∧
    decode 0b000100_10001_01010_1000000100100011 = .ok (.beq 17 10 33059) ∧
    decode 0b000101_10001_01010_1000000100100011 = .ok (.bne 17 10 33059) ∧
    decode 0b010100_10001_01010_1000000100100011 = .ok (.beql 17 10 33059) ∧
    decode 0b010101_10001_01010_1000000100100011 = .ok (.bnel 17 10 33059) ∧
    decode 0b000110_10001_00000_1000000100100011 = .ok (.blez 17 33059) ∧
    decode 0b000111_10001_00000_1000000100100011 = .ok (.bgtz 17 33059) ∧
    decode 0b010110_10001_00000_1000000100100011 = .ok (.blezl 17 33059) ∧
    decode 0b010111_10001_00000_1000000100100011 = .ok (.bgtzl 17 33059) ∧
    decode 0b000001_10001_00000_1000000100100011 = .ok (.bltz 17 33059) ∧
    decode 0b000001_10001_00001_1000000100100011 = .ok (.bgez 17 33059) ∧
    decode 0b000001_10001_00010_1000000100100011 = .ok (.bltzl 17 33059) := by decide

/-- Words written out from the encodings of 45_jump_branch. -/
theorem test_decode_branch_2 :
    decode 0b000001_10001_00011_1000000100100011 = .ok (.bgezl 17 33059) ∧
    decode 0b000001_10001_10000_1000000100100011 = .ok (.bltzal 17 33059) ∧
    decode 0b000001_10001_10001_1000000100100011 = .ok (.bgezal 17 33059) ∧
    decode 0b000001_10001_10010_1000000100100011 = .ok (.bltzall 17 33059) ∧
    decode 0b000001_10001_10011_1000000100100011 = .ok (.bgezall 17 33059) ∧
    decode 0b0100010100000000_1000000100100011 = .ok (.bc1f 33059) ∧
    decode 0b0100010100000001_1000000100100011 = .ok (.bc1t 33059) ∧
    decode 0b0100010100000010_1000000100100011 = .ok (.bc1fl 33059) ∧
    decode 0b0100010100000011_1000000100100011 = .ok (.bc1tl 33059) := by decide

/-- Words written out from the encodings of 46_trap_special. -/
theorem test_decode_trap_special_1 :
    decode 0b000000_10000001001000110100_001100 = .ok (.syscall 528948) ∧
    decode 0b000000_10000001001000110100_001101 = .ok (.break_ 528948) ∧
    decode 0b000000_00000000000000000000_001111 = .ok (.sync) ∧
    decode 0b000000_10001_01010_1010100001_110000 = .ok (.tge 17 10 673) ∧
    decode 0b000000_10001_01010_1010100001_110001 = .ok (.tgeu 17 10 673) ∧
    decode 0b000000_10001_01010_1010100001_110010 = .ok (.tlt 17 10 673) ∧
    decode 0b000000_10001_01010_1010100001_110011 = .ok (.tltu 17 10 673) ∧
    decode 0b000000_10001_01010_1010100001_110100 = .ok (.teq 17 10 673) ∧
    decode 0b000000_10001_01010_1010100001_110110 = .ok (.tne 17 10 673) ∧
    decode 0b000001_10001_01000_1000000100100011 = .ok (.tgei 17 33059) ∧
    decode 0b000001_10001_01001_1000000100100011 = .ok (.tgeiu 17 33059) ∧
    decode 0b000001_10001_01010_1000000100100011 = .ok (.tlti 17 33059) ∧
    decode 0b000001_10001_01011_1000000100100011 = .ok (.tltiu 17 33059) ∧
    decode 0b000001_10001_01100_1000000100100011 = .ok (.teqi 17 33059) ∧
    decode 0b000001_10001_01110_1000000100100011 = .ok (.tnei 17 33059) := by decide

/-- Words written out from the encodings of 46_trap_special. -/
theorem test_decode_trap_special_2 :
    decode 0b0100001_0000000000000000000_011000 = .ok (.eret) ∧
    decode 0b0100001_0000000000000000000_100000 = .ok (.wait) := by decide

/-- Words written out from the encodings of 49_fpu_instructions. -/
theorem test_decode_fpu_1 :
    decode 0b01000110000_10001_01010_00101_000000 = .ok (.addS 17 10 5) ∧
    decode 0b01000110000_10001_01010_00101_000001 = .ok (.subS 17 10 5) ∧
    decode 0b01000110000_10001_01010_00101_000010 = .ok (.mulS 17 10 5) ∧
    decode 0b01000110000_10001_01010_00101_000011 = .ok (.divS 17 10 5) ∧
    decode 0b01000110000_00000_10001_01010_000100 = .ok (.sqrtS 17 10) ∧
    decode 0b01000110000_00000_10001_01010_000101 = .ok (.absS 17 10) ∧
    decode 0b01000110000_00000_10001_01010_000110 = .ok (.movS 17 10) ∧
    decode 0b01000110000_00000_10001_01010_000111 = .ok (.negS 17 10) ∧
    decode 0b01000110000_00000_10001_01010_001100 = .ok (.roundWS 17 10) ∧
    decode 0b01000110000_00000_10001_01010_001101 = .ok (.truncWS 17 10) ∧
    decode 0b01000110000_00000_10001_01010_001110 = .ok (.ceilWS 17 10) ∧
    decode 0b01000110000_00000_10001_01010_001111 = .ok (.floorWS 17 10) ∧
    decode 0b01000110000_00000_10001_01010_100100 = .ok (.cvtWS 17 10) ∧
    decode 0b01000110100_00000_10001_01010_100000 = .ok (.cvtSW 17 10) ∧
    decode 0b01000110000_00000_10001_01010_001000 = .ok (.roundLS 17 10) := by decide

/-- Words written out from the encodings of 49_fpu_instructions. -/
theorem test_decode_fpu_2 :
    decode 0b01000110000_00000_10001_01010_001001 = .ok (.truncLS 17 10) ∧
    decode 0b01000110000_00000_10001_01010_001010 = .ok (.ceilLS 17 10) ∧
    decode 0b01000110000_00000_10001_01010_001011 = .ok (.floorLS 17 10) ∧
    decode 0b01000110000_00000_10001_01010_100001 = .ok (.cvtDS 17 10) ∧
    decode 0b01000110000_00000_10001_01010_100101 = .ok (.cvtLS 17 10) := by decide

/-- Words written out from the encodings of 49_fpu_instructions R625, R626. -/
theorem test_decode_compare_1 :
    decode 0b01000110000_10001_01010_00000_110000 = .ok (.cFS 17 10) ∧
    decode 0b01000110000_10001_01010_00000_110001 = .ok (.cUnS 17 10) ∧
    decode 0b01000110000_10001_01010_00000_110010 = .ok (.cEqS 17 10) ∧
    decode 0b01000110000_10001_01010_00000_110011 = .ok (.cUeqS 17 10) ∧
    decode 0b01000110000_10001_01010_00000_110100 = .ok (.cOltS 17 10) ∧
    decode 0b01000110000_10001_01010_00000_110101 = .ok (.cUltS 17 10) ∧
    decode 0b01000110000_10001_01010_00000_110110 = .ok (.cOleS 17 10) ∧
    decode 0b01000110000_10001_01010_00000_110111 = .ok (.cUleS 17 10) ∧
    decode 0b01000110000_10001_01010_00000_111000 = .ok (.cSfS 17 10) ∧
    decode 0b01000110000_10001_01010_00000_111001 = .ok (.cNgleS 17 10) ∧
    decode 0b01000110000_10001_01010_00000_111010 = .ok (.cSeqS 17 10) ∧
    decode 0b01000110000_10001_01010_00000_111011 = .ok (.cNglS 17 10) ∧
    decode 0b01000110000_10001_01010_00000_111100 = .ok (.cLtS 17 10) ∧
    decode 0b01000110000_10001_01010_00000_111101 = .ok (.cNgeS 17 10) ∧
    decode 0b01000110000_10001_01010_00000_111110 = .ok (.cLeS 17 10) := by decide

/-- Words written out from the encodings of 49_fpu_instructions R625, R626. -/
theorem test_decode_compare_2 :
    decode 0b01000110000_10001_01010_00000_111111 = .ok (.cNgtS 17 10) := by decide

/-- Words written out from the encodings of R575. -/
theorem test_decode_other :
    decode 0b0100011_0001_10001_01010_00101_000000 = .ok (.cop1Other 1 17 10 5 0) := by decide

/-! ## WellFormed refuses -/

/-- The catch-all term of a word that another row owns is ill-formed: ADD.S, C.NGT.S, CVT.D.S, CVT.S.W (30_encoding R264). -/
theorem test_wellFormed_refuses_assigned :
    (Instr.cop1Other 0 6 4 2 0).WellFormed = false ∧ (Instr.cop1Other 0 6 4 2 15).WellFormed = false ∧
    (Instr.cop1Other 0 6 4 0 63).WellFormed = false ∧ (Instr.cop1Other 0 0 4 2 33).WellFormed = false ∧
    (Instr.cop1Other 4 0 4 2 32).WellFormed = false := by decide

/-- The catch-all term of a word that no other row owns is well-formed: functions 16, 32, 47 of S, ADD.D, CVT.S.L. -/
theorem test_wellFormed_accepts_rest :
    (Instr.cop1Other 0 6 4 2 16).WellFormed = true ∧ (Instr.cop1Other 0 6 4 2 32).WellFormed = true ∧
    (Instr.cop1Other 0 6 4 2 47).WellFormed = true ∧ (Instr.cop1Other 1 6 4 2 0).WellFormed = true ∧
    (Instr.cop1Other 5 6 4 2 32).WellFormed = true := by decide

/-- Reserved words, by the kind of their cell (96_test_vectors_system 4.17). -/
theorem test_decode_reserved :
    decode 0x00000001 = .error .reservedInstruction ∧ decode 0x70000003 = .error .reservedInstruction ∧
    decode 0x040D0000 = .error .reservedInstruction ∧ decode 0xCC000000 = .error .reservedInstruction ∧
    decode 0x42000010 = .error .reservedCop0 ∧ decode 0x40400000 = .error .reservedCop0 ∧
    decode 0x44600000 = .error .reservedCop1 ∧ decode 0x000007CF = .ok .sync := by decide

/-- An encoded instruction decodes to itself, one for each way a word is put together. -/
theorem test_decode_encode :
    decode (encode (.lw 29 31 0x8000)) = .ok (.lw 29 31 0x8000) ∧ decode (encode (.j 0x3FFFFFF)) = .ok (.j 0x3FFFFFF) ∧
    decode (encode (.dsra32 1 2 31)) = .ok (.dsra32 1 2 31) ∧ decode (encode (.tge 1 2 0x3FF)) = .ok (.tge 1 2 0x3FF) ∧
    decode (encode (.break_ 0xFFFFF)) = .ok (.break_ 0xFFFFF) ∧
    decode (encode (.cop1Other 5 1 2 3 32)) = .ok (.cop1Other 5 1 2 3 32) := by decide

/-- The host's numbering: bit 0 is the least significant bit of the word (WAIT, ADD r3, r1, r2). -/
theorem test_decodeTableWord :
    decodeTableWord 32 0x42000020 = some .wait ∧ decodeTableWord 32 0x00221820 = some (.add 1 2 3) := by decide

/-! ## One instruction -/

/-- Kernel mode unless `status` says otherwise, at 0xFFFFFFFF80001000, kuseg wholly in bounds. -/
def start (status : Word) : State :=
  { State.reset with
    pc := 0xFFFFFFFF80001000
    cp0 := { State.reset.cp0 with status := Status.ofWord status, ibound := 0x7FFFF, dbound := 0x7FFFF } }

/-- A step at whose boundary `is` arrive. -/
def before (is : List Input) : Arrivals := { Arrivals.quiet with before := is }

/-- The word executes to a next state of which `p` holds. -/
def runs (s : State) (w : Word) (p : State → Bool) : Bool :=
  match s.execWord w with
  | .next t => p t
  | _ => false

/-- The step gives a next state of which `p` holds. -/
def steps (s : State) (p : State → Bool) : Bool :=
  match step s with
  | .next t => p t
  | _ => false

/-- The word is refused for the reason `q`. -/
def refuses (s : State) (w : Word) (q : Refusal) : Bool :=
  match s.execWord w with
  | .refused r => r == q
  | _ => false

/-- ADDI at the top of the range overflows (95 4.1). -/
theorem test_addi_overflows : runs ((start 0).setReg 1 0x7FFFFFFF) 0x20220001
    (fun u => u.cp0.cause.excCode == 12 && u.reg 2 == 0 && u.pc == 0xFFFFFFFF80000180 && u.cp0.epc == 0xFFFFFFFF80001000) = true := by decide

/-- ADDIU wraps and sign-extends (95 4.1). -/
theorem test_addiu_wraps : runs ((start 0).setReg 1 0x7FFFFFFF) 0x24220001 (fun u => u.reg 2 == 0xFFFFFFFF80000000) = true := by decide

/-- SLTIU compares with the sign-extended immediate, unsigned (95 4.1). -/
theorem test_sltiu_sign_extends : runs ((start 0).setReg 1 1) 0x2C22FFFF (fun u => u.reg 2 == 1) = true := by decide

/-- LUI sign-extends (95 4.1). -/
theorem test_lui_sign_extends : runs (start 0) 0x3C028000 (fun u => u.reg 2 == 0xFFFFFFFF80000000) = true := by decide

/-- A write of r0 has no effect (95 4.1). -/
theorem test_addiu_r0 : runs ((start 0).setReg 1 7) 0x24200001 (fun u => u.reg 0 == 0 && u.gpr[0] == 0) = true := by decide

/-- SUB (95 4.2). -/
theorem test_sub_negative : runs (((start 0).setReg 1 5).setReg 2 7) 0x00221822 (fun u => u.reg 3 == 0xFFFFFFFFFFFFFFFE) = true := by decide

/-- NOR works on 64 bits (95 4.2). -/
theorem test_nor_all_bits : runs (((start 0).setReg 1 0xFFFF0000FFFF0000).setReg 2 0x0F0F0F0F0F0F0F0F) 0x00221827
    (fun u => u.reg 3 == 0x0000F0F00000F0F0) = true := by decide

/-- SLT on 64 bits (95 4.2). -/
theorem test_slt_signed : runs (((start 0).setReg 1 0x8000000000000000).setReg 2 0x7FFFFFFFFFFFFFFF) 0x0022182A (fun u => u.reg 3 == 1) = true := by decide

/-- DSUB overflows at 64 bits (95 4.2). -/
theorem test_dsub_overflows : runs (((start 0).setReg 1 0x8000000000000000).setReg 2 1) 0x0022182E
    (fun u => u.cp0.cause.excCode == 12 && u.reg 3 == 0) = true := by decide

/-- SRA brings the sign in (95 4.3). -/
theorem test_sra_sign : runs ((start 0).setReg 2 0xFFFFFFFF80000000) 0x00021903 (fun u => u.reg 3 == 0xFFFFFFFFF8000000) = true := by decide

/-- SLLV takes the low five bits of rs (95 4.3). -/
theorem test_sllv_low_five_bits : runs (((start 0).setReg 2 1).setReg 1 0x21) 0x00221804 (fun u => u.reg 3 == 2) = true := by decide

/-- DSRA32 by 32 (95 4.3). -/
theorem test_dsra32 : runs ((start 0).setReg 2 0xFEDCBA9876543210) 0x0002183F (fun u => u.reg 3 == 0xFFFFFFFFFEDCBA98) = true := by decide

/-- MULT (95 4.4). -/
theorem test_mult_signed : runs (((start 0).setReg 1 0xFFFFFFFFFFFFFFFF).setReg 2 2) 0x00220018
    (fun u => u.hi == 0xFFFFFFFFFFFFFFFF && u.lo == 0xFFFFFFFFFFFFFFFE) = true := by decide

/-- DIV: -7 / 2 (95 4.4). -/
theorem test_div_toward_zero : runs (((start 0).setReg 1 0xFFFFFFFFFFFFFFF9).setReg 2 2) 0x0022001A
    (fun u => u.hi == 0xFFFFFFFFFFFFFFFF && u.lo == 0xFFFFFFFFFFFFFFFD) = true := by decide

/-- DIV: the quotient that does not fit (95 4.4). -/
theorem test_div_most_negative : runs (((start 0).setReg 1 0xFFFFFFFF80000000).setReg 2 0xFFFFFFFFFFFFFFFF) 0x0022001A
    (fun u => u.hi == 0 && u.lo == 0xFFFFFFFF80000000) = true := by decide

/-- DMULTU (95 4.4). -/
theorem test_dmultu_high : runs (((start 0).setReg 1 0xFFFFFFFFFFFFFFFF).setReg 2 0xFFFFFFFFFFFFFFFF) 0x0022001D
    (fun u => u.hi == 0xFFFFFFFFFFFFFFFE && u.lo == 1) = true := by decide

/-- MAD carries from LO into HI (95 4.4). -/
theorem test_mad_carries : runs { ((start 0).setReg 1 1).setReg 2 1 with hi := 0x7FFFFFFF, lo := 0xFFFFFFFFFFFFFFFF } 0x70220000
    (fun u => u.hi == 0xFFFFFFFF80000000 && u.lo == 0) = true := by decide

/-- MUL (95 4.4). -/
theorem test_mul_low_word : runs (((start 0).setReg 1 0x7FFFFFFF).setReg 2 2) 0x70221802 (fun u => u.reg 3 == 0xFFFFFFFFFFFFFFFE) = true := by decide

/-- BNE to the farthest target before it (95 4.5). -/
theorem test_bne_far_back : runs ((start 0).setReg 1 1) 0x14228000
    (fun u => u.pc == 0xFFFFFFFF80001004 && u.nextPc == some 0xFFFFFFFF7FFE1004 && u.inDelaySlot) = true := by decide

/-- BEQL not taken skips its slot (95 4.5). -/
theorem test_beql_nullifies : runs (((start 0).setReg 1 1).setReg 2 2) 0x50220004
    (fun u => u.pc == 0xFFFFFFFF80001008 && u.nextPc == none && !u.inDelaySlot) = true := by decide

/-- BLTZALL not taken links all the same (95 4.5). -/
theorem test_bltzall_links : runs (start 0) 0x04320004 (fun u => u.reg 31 == 0xFFFFFFFF80001008 && u.pc == 0xFFFFFFFF80001008) = true := by decide

/-- JALR r2, r1 (95 4.5). -/
theorem test_jalr : runs ((start 0).setReg 1 0xFFFFFFFF80003000) 0x00201009
    (fun u => u.nextPc == some 0xFFFFFFFF80003000 && u.reg 2 == 0xFFFFFFFF80001008) = true := by decide

/-- J keeps the high bits of the slot's address (95 4.5). -/
theorem test_j_region : runs (start 0) 0x0BFFFFFF (fun u => u.nextPc == some 0xFFFFFFFF8FFFFFFC) = true := by decide

/-- JALR r1, r1 has no meaning (95 4.5). -/
theorem test_jalr_same_register : refuses (start 0) 0x00200809 .jalrSameRegister = true := by decide

/-- A branch in a delay slot has no meaning (45_jump_branch R444). -/
theorem test_branch_in_slot : refuses { start 0 with inDelaySlot := true } 0x1000FFFF .branchInDelaySlot = true := by decide

/-- The pair mf_rd, mf_age of R430: MFLO replaces what MFHI left, and MTLO two instructions behind leaves r5 alone. -/
theorem test_mf_pair :
    (let s (age : Nat) : State := { (start 0).setReg 5 7 with hazards := { Hazards.reset with mfRd := 5, mfAge := age } }
    runs (s 0) 0x00003012 (fun u => u.hazards.mfRd == 6 && u.hazards.mfAge == 0) &&
    runs (s 2) 0x00800013 (fun u => u.reg 5 == 7 && u.lo == 0)) = true := by decide

/-- MTC0 of a base from kuseg has no meaning, also with the value that it holds (70 R772, U23). -/
theorem test_mtc0_from_kuseg : refuses { start 0 with pc := 0x1000 } 0x40800000 .mappedSpaceInWindow = true := by decide

/-- BC1F and ERET in a delay slot, their coprocessor unusable: Coprocessor Unusable of the branch before (47 R511, R512). -/
theorem test_unusable_in_slot :
    (let s : State := { start 0x10 with pc := 0xFFFFFFFF80001004, inDelaySlot := true, nextPc := some 0 }
    let cpu (ce : BitVec 2) (u : State) : Bool :=
      u.cp0.cause.excCode == 11 && u.cp0.cause.ce == ce && u.cp0.cause.bd && u.cp0.epc == 0xFFFFFFFF80001000
    runs s 0x45000004 (cpu 1) && runs s 0x42000018 (cpu 0)) = true := by decide

/-- TLTIU with a sign-extended immediate (95 4.6). -/
theorem test_tltiu_traps : runs ((start 0).setReg 1 0xFFFFFFFFFFFF7FFF) 0x042B8000 (fun u => u.cp0.cause.excCode == 13) = true := by decide

/-- TGE compares signed (95 4.6). -/
theorem test_tge_no_trap : runs ((start 0).setReg 1 0xFFFFFFFFFFFFFFFF) 0x00220030
    (fun u => u.pc == 0xFFFFFFFF80001004 && u.cp0 == (start 0).cp0) = true := by decide

/-- SYSCALL in a delay slot: EPC is the branch, BD = 1 (96 4.10). -/
theorem test_syscall_in_slot : runs { start 0 with pc := 0xFFFFFFFF80001004, inDelaySlot := true, nextPc := some 0 } 0x0000000C
    (fun u => u.cp0.cause.bd && u.cp0.epc == 0xFFFFFFFF80001000 && u.cp0.cause.excCode == 8 && !u.inDelaySlot) = true := by decide

/-- SYSCALL with EXL = 1 keeps EPC and BD (96 4.10). -/
theorem test_syscall_nested : runs { start 2 with cp0 := { (start 2).cp0 with epc := 0x77 } } 0x0000000C
    (fun u => u.cp0.epc == 0x77 && u.cp0.status.toWord == 2 && u.pc == 0xFFFFFFFF80000180) = true := by decide

/-- The vector with BEV = 1 (96 4.10). -/
theorem test_break_bev : runs (start 0x00400004) 0x0000000D
    (fun u => u.pc == 0xFFFFFFFFBFC00380 && u.cp0.status.toWord == 0x00400006) = true := by decide

/-- ERET to User mode (96 4.10). -/
theorem test_eret_to_user : runs { start 0x0000FF13 with llBit := true, cp0 := { (start 0x0000FF13).cp0 with epc := 0x1004, status := { (Status.ofWord 0xFF13) with um := true } } } 0x42000018
    (fun u => u.pc == 0x1004 && u.cp0.status.toWord == 0x0000FF11 && !u.llBit && u.userMode) = true := by decide

/-- ERET with ERL = 1 goes to ErrorEPC and leaves EXL (96 4.10). -/
theorem test_eret_erl : runs { start 6 with cp0 := { (start 6).cp0 with errorEpc := 0x88, epc := 0x99 } } 0x42000018
    (fun u => u.pc == 0x88 && u.cp0.status.toWord == 2 && u.cp0.epc == 0x99) = true := by decide

/-- MTC0 of Status stores the implemented bits (95 4.8). -/
theorem test_mtc0_status : runs ((start 0).setReg 2 0xFFFFFFFFFFFFFFFF) 0x40826000 (fun u => u.cp0.status.toWord == 0xF7D7FF37) = true := by decide

/-- MTC0 of Cause writes IV and IP1:0 alone (95 4.8). -/
theorem test_mtc0_cause : runs { (start 0).setReg 2 0xFFFFFFFFFFFFFFFF with cp0 := { (start 0).cp0 with cause := { bd := true, ce := 0, dw := false, iw := false, iv := false, ip := 0, excCode := 8 } } } 0x40826800
    (fun u => u.cp0.cause.toWord 0 == 0x80800320) = true := by decide

/-- MFC0 of EPC gives the low word, sign-extended (95 4.8). -/
theorem test_mfc0_epc : runs { start 0 with cp0 := { (start 0).cp0 with epc := 0x0123456789ABCDEF } } 0x40037000
    (fun u => u.reg 3 == 0xFFFFFFFF89ABCDEF) = true := by decide

/-- MTC0 of EPC stores all 64 bits (95 4.8). -/
theorem test_mtc0_epc : runs ((start 0).setReg 2 0x0123456789ABCDEF) 0x40827000 (fun u => u.cp0.epc == 0x0123456789ABCDEF) = true := by decide

/-- Config after a big-endian, 64-bit boot (95 4.8). -/
theorem test_mfc0_config : runs (start 0) 0x40038000 (fun u => u.reg 3 == 0xE270) = true := by decide

/-- A write of Compare clears the timer latch (95 4.8). -/
theorem test_mtc0_compare : runs { (start 0).setReg 2 0x1000 with events := { State.reset.events with timerPending := true } } 0x40825800
    (fun u => u.cp0.compare == 0x1000 && !u.events.timerPending) = true := by decide

/-- MFC0 in User mode with CU0 = 0 (96 4.10). -/
theorem test_mfc0_user : runs (start 0x10) 0x40026000 (fun u => u.cp0.cause.excCode == 11 && u.cp0.cause.ce == 0 && u.cp0.status.toWord == 0x12) = true := by decide

/-- DADDU in User mode with UX = 0 (96 4.10). -/
theorem test_daddu_user : runs (start 0x10) 0x0022182D (fun u => u.cp0.cause.excCode == 10) = true := by decide

/-- TLBR in Kernel mode has no meaning (96 4.10). -/
theorem test_tlbr_refused : refuses (start 0) 0x42000001 .reservedCop0 = true := by decide

/-- A COP2 word with CU2 = 0 (96 4.10). -/
theorem test_cop2_unusable : runs (start 0) 0x4A000000 (fun u => u.cp0.cause.excCode == 11 && u.cp0.cause.ce == 2) = true := by decide

/-- `start`, with r1 = 0xFFFFFFFFA0002000, uncached, and the bytes of 95_test_vectors 4.7 behind it. -/
def data (bigEndian : Bool) : State :=
  { (start 0).setReg 1 0xFFFFFFFFA0002000 with
    boot := { State.reset.boot with bigEndian := bigEndian }
    mem := [(0x2000, 0x80), (0x2001, 0x91), (0x2002, 0xA2), (0x2003, 0xB3), (0x2004, 0xC4), (0x2005, 0xD5),
      (0x2006, 0xE6), (0x2007, 0xF7)] }

/-- `start` with DE = 1 and r4 = 0xFFFFFFFF80000020, cached; way A holds its line, dirty, the bytes 1 to 32. -/
def cached (tagLo : Word) : State :=
  { (start 0x10000).setReg 4 0xFFFFFFFF80000020 with
    cp0 := { (start 0x10000).cp0 with tagLo := TagLo.ofWord tagLo }
    dcache := State.reset.dcache.setLine .a 1
      { DLine.reset with cs := 3, w := true, data := Vector.ofFn fun k => BitVec.ofNat 8 (k.val + 1) } }

/-- LH in both byte orders (95 4.7). -/
theorem test_lh_both_orders : (runs (data true) 0x84220000 (fun u => u.reg 2 == 0xFFFFFFFFFFFF8091) &&
    runs (data false) 0x84220000 (fun u => u.reg 2 == 0xFFFFFFFFFFFF9180)) = true := by decide

/-- LD in both byte orders (95 4.7). -/
theorem test_ld_both_orders : (runs (data true) 0xDC220000 (fun u => u.reg 2 == 0x8091A2B3C4D5E6F7) &&
    runs (data false) 0xDC220000 (fun u => u.reg 2 == 0xF7E6D5C4B3A29180)) = true := by decide

/-- LWU does not sign-extend (95 4.7). -/
theorem test_lwu_no_sign : runs (data true) 0x9C220000 (fun u => u.reg 2 == 0x8091A2B3) = true := by decide

/-- LWL at offset 1 in both byte orders (95 3.1, the second memory value's rows). -/
theorem test_lwl_merges : (runs ({ data true with mem := [(0x2000, 0x11), (0x2001, 0x22), (0x2002, 0x33), (0x2003, 0x44)] }.setReg 2 0x0123456789ABCDEF) 0x88220001
      (fun u => u.reg 2 == 0x223344EF) &&
    runs ({ data false with mem := [(0x2000, 0x88), (0x2001, 0x77), (0x2002, 0x66), (0x2003, 0x55)] }.setReg 2 0x0123456789ABCDEF) 0x88220001
      (fun u => u.reg 2 == 0x7788CDEF)) = true := by decide

/-- SW in both byte orders (95 4.7). -/
theorem test_sw_both_orders : (runs ((data true).setReg 2 0x0102030405060708) 0xAC220004
      (fun u => [0x2003, 0x2004, 0x2005, 0x2006, 0x2007].map u.mem.get == [0xB3, 5, 6, 7, 8]) &&
    runs ((data false).setReg 2 0x0102030405060708) 0xAC220004
      (fun u => [0x2003, 0x2004, 0x2005, 0x2006, 0x2007].map u.mem.get == [0xB3, 8, 7, 6, 5])) = true := by decide

/-- A store hit with Status.CE = 1 takes its parity from ECC (21_caches R230). -/
theorem test_store_ecc : runs { cached 0 with
      cp0 := { (start 0x30000).cp0 with ecc := 0xA5 } } 0xAC800000
    (fun u => let l := u.dcache.line .a 1
      (l.par[0], l.par[1], l.par[2], l.par[3]) == (true, false, true, false)) = true := by decide

/-- SDR at offset 2, big-endian (95 3.8). -/
theorem test_sdr_big : runs ((data true).setReg 2 0x0123456789ABCDEF) 0xB4220002
    (fun u => [0x2000, 0x2001, 0x2002, 0x2003].map u.mem.get == [0xAB, 0xCD, 0xEF, 0xB3]) = true := by decide

/-- LW in User mode with RE = 1 reads the other word of the doubleword (96 4.15). -/
theorem test_reverse_endian : runs { (start 0x02000010).setReg 1 0x100 with
      cp0 := { (start 0x02000010).cp0 with calg := 0x22233332 }
      mem := [(0x104, 0x55), (0x105, 0x66), (0x106, 0x77), (0x107, 0x08)] } 0x8C230000 (fun u => u.reg 3 == 0x55667708) = true := by decide

/-- LW at a misaligned address (96 4.10). -/
theorem test_lw_misaligned : runs (data true) 0x8C230002 (fun u => u.cp0.cause.excCode == 4 && u.cp0.badVAddr == 0xFFFFFFFFA0002002 && u.reg 3 == 0) = true := by decide

/-- Bound ranks above misalignment (96 4.11). -/
theorem test_dbound_first : runs { (start 0).setReg 1 0x2002 with cp0 := { (start 0).cp0 with dbound := 1 } } 0x8C230000
    (fun u => u.cp0.cause.excCode == 3 && u.cp0.badVAddr == 0x2002) = true := by decide

/-- The page addition discards its carry (96 4.11). -/
theorem test_base_wraps : ({ start 0 with cp0 := { (start 0).cp0 with dbase := 0xFFFFF } }.translateData 0x1234 == .ok 0x234 3) = true := by decide

/-- LL through the cache sets the link (95 4.8). -/
theorem test_ll_sets_link : runs { (start 0x10000).setReg 8 0xFFFFFFFF80002000 with mem := [(0x2000, 0x80), (0x2003, 5)] } 0xC1090000
    (fun u => u.reg 9 == 0xFFFFFFFF80000005 && u.llBit && u.llAddr == 0x2000 && u.llSeen) = true := by decide

/-- SC with LLbit = 0 writes 0 and stores nothing (95 4.8). -/
theorem test_sc_without_link : runs (((start 0).setReg 8 0xFFFFFFFF80002000).setReg 10 6) 0xE10A0000 (fun u => u.reg 10 == 0 && u.mem == [] && !u.llBit) = true := by decide

/-- SC with LLbit = 1 stores and writes 1 (95 4.8; uncached here). -/
theorem test_sc_stores : runs { ((start 0).setReg 8 0xFFFFFFFFA0002000).setReg 10 0x0000000100000006 with llBit := true } 0xE10A0000
    (fun u => u.reg 10 == 1 && u.mem == [(0x2003, 6)] && u.llBit) = true := by decide

/-- A watched doubleword (96 4.13). -/
theorem test_dwatch : runs { data true with cp0 := { (start 0).cp0 with dwatch := DWatch.ofWord 0xA0002003 } } 0xA0230005
    (fun u => u.cp0.cause.excCode == 23 && u.cp0.cause.dw && !u.cp0.cause.iw && u.mem.get 0x2005 == 0xD5) = true := by decide

/-- Hit Writeback D: memory has the line, W = 0, CH = 1 (96 4.14). -/
theorem test_hit_writeback : runs (cached 0) 0xBC990000
    (fun u => u.mem.get 0x20 == 1 && u.mem.get 0x3F == 32 && (u.dcache.line .a 1).valid && !(u.dcache.line .a 1).w &&
      u.cp0.status.ch) = true := by decide

/-- Index Writeback Invalidate D on way B leaves way A (96 4.14). -/
theorem test_index_writeback_other_way : runs (cached 0) 0xBC812020 (fun u => u.mem == [] && u.dcache.line .a 1 == (cached 0).dcache.line .a 1) = true := by decide

/-- Index Store Tag D (96 4.14). -/
theorem test_index_store_tag : runs ((cached 0x000123C4).setReg 4 0xFFFFFFFF80000040) 0xBC890000
    (fun u => (u.dcache.line .a 2).tag == 0x123 && (u.dcache.line .a 2).cs == 3 && (u.dcache.line .a 2).f) = true := by decide

/-- Fill I into way B (96 4.14). -/
theorem test_fill : runs ((cached 0).setReg 4 0xFFFFFFFF80006020) 0xBC940000
    (fun u => (u.icache.line .b 1).valid && (u.icache.line .b 1).tag == 6) = true := by decide

/-- CACHE retires the write buffer first (21_caches R234): Index Load Tag D. -/
theorem test_cache_retires_writes : runs { cached 0 with bus := { Bus.reset with writes := [bufferedStore 4 [8]] } } 0xBC850000 (fun u => u.bus.writes == []) = true := by decide

/-- CACHE at an uncached address has no meaning (96 4.14). -/
theorem test_cache_uncached : refuses ((cached 0).setReg 4 0xFFFFFFFFA0000020) 0xBC990000 .cacheOpUncached = true := by decide

/-- CU1 = 1, FR = 0, FCR31 = `f`, FGR[4] = `a`, FGR[6] = `b`. -/
def fpu (f a b : Word) : State := (((start 0x20000000).setFgr 4 a).setFgr 6 b).setFcr31 (Fcr31.ofWord f)

/-- ADD.S rounds a tie to even and raises I (95 4.9). -/
theorem test_add_s : runs (fpu 0 0x3F800001 0x33800000) 0x46062080
    (fun u => u.fgr 2 == 0x3F800002 && u.fpu.fcr31.toWord == 0x00001004) = true := by decide +kernel

/-- ADD.S overflows to the largest number under RZ (95 4.9). -/
theorem test_add_s_overflow : runs (fpu 1 0x7F7FFFFF 0x7F7FFFFF) 0x46062080
    (fun u => u.fgr 2 == 0x7F7FFFFF && u.fpu.fcr31.toWord == 0x00005015) = true := by decide +kernel

/-- SUB.S, a tiny result, FS = 1, RP (95 4.9). -/
theorem test_sub_s_tiny : runs (fpu 0x01000002 0x00800001 0x00800000) 0x46062081
    (fun u => u.fgr 2 == 0x00800000 && u.fpu.fcr31.toWord == 0x0100300E) = true := by decide +kernel

/-- SUB.S, a tiny result, FS = 0: Unimplemented (95 4.9). -/
theorem test_sub_s_unimplemented : runs (fpu 0 0x00800001 0x00800000) 0x46062081
    (fun u => u.fpu.fcr31.toWord == 0x00020000 && u.cp0.cause.excCode == 15 && u.fgr 2 == 0) = true := by decide +kernel

/-- MUL.S (95 4.9). -/
theorem test_mul_s : runs (fpu 0 0x40400000 0xC0000000) 0x46062082
    (fun u => u.fgr 2 == 0xC0C00000 && u.fpu.fcr31.toWord == 0) = true := by decide +kernel

/-- DIV.S under RZ (95 4.9). -/
theorem test_div_s : runs (fpu 1 0x3F800000 0x40400000) 0x46062083
    (fun u => u.fgr 2 == 0x3EAAAAAA && u.fpu.fcr31.toWord == 0x00001005) = true := by decide +kernel

/-- DIV.S by zero (95 4.9). -/
theorem test_div_s_zero : runs (fpu 0 0x3F800000 0x80000000) 0x46062083
    (fun u => u.fgr 2 == 0xFF800000 && u.fpu.fcr31.toWord == 0x00008020) = true := by decide +kernel

/-- SQRT.S of 2 (95 4.9). -/
theorem test_sqrt_s : runs (fpu 0 0x40000000 0) 0x46002084
    (fun u => u.fgr 2 == 0x3FB504F3 && u.fpu.fcr31.toWord == 0x00001004) = true := by decide +kernel

/-- ABS.S of a signaling NaN (95 4.9). -/
theorem test_abs_s_snan : runs (fpu 0 0xFFC00000 0) 0x46002085
    (fun u => u.fgr 2 == 0x7FBFFFFF && u.fpu.fcr31.toWord == 0x00010040) = true := by decide +kernel

/-- ROUND.W.S of 2.5, whatever RM (95 4.9). -/
theorem test_round_w_s : runs (fpu 3 0x40200000 0) 0x4600208C
    (fun u => u.fgr 2 == 2 && u.fpu.fcr31.toWord == 0x00001007) = true := by decide +kernel

/-- FLOOR.W.S of -2.5 (95 4.9). -/
theorem test_floor_w_s : runs (fpu 0 0xC0200000 0) 0x4600208F
    (fun u => u.fgr 2 == 0xFFFFFFFD && u.fpu.fcr31.toWord == 0x00001004) = true := by decide +kernel

/-- CVT.S.W of 2^24 + 1 under RP (95 4.9). -/
theorem test_cvt_s_w : runs (fpu 2 0x01000001 0) 0x468020A0
    (fun u => u.fgr 2 == 0x4B800001 && u.fpu.fcr31.toWord == 0x00001006) = true := by decide +kernel

/-- C.NGT.S of an unordered pair (95 4.9). -/
theorem test_c_ngt_s : runs (fpu 0 0x7FC00000 0x3F800000) 0x4606203F (fun u => u.fpu.fcr31.toWord == 0x00810040) = true := by decide +kernel

/-- C.LT.S of an unordered pair with V enabled (95 4.9). -/
theorem test_c_lt_s_traps : runs (fpu 0x00000800 0x7F800001 0x3F800000) 0x4606203C
    (fun u => u.fpu.fcr31.toWord == 0x00010800 && u.cp0.cause.excCode == 15) = true := by decide +kernel

/-- CTC1 writes FCR31 before it traps (96 4.16). -/
theorem test_ctc1_traps : runs ((fpu 0 0 0).setReg 2 0x10800) 0x44C2F800
    (fun u => u.fpu.fcr31.toWord == 0x00010800 && u.cp0.cause.excCode == 15) = true := by decide +kernel

/-- MFC1 of an odd register with FR = 0 (96 4.16). -/
theorem test_mfc1_odd : runs ((fpu 0 0 0).setFgr 5 0x9ABCDEF0) 0x44022800 (fun u => u.reg 2 == 0xFFFFFFFF9ABCDEF0) = true := by decide +kernel

/-- ADD.S to an odd register with FR = 0 (96 4.16). -/
theorem test_odd_register : runs (fpu 0 0 0) 0x460620C0 (fun u => u.fpu.fcr31.toWord == 0x00020000 && u.cp0.cause.excCode == 15) = true := by decide +kernel

/-! ## One step -/

/-- The word placed for the host runs as the first instruction after reset: ADDIU r1, r0, 5 (95 P1). -/
theorem test_first_step : steps (State.reset.withFetchWord 32 0x24010005) (fun u => u.reg 1 == 5 && u.pc == 0xFFFFFFFFBFC00004) = true := by decide +kernel

/-- SYSCALL as the first instruction after reset (96 4.10). -/
theorem test_first_step_syscall : steps (State.reset.withFetchWord 32 0x0000000C)
    (fun u => u.cp0.status.toWord == 0x00400006 && u.pc == 0xFFFFFFFFBFC00380 && u.cp0.epc == 0xFFFFFFFFBFC00000) = true := by decide +kernel

/-- Int*(0), IV = 1 (96 4.12). -/
theorem test_interrupt : steps { start 0x401 with
      inputs := [before [.pins 1 false false]]
      cp0 := { (start 0x401).cp0 with cause := { State.reset.cp0.cause with iv := true } } }
    (fun u => u.pc == 0xFFFFFFFF80000200 && u.cp0.status.toWord == 0x403 && u.cp0.epc == 0xFFFFFFFF80001000) = true := by decide +kernel

/-- An external write to the Interrupt register (96 4.12). -/
theorem test_interrupt_register : steps { start 0x401 with inputs := [before [.externalWrite 0 0x00010001]] }
    (fun u => u.events.intReg == 1 && u.cp0.cause.excCode == 0 && u.pc == 0xFFFFFFFF80000180) = true := by decide +kernel

/-- An NMI (96 4.10). -/
theorem test_nmi : steps { start 0x00400004 with pc := 0xFFFFFFFFBFC00040, inputs := [before [.pins 0 true false]] }
    (fun u => u.cp0.errorEpc == 0xFFFFFFFFBFC00040 && u.cp0.status.toWord == 0x00500004 && u.pc == 0xFFFFFFFFBFC00000) = true := by decide +kernel

/-- A warm reset at a delay slot (96 4.10). -/
theorem test_soft_reset : steps { start 0x2000FF01 with pc := 0x400, inDelaySlot := true, inputs := [onlyReset { kind := .warm, phase := .boundary, lost := 0 }] }
    (fun u => u.cp0.errorEpc == 0x3FC && u.cp0.status.toWord == 0x2050FF05) = true := by decide +kernel

/-- A cold reset (96 4.10). -/
theorem test_cold_reset : steps { start 0x2000FF01 with inputs := [onlyReset { kind := .cold 0x4100, phase := .boundary, lost := 0 }] }
    (fun u => u.cp0.status.toWord &&& 0x01D00004 == 0x00400004 && u.cp0.calg == 0x22233333 && u.boot.bigEndian) = true := by decide +kernel

/-- A watched fetch in a delay slot (96 4.13). -/
theorem test_iwatch : steps { start 0 with
      pc := 0x80001010
      inDelaySlot := true
      cp0 := { (start 0).cp0 with iwatch := IWatch.ofWord 0x80001011 } }
    (fun u => u.cp0.cause.iw && u.cp0.cause.bd && u.cp0.epc == 0x8000100C && u.cp0.cause.excCode == 23) = true := by decide +kernel

/-- In standby, an interrupt or ExtRqst* that is asserted and released again in one step ends it (46_trap_special R506). -/
theorem test_standby_pulse :
    (steps { start 0 with
      standby := true, pc := 0xFFFFFFFFA0001000, inputs := [before [.pins 1 false false, .pins 0 false false]] }
      (fun u => !u.standby && u.pc == 0xFFFFFFFFA0001004) &&
    steps { start 0 with
      standby := true, inputs := [{ Arrivals.quiet with within := [.pins 0 false true, .pins 0 false false] }] }
      (fun u => !u.standby && u.pc == 0xFFFFFFFF80001000)) = true := by decide

/-- NMI* falling ends standby while bit 6 of the Interrupt register holds the NMI level high; held low, it does not
(46_trap_special R506). -/
theorem test_standby_nmi_falls :
    (let s (pin : Bool) : State := { start 0 with
      standby := true
      events := { State.reset.events with intReg := 0x40, nmiPin := pin }
      inputs := [{ Arrivals.quiet with within := [.pins 0 true false] }] }
    steps (s false) (fun u => !u.standby && !u.events.nmiPending) && steps (s true) (fun u => u.standby)) = true := by decide

/-- Standby ends with an interrupt request, taken or not (96 4.12). -/
theorem test_wait_then_interrupt : (steps { start 0x401 with standby := true, inputs := [before [.pins 1 false false]] } (fun u => !u.standby && u.cp0.status.exl) &&
    steps { start 0x400 with standby := true, inputs := [before [.pins 1 false false]] } (fun u => !u.standby && !u.cp0.status.exl)) = true := by decide +kernel

/-- Count reaches Compare (96 4.12). -/
theorem test_timer : steps { start 0x8001 with
      standby := true
      events := { State.reset.events with countPhase := true }
      cp0 := { (start 0x8001).cp0 with count := 0xFFFFFFFF } } (fun u => u.events.timerPending && u.cp0.count == 0) = true := by decide +kernel

/-- Three increments in one step, over the wrap and over Compare = 0 (11_cp0_registers R95, R96). -/
theorem test_tick_input : steps { start 0 with
      standby := true
      inputs := [{ Arrivals.quiet with ticks := some 3 }]
      cp0 := { (start 0).cp0 with count := 0xFFFFFFFE, compare := 0 } }
    (fun u => u.cp0.count == 1 && u.events.timerPending) = true := by decide +kernel

/-- Two external requests at one boundary (80_system_interface R814, R850). -/
theorem test_external_write_then_request : steps { start 0x401 with inputs := [before [.externalWrite 0 0x00010001, .externalWrite 0 0x00010000]] }
    (fun u => u.events.intReg == 0 && !u.cp0.status.exl) = true := by decide +kernel

/-- A pending interrupt hidden for one instruction (70_reset_and_hazards R774, U28): SLL r0, r0, 0 runs first. -/
theorem test_interrupt_held : steps { start 0x401 with
      pc := 0xFFFFFFFFA0001000
      inputs := [{ before [.pins 1 false false] with hold := true }] }
    (fun u => u.pc == 0xFFFFFFFFA0001004 && !u.cp0.status.exl) = true := by decide +kernel

/-- SW uncached enters the write buffer; LW empties it (20_memory R175, R176). -/
theorem test_store_is_buffered : (runs (data true) 0xAC220004 (fun u => u.bus.writes.map (·.bytes) == [[0x2004, 0x2005, 0x2006, 0x2007]]) &&
    runs { data true with bus := { Bus.reset with writes := [bufferedStore 5 [0x2000]] } } 0x8C220004 (fun u => u.bus.writes == [])) = true := by decide +kernel

/-- A cached fetch refills way A first, then, F having been complemented, way B (21_caches R208, R214, R220). -/
theorem test_fetch_miss_refills : steps (start 0) (fun u => (u.icache.line .a 0).valid && (u.icache.line .a 0).tag == 1 && (u.icache.line .a 0).f &&
    steps { u with pc := 0xFFFFFFFF80002000 } (fun v => (v.icache.line .b 0).tag == 2 && (v.icache.line .b 0).f &&
      !(v.icache.line .a 0).f && (v.icache.line .a 0).tag == 1)) = true := by decide +kernel

/-- A store hit under write-back makes the line Dirty Exclusive (80_system_interface R845). -/
theorem test_store_dirty_exclusive : runs { cached 0 with dcache := State.reset.dcache.setLine .a 1 { DLine.reset with cs := 1 } } 0xAC820000
    (fun u => (u.dcache.line .a 1).cs == 3 && (u.dcache.line .a 1).w && u.mem == []) = true := by decide +kernel

/-! ## Witnesses: for each statement, a state and operands that meet its hypotheses together -/

/-- An answer that `r` gives is a next state. -/
def isNext (r : Result) : Bool :=
  match r with
  | .next _ => true
  | _ => false

theorem next_of_isNext {r : Result} (h : isNext r = true) : ∃ t, r = .next t := by
  cases r with
  | next t => exact ⟨t, rfl⟩
  | fault _ => simp [isNext] at h
  | refused _ => simp [isNext] at h

/-- DecodeEncode: a catch-all word and an ordinary one. -/
theorem witness_DecodeEncode :
    (Instr.cop1Other 0 1 2 3 16).WellFormed = true ∧ (Instr.lb 31 0 0xFFFF).WellFormed = true := by decide

/-- DecodeRow. -/
theorem witness_DecodeRow :
    decode 0x00221820 = .ok (.add 1 2 3) := by decide

/-- ReservedCells: a word of each kind of cell. -/
theorem witness_ReservedCells :
    (opOf 0x74000000 = 29#6 ∧ opOf 0xEC000000 = 59#6) ∧ (opOf 0x00000001 = 0#6 ∧ fnOf 0x00000001 = 1#6) ∧
    (opOf 0x7000003F = 28#6 ∧ 3 ≤ (fnOf 0x70000003).toNat) ∧
    (opOf 0x041F0000 = 1#6 ∧ (rtOf 0x041F0000).toNat / 4 = 7 ∧ rtOf 0x040F0000 = 15#5) := by decide

/-- StepRunsDecoded: the first step after reset. -/
theorem witness_StepRunsDecoded :
    ∃ (s s1 : State) (w : Word) (i : Instr), NothingDue s ∧ s.fetch = .ok w s1 ∧ decode w = .ok i := 
  ⟨State.reset.withFetchWord 32 0x34010001, _, 0x34010001, .ori 0 1 1, by unfold NothingDue; decide, rfl, by decide⟩

/-- StepFetchesUncached: the first step after reset. -/
theorem witness_StepFetchesUncached :
    ∃ (s : State) (pa : Word) (i : Instr), NothingDue s ∧ s.platform = [] ∧ s.iwatchMatches = false ∧
      s.hazards.mappedWindow = 0 ∧ s.translateFetch = .ok pa 2 ∧ s.pc.toNat % 4 = 0 ∧ i.WellFormed = true ∧
      memNumber s ((List.range 4).map fun k => s.mem.get (pa.toNat + k)) = (encode i).toNat := 
  ⟨State.reset.withFetchWord 32 0x34010001, 0x1FC00000, .ori 0 1 1, by unfold NothingDue; decide, rfl, by decide, rfl,
    by decide, by decide, by decide, by decide⟩

/-- StepFetchesCached: a hit in good and in bad parity, the line in both ways, a miss of RAM, of nothing and of bad parity. -/
theorem witness_StepFetchesCached :
    (let l : ILine := { ILine.reset with tag := 1, valid := true }
    let hit : State := { start 0 with icache := State.reset.icache.setLine .a 0 l }
    let bad : State := { start 0 with icache := State.reset.icache.setLine .b 0 { l with tagPar := true } }
    let both : State := { hit with icache := hit.icache.setLine .b 0 l }
    let at' (k : RegionKind) : State := { start 0 with platform := [{ base := 0x1000, size := 32, kind := k }] }
    (∀ s ∈ [hit, bad, both, start 0, at' .nothing, at' .badParity], NothingDue s ∧ s.hazards.mappedWindow = 0 ∧
      s.hazards.ilWindow = 0 ∧ s.iwatchMatches = false ∧ s.translateFetch = .ok 0x1000 3 ∧ s.pc.toNat % 4 = 0 ∧
      s.cp0.status.de = false) ∧
    hit.icache.lookup 0x1000 = .hit .a ∧ l.par[0x1000 / 4 % 8] = false ∧ l.tagPar = parity (l.tag ++ bit l.valid) ∧
    memNumber hit [0, 0, 0, 0] = (encode (.sll 0 0 0)).toNat ∧
    bad.icache.lookup 0x1000 = .hit .b ∧ true ≠ parity (l.tag ++ bit l.valid) ∧ both.icache.lookup 0x1000 = .both ∧
    (start 0).icache.lookup 0x1000 = .miss ∧ (start 0).mem.get 0x1000 = 0 ∧
    (∀ y ∈ lineBytes (lineBaseOf 0x1000), kindAt (at' .nothing).platform y = some .nothing) ∧
    ∀ y ∈ lineBytes (lineBaseOf 0x1000), kindAt (at' .badParity).platform y = some .badParity) := by
  unfold NothingDue; decide +kernel

/-- StepKeepsInvariant: the invariant holds at reset, and a step is taken. -/
theorem witness_StepKeepsInvariant :
    ∃ t, State.reset.Inv ∧ step (State.reset.withFetchWord 32 0x34010001) = .next t := by
  obtain ⟨t, h⟩ := next_of_isNext (r := step (State.reset.withFetchWord 32 0x34010001)) (by decide +kernel)
  exact ⟨t, by unfold State.Inv; decide +kernel, h⟩

/-- StepKeepsInvariant: in a delay slot, with memory at both ends. -/
theorem witness_StepKeepsInvariant_slot :
    (let s : State := { start 0 with nextPc := some 0, inDelaySlot := true, mem := [(0, 1), (0xFFFFFFFF, 2)] }
    s.Inv ∧ isNext (step s) = true) := by
  unfold State.Inv; decide +kernel

/-- UserModeKeepsCp0: an instruction that completes and one that traps. -/
theorem witness_UserModeKeepsCp0 :
    (start 0x10).userMode = true ∧ (start 0x10).cp0.status.cu.getLsbD 0 = false ∧
    isNext (exec (.addu 1 2 3) (start 0x10)) = true ∧ isNext (exec (.syscall 0) (start 0x10)) = true := by decide

/-- ColdResetLeaves: a good stream and a reserved one. -/
theorem witness_ColdResetLeaves :
    (let r (stream : BitVec 256) := onlyReset { kind := .cold stream, phase := .boundary, lost := 1 }
    (∀ v : BitVec 256, ({ start 0 with inputs := [r v] } : State).inputs = r v :: []) ∧
    reservedStream (start 0).part 0x4100 = false ∧ reservedStream (start 0).part 1 = true) := ⟨fun _ => rfl, by decide, by decide⟩

/-- InterruptTaken: nothing arrives, or a step that hides nothing, awake or in standby. -/
theorem witness_InterruptTaken :
    (let s : State := { start 0x8401 with events := { State.reset.events with intPins := 1 } }
    s.standby = false ∧ s.events.nmiPending = false ∧ s.watchDue = false ∧ s.cp0.status.ie = true ∧
    s.cp0.status.exl = false ∧ s.cp0.status.erl = false ∧ (interruptLines s ++ s.cp0.cause.ip) &&& s.cp0.status.im ≠ 0#8 ∧
    interruptLines { s with standby := true } ≠ 0#6 ∧ s.inputs = [] ∧ ({ s with inputs := [Arrivals.quiet] } : State).inputs.head? = some Arrivals.quiet ∧
    Arrivals.quiet.hold = false) := by decide

/-- InterruptTaken: the platform hides the interrupt. -/
theorem witness_InterruptTaken_held :
    ∃ (s : State) (a : Arrivals) (w : Word) (i : Instr) (s1 : State), s.inputs.head? = some a ∧ a.hold = true ∧
      a.before = [] ∧ a.within = [] ∧ a.reset = none ∧ a.ticks = none ∧ s.interruptRequest = true ∧
      State.fetch { s with inputs := s.inputs.tail, standby := false } = .ok w s1 ∧ decode w = .ok i := 
  ⟨{ start 0x401 with
      pc := 0xFFFFFFFFA0001000
      events := { State.reset.events with intPins := 1 }
      inputs := [{ Arrivals.quiet with hold := true }] },
    { Arrivals.quiet with hold := true }, 0, .sll 0 0 0, _, rfl, rfl, rfl, rfl, rfl, rfl, by decide, rfl, by decide⟩

/-- NmiAndWarmReset: both events, a write in the buffer. -/
theorem witness_NmiAndWarmReset :
    (∃ s : State, s.inputs = [] ∧ s.events.nmiPending = true) ∧
    (∃ (s : State) (rest : _), s.inputs = onlyReset { kind := .warm, phase := .boundary, lost := 1 } :: rest ∧
      lostBytes (s.bus.writes.take 1) = [8]) := 
  ⟨⟨{ start 0 with events := { State.reset.events with nmiPending := true } }, rfl, rfl⟩,
    ⟨{ start 0 with
        inputs := [onlyReset { kind := .warm, phase := .boundary, lost := 1 }]
        bus := { Bus.reset with writes := [bufferedStore 4 [8]] } }, [], rfl, rfl⟩⟩

/-- ResetCutsShort: a store, and a load that misses, cut short. -/
theorem witness_ResetCutsShort :
    ∃ (s s0 s1 s2 : State) (rest : List Arrivals) (lost : Nat),
      s.inputs = onlyReset { kind := .warm, phase := .execution, lost := lost } :: rest ∧ s.platform = [] ∧
      s0 = { s with inputs := rest, bus := { s.bus with lines := [] } } ∧ NothingDue { s0 with inputs := [] } ∧
      s0.fetch = .ok 0xAC220000 s1 ∧ decode 0xAC220000 = .ok (.sw 1 2 0) ∧ (s.ea 1 0).toNat % 4 = 0 ∧
      UncachedRam s1 (s.ea 1 0) 0x2000 true ∧
      State.fetch { s0 with mem := putMem [] 0x3000 [0x8C, 0x82, 0, 0] } = .ok 0x8C820000 s2 ∧
      decode 0x8C820000 = .ok (.lw 4 2 0) ∧ (s.ea 4 0).toNat % 4 = 0 ∧ CachedRam s2 (s.ea 4 0) 0x20 3 false ∧
      s2.dcache.lookup 0x20 = .miss := 
  ⟨{ ((start 0x10000).setReg 1 0xFFFFFFFFA0002000).setReg 4 0xFFFFFFFF80000020 with
      pc := 0xFFFFFFFFA0003000
      mem := putMem [] 0x3000 [0xAC, 0x22, 0, 0]
      inputs := [onlyReset { kind := .warm, phase := .execution, lost := 1 }] },
    _, _, _, [], 1, rfl, rfl, rfl, by unfold NothingDue; decide +kernel, rfl, by decide, by decide +kernel,
    by unfold UncachedRam MapsTo QuietData; decide +kernel, rfl, by decide, by decide +kernel,
    by unfold CachedRam MapsTo QuietData; decide +kernel, by decide +kernel⟩

/-- ResetCutsShort: a store that is buffered and a load. -/
theorem witness_ResetCutsShort_buffer :
    (let s := data true
    (s.ea 1 0).toNat % 4 = 0 ∧ UncachedRam s (s.ea 1 0) 0x2000 true ∧ UncachedRam s (s.ea 1 0) 0x2000 false) := by
  unfold UncachedRam MapsTo QuietData; decide

/-- StandbyHolds: nothing asserted, by default and with a tick input; the timer ends it. -/
theorem witness_StandbyHolds :
    (let s : State := { start 0 with standby := true, inputs := [{ Arrivals.quiet with ticks := some 2 }] }
    s.standby = true ∧ interruptLines s = 0#6 ∧ s.events.nmiPending = false ∧ s.events.extRqst = false ∧
    s.inputs = { Arrivals.quiet with ticks := some 2 } :: [] ∧ ({ s with inputs := [] } : State).inputs = [] ∧
    interruptLines { s with events := { s.events with timerPending := true } } ≠ 0#6 ∧
    Arrivals.quiet.before = [] ∧ Arrivals.quiet.reset = none) := by decide

/-- StandbyHolds and InputsDelivered: what arrives in standby. -/
theorem witness_StandbyHolds_within :
    ∃ s u : State, s.standby = true ∧ ¬WakeAsserted s ∧
      s.inputs = { Arrivals.quiet with within := [.pins 1 false false] } :: [] ∧
      State.deliverAll { s with inputs := [] } [.pins 1 false false] = .ok u ∧ u.standby = false ∧
      (false = true ↔ s.standby = true ∧ ¬WakeAsserted s ∧
        ¬WakeAsserted { s with events := { s.events with intPins := 1 } } ∧
        ¬(false = true ∧ s.events.nmiPin = false)) :=
  ⟨{ start 0 with standby := true, inputs := [{ Arrivals.quiet with within := [.pins 1 false false] }] }, _, rfl,
    by unfold WakeAsserted; decide, rfl, rfl, by decide, by unfold WakeAsserted; decide⟩

/-- FetchExceptions: a state for each branch, the bound at its edge. -/
theorem witness_FetchExceptions :
    (∀ s ∈ [{ start 0x10 with pc := 0x80000000 }, { start 0 with pc := 0x2000, cp0 := { (start 0).cp0 with ibound := 1 } },
        { start 0 with pc := 0x1002, cp0 := { (start 0).cp0 with ibound := 1 } },
        { start 0 with cp0 := { (start 0).cp0 with iwatch := IWatch.ofWord 0x80001001 } }],
      NothingDue s ∧ s.hazards.mappedWindow = 0) ∧
    (start 0x10).userMode = true ∧ (0x2000 : DWord).extractLsb' 12 19 = 2#19 ∧ (0x1002 : DWord).toNat % 4 = 2 ∧
    (low32 (start 0).pc).extractLsb' 2 30 = (IWatch.ofWord 0x80001001).addr ∧ (IWatch.ofWord 0x80001001).i = true ∧
    (start 0).hazards.iwWindow = 0 ∧ (start 0).cp0.status.exl = false ∧ (start 0).cp0.status.erl = false := by
  unfold NothingDue; decide

/-- InputsDelivered: each kind of input. -/
theorem witness_InputsDelivered :
    (∀ i ∈ [Input.pins 1 true false, .externalWrite 0 0x00010001, .externalNull, .agentWrite 0 1, .externalRead],
      ({ start 0 with inputs := [{ Arrivals.quiet with before := [i, .externalNull] }] } : State).inputs =
        { Arrivals.quiet with before := i :: [.externalNull] } :: []) ∧ (start 0).platform = [] ∧
    (0 : Word).extractLsb' 4 3 = 0#3 ∧
    (∀ k : Nat, k < 7 → (1 : BitVec 7).getLsbD k =
      if (0x00010001 : Word).getLsbD (16 + k) then (0x00010001 : Word).getLsbD k else (start 0).events.intReg.getLsbD k) ∧
    NothingDue (start 0) := by
  unfold NothingDue; decide

/-- InputsDelivered: two requests within an instruction. -/
theorem witness_InputsDelivered_within :
    ∃ (s s1 s2 : State) (w : Word) (i : Instr), NothingDue s ∧ s.fetch = .ok w s1 ∧ decode w = .ok i ∧
      s1.deliverAll [.externalWrite 0 0x00010001, .externalNull] = .ok s2 := 
  ⟨{ start 0 with pc := 0xFFFFFFFFA0001000 }, _, _, 0, .sll 0 0 0, by unfold NothingDue; decide, rfl, by decide, rfl⟩

/-- InputsDelivered: three ticks in one instruction. -/
theorem witness_InputsDelivered_ticks :
    ∃ (s s1 t : State) (w : Word) (i : Instr),
      s.inputs = { Arrivals.quiet with ticks := some 3 } :: [] ∧ NothingDue { s with inputs := [] } ∧
      State.fetch { s with inputs := [] } = .ok w s1 ∧ decode w = .ok i ∧ exec i s1 = .next t := 
  ⟨{ start 0 with pc := 0xFFFFFFFFA0001000, inputs := [{ Arrivals.quiet with ticks := some 3 }] }, _, _, 0, .sll 0 0 0, rfl,
    by unfold NothingDue; decide, rfl, by decide, rfl⟩

/-- ExceptionEntry. -/
theorem witness_ExceptionEntry :
    Exc.ov ≠ .int ∧ Exc.watch true false ≠ .int := by decide

/-- EretReturns: ERL = 0 and ERL = 1. -/
theorem witness_EretReturns :
    Cp0Usable (start 0) ∧ (start 0).inDelaySlot = false ∧ Cp0Usable (start 6) ∧ (start 6).cp0.status.erl = true ∧
    (start 0x10).cp0.status.exl = false ∧ (start 0x10).cp0.status.erl = false := by
  unfold Cp0Usable; decide

/-- DataWatchTaken: uncached and through the cache. -/
theorem witness_DataWatchTaken :
    (let s : State := { data true with cp0 := { (start 0x20010000).cp0 with dwatch := DWatch.ofWord 0xA0002003 } }
    let c : State := { cached 0 with cp0 := { (cached 0).cp0 with dwatch := DWatch.ofWord 0x80000023 } }
    (NoMemHazard s ∧ s.hazards.dwWindow = 0 ∧ s.platform = [] ∧ MapsTo s (s.ea 1 0) 0x2000 2 ∧ (s.ea 1 0).toNat % 8 = 0 ∧
      s.cp0.status.exl = false ∧ s.cp0.status.erl = false ∧ Allows64 s ∧ Cp1Usable s ∧
      (low32 (s.ea 1 0)).extractLsb' 3 29 = s.cp0.dwatch.addr ∧ s.cp0.dwatch.r = true ∧ s.cp0.dwatch.w = true) ∧
    NoMemHazard c ∧ c.hazards.dwWindow = 0 ∧ c.platform = [] ∧ MapsTo c (c.ea 4 0) 0x20 3 ∧ c.cp0.status.de = true ∧
      c.dcache.lookup 0x20 ≠ .both ∧ c.cp0.status.exl = false ∧ c.cp0.status.erl = false ∧
      (low32 (c.ea 4 0)).extractLsb' 3 29 = c.cp0.dwatch.addr ∧ c.cp0.dwatch.r = true ∧ c.cp0.dwatch.w = true) := by
  unfold NoMemHazard MapsTo Allows64 Cp1Usable; decide

/-- PostponedWatch: a latched match, a match of the fetch and one of a data access under EXL. -/
theorem witness_PostponedWatch :
    (let s : State := { start 0 with events := { State.reset.events with dwPend := true } }
    s.inputs = [] ∧ s.standby = false ∧ s.events.nmiPending = false ∧ s.cp0.status.exl = false ∧ s.cp0.status.erl = false ∧
    s.events.dwPend = true) ∧
    (let s : State := { start 2 with
      pc := 0xFFFFFFFFA0001000, cp0 := { (start 2).cp0 with iwatch := IWatch.ofWord 0xA0001001 } }
    NothingDue s ∧ s.cp0.status.exl = true ∧ s.platform = [] ∧ s.iwatchMatches = true ∧ s.hazards.iwWindow = 0 ∧
    s.hazards.mappedWindow = 0 ∧ s.translateFetch = .ok 0x1000 2 ∧ s.pc.toNat % 4 = 0 ∧
    (Instr.sll 0 0 0).WellFormed = true ∧
    memNumber s ((List.range 4).map fun k => s.mem.get (0x1000 + k)) = (encode (.sll 0 0 0)).toNat) ∧
    (let s : State := { data true with cp0 := { (start 2).cp0 with dwatch := DWatch.ofWord 0xA0002003 } }
    s.cp0.status.exl = true ∧ NoMemHazard s ∧ s.hazards.dwWindow = 0 ∧ s.platform = [] ∧ MapsTo s (s.ea 1 4) 0x2004 2 ∧
    (s.ea 1 4).toNat % 4 = 0 ∧ s.dwatchMatches (s.ea 1 4) false = true ∧ s.dwatchMatches (s.ea 1 4) true = true) := by
  unfold NothingDue NoMemHazard MapsTo; decide

/-- AddWords: operands at the ends of the range. -/
theorem witness_AddWords :
    isSext32 (0xFFFFFFFF80000000 : DWord) = true ∧ isSext32 (0x7FFFFFFF : DWord) = true ∧
    (-2 ^ 31 ≤ (0xFFFFFFFF80000000 : DWord).toInt + (0x7FFF : BitVec 16).toInt ∧
      (0xFFFFFFFF80000000 : DWord).toInt + (0x7FFF : BitVec 16).toInt < 2 ^ 31) ∧
    ((0x7FFFFFFF : DWord).toInt + 0 = 2 ^ 31 - 1) := by decide

/-- AddDoubles: Kernel mode, and User mode with UX = 1. -/
theorem witness_AddDoubles :
    Allows64 (start 0) ∧ Allows64 (start 0x30) ∧ -2 ^ 63 ≤ (0x8000000000000000 : DWord).toInt + (1 : DWord).toInt := by
  unfold Allows64; decide

/-- AddWords and AddDoubles: one past either end, both widths. -/
theorem witness_AddOverflow :
    isSext32 (0x7FFFFFFF : DWord) = true ∧ 2 ^ 31 ≤ (0x7FFFFFFF : DWord).toInt + (1 : DWord).toInt ∧
    (0xFFFFFFFF80000000 : DWord).toInt - (1 : DWord).toInt < -2 ^ 31 ∧ Allows64 (start 0) ∧
    (0x8000000000000000 : DWord).toInt + (0xFFFF : BitVec 16).toInt < -2 ^ 63 := by
  unfold Allows64; decide

/-- Shifts. -/
theorem witness_Shifts :
    isSext32 ((start 0).reg 2) = true ∧ isSext32 (0xFFFFFFFF80000000 : DWord) = true ∧ Allows64 (start 0) := by
  unfold Allows64; decide

/-- Multiply, Divide, NotSignExtended and HiLoMoves. -/
theorem witness_Multiply :
    NoHiLoHazard (start 0) ∧ isSext32 ((start 0).reg 1) = true ∧ Allows64 (start 0) := by
  unfold NoHiLoHazard Allows64; decide

/-- Divide: by -1 and by zero. -/
theorem witness_Divide :
    (let s : State := (start 0).setReg 2 0xFFFFFFFFFFFFFFFF
    NoHiLoHazard s ∧ isSext32 (s.reg 1) = true ∧ isSext32 (s.reg 2) = true ∧ s.reg 2 ≠ 0 ∧ s.reg 3 = 0 ∧ Allows64 s) := by
  unfold NoHiLoHazard Allows64; decide

/-- HiLoMoves: with and without a waiting pair, and one and two instructions behind a move. -/
theorem witness_HiLoMoves :
    NoHiLoHazard (start 0) ∧ (start 0).hazards.hiloPair = false ∧
    NoHiLoHazard { start 0 with hazards := { Hazards.reset with hiloPair := true } } ∧
    (∀ age ∈ [0, 1],
      let s : State := { start 0 with hazards := { Hazards.reset with mfRd := 5, mfAge := age } }
      ¬NoHiLoHazard s ∧ Allows64 s ∧ (4 : Reg) ≠ s.hazards.mfRd) := by
  unfold NoHiLoHazard Allows64; decide

/-- Jumps and ConditionalBranches outside a slot. -/
theorem witness_Jumps :
    (start 0).inDelaySlot = false ∧ (31 : Reg) ≠ 1 := by decide

/-- ConditionalBranches: BC1x. -/
theorem witness_ConditionalBranches :
    (let s : State := fpu 0x00800000 0 0
    s.inDelaySlot = false ∧ Cp1Usable s ∧ s.hazards.afterCond = false ∧ s.fpu.fcr31.c = true) := by
  unfold Cp1Usable; decide

/-- BranchStops in a slot, with both coprocessors usable. -/
theorem witness_BranchStops :
    (let s : State := { start 0x20000000 with inDelaySlot := true }
    s.inDelaySlot = true ∧ Cp0Usable s ∧ Cp1Usable s) := by
  unfold Cp0Usable Cp1Usable; decide

/-- Traps: the values that the statement names. -/
theorem witness_Traps :
    ((start 0).reg 1).toInt = 0 ∧ ((start 0).reg 2).toNat = 0 ∧ (BitVec.ofInt 64 (0xFFFF : BitVec 16).toInt).toNat = 2 ^ 64 - 1 := by decide

/-- MoveFromCp0 and SystemInstructions: Kernel mode, and User mode with CU0 = 1. -/
theorem witness_MoveFromCp0 :
    Cp0Usable (start 0) ∧ Cp0Usable (start 0x10000010) ∧ (start 0).hazards.afterMtc0 = false ∧ Allows64 (start 0) := by
  unfold Cp0Usable Allows64; decide

/-- MoveToCp0: no active region but that of the program. -/
theorem witness_MoveToCp0 :
    (let s := start 0
    Cp0Usable s ∧ s.hazards.afterMem = false ∧ (low32 s.pc).msb = true ∧ Allows64 s ∧
    ∀ r, ActiveRegion s r → calgField (0x22233332 &&& 0x77777777) r = calgField s.cp0.calg r) := by
  refine ⟨by unfold Cp0Usable; decide, by decide, by decide, by unfold Allows64; decide, fun r h => ?_⟩
  have hr : r = 4 := by
    obtain h | h | ⟨w, h, -⟩ | h := h
    · exact h.trans (by decide)
    · exact absurd h (by simp [start, State.reset, Hazards.reset])
    · exact absurd h (by simp [start, State.reset, Bus.reset])
    · exact (h (start 0).advance (by unfold Advanced; decide)).trans (by decide)
  subst hr
  decide

/-- CoprocessorStops: each clause. -/
theorem witness_CoprocessorStops :
    (start 0x40000000).cp0.status.cu.getLsbD 2 = true ∧ Cp0Usable (start 0) ∧ Allows64 (start 0) ∧
    ({ start 0 with hazards := { Hazards.reset with afterMem := true } } : State).hazards.afterMem = true ∧
    (0x10 : Word).getLsbD 4 ≠ (start 0).cp0.status.um ∧
    Cp0Usable { start 0 with pc := 0x1000 } ∧ (low32 (0x1000 : DWord)).msb = false ∧
    (ActiveRegion (start 0) 4 ∧ calgField 0x22222222 4 ≠ calgField (start 0).cp0.calg 4) ∧
    (ActiveRegion { start 0 with bus := { Bus.reset with writes := [bufferedStore 7 [0]] } } 7 ∧
      calgField (0x02233333 &&& 0x77777777) 7 ≠ calgField (start 0).cp0.calg 7) ∧
    (opOf 0x42000010 = 16#6 ∧ rsOf 0x42000010 = 16#5 ∧ fnOf 0x42000010 = 16#6) := by
  refine ⟨by decide, by unfold Cp0Usable; decide, by unfold Allows64; decide, rfl, by decide, by unfold Cp0Usable; decide,
    by decide, ⟨.inl (by decide), by decide⟩,
    ⟨.inr (.inr (.inl ⟨bufferedStore 7 [0], by simp, rfl⟩)), by decide⟩, by decide⟩

/-- CoprocessorUnusable: a word of each major opcode. -/
theorem witness_CoprocessorUnusable :
    ¬Cp0Usable (start 0x10) ∧ (start 0).cp0.status.cu.getLsbD 2 = false ∧
    ¬Cp1Usable (start 0) ∧ ¬Cp1Usable (start 0x10) ∧ ((start 0).cp0.status.cu.getLsbD 2 = false) ∧
    opOf 0x43FFFFFF = 16#6 ∧ opOf 0xBC000000 = 47#6 ∧ opOf 0x47FFFFFF = 17#6 ∧ opOf 0xC4000000 = 49#6 ∧
    opOf 0xD4000000 = 53#6 ∧ opOf 0xE4000000 = 57#6 ∧ opOf 0xF4000000 = 61#6 ∧ opOf 0x4BFFFFFF = 18#6 ∧
    opOf 0xC8000000 = 50#6 ∧ opOf 0xD8000000 = 54#6 ∧ opOf 0xE8000000 = 58#6 ∧ opOf 0xF8000000 = 62#6 := by
  unfold Cp0Usable Cp1Usable; decide

/-- SixtyFourBitReserved. -/
theorem witness_SixtyFourBitReserved :
    (let s := start 0x30000010
    s.userMode = true ∧ s.cp0.status.ux = false ∧ Cp0Usable s ∧ Cp1Usable s) := by
  unfold Cp0Usable Cp1Usable; decide

/-- LoadsUncached and PartsUncached: the first and the last byte of a doubleword. -/
theorem witness_LoadsUncached :
    (let s := data true
    UncachedRam s (s.ea 1 0) 0x2000 false ∧ UncachedRam s (s.ea 1 7) 0x2007 false ∧ (s.ea 1 0).toNat % 8 = 0 ∧ Allows64 s ∧
    Cp1Usable { s with cp0 := (start 0x20000000).cp0 }) := by
  unfold UncachedRam MapsTo QuietData Allows64 Cp1Usable; decide

/-- StoresUncached and PartsUncached. -/
theorem witness_StoresUncached :
    (let s := data false
    UncachedRam s (s.ea 1 0) 0x2000 true ∧ UncachedRam s (s.ea 1 3) 0x2003 true ∧ (s.ea 1 0).toNat % 8 = 0 ∧ Allows64 s) := by
  unfold UncachedRam MapsTo QuietData Allows64; decide

/-- PartsUncached: the doubleword forms at offset 7. -/
theorem witness_PartsUncached :
    ∃ (s : State) (pa unit : Word) (size v r o : Nat), UncachedRam s (s.ea 1 7) pa false ∧
      UncachedRam s (s.ea 1 7) pa true ∧ (size = 4 ∨ size = 8 ∧ Allows64 s) ∧
      unit = pa - BitVec.ofNat 32 (pa.toNat % size) ∧ v = datum s.mem.get s unit size ∧
      r = (s.reg 2).toNat % 2 ^ (8 * size) ∧
      o = (if s.bigEndianCpu then pa.toNat % size else size - 1 - pa.toNat % size) := 
  ⟨data true, 0x2007, _, 8, _, _, _, by unfold UncachedRam MapsTo QuietData; decide,
    by unfold UncachedRam MapsTo QuietData; decide, .inr ⟨rfl, by unfold Allows64; decide⟩, rfl, rfl, rfl, rfl⟩

/-- CachedParts: the word forms at offset 1. -/
theorem witness_CachedParts :
    ∃ (s : State) (pa unit : Word) (size v m r o : Nat), CachedRam s (s.ea 4 1) pa 3 false ∧
      CachedRam s (s.ea 4 1) pa 3 true ∧ (size = 4 ∨ size = 8 ∧ Allows64 s) ∧
      unit = pa - BitVec.ofNat 32 (pa.toNat % size) ∧ v = datum (s.cachedByte pa) s unit size ∧
      m = datum s.mem.get s unit size ∧ r = (s.reg 2).toNat % 2 ^ (8 * size) ∧
      o = (if s.bigEndianCpu then pa.toNat % size else size - 1 - pa.toNat % size) := 
  ⟨cached 0, 0x21, _, 4, _, _, _, _, by unfold CachedRam MapsTo QuietData; decide,
    by unfold CachedRam MapsTo QuietData; decide, .inl rfl, rfl, rfl, rfl, rfl, rfl⟩

/-- LinkedAccesses, CachedLoads and CachedStores: a hit and a miss under algorithm 3. -/
theorem witness_LinkedAccesses :
    (let s := cached 0
    CachedRam s (s.ea 4 0) 0x20 3 false ∧ (s.ea 4 0).toNat % 8 = 0 ∧ Allows64 s ∧ s.dcache.lookup 0x20 = .hit .a) ∧
    (let s := (cached 0).setReg 4 0xFFFFFFFF80001020
    CachedRam s (s.ea 4 0) 0x1020 3 false ∧ s.dcache.lookup 0x1020 = .miss) := by
  unfold CachedRam MapsTo QuietData Allows64; decide

/-- CachedLoads, CachedStores and CachedParts: a hit and a miss under cache algorithm 0. -/
theorem witness_CachedStores_0 :
    (let s : State := { cached 0 with cp0 := { (cached 0).cp0 with calg := 0x22203333 } }
    CachedRam s (s.ea 4 0) 0x20 0 true ∧ CachedRam s (s.ea 4 0) 0x20 0 false ∧ s.dcache.lookup 0x20 = .hit .a) ∧
    (let s : State := { (cached 0).setReg 4 0xFFFFFFFF80001020 with cp0 := { (cached 0).cp0 with calg := 0x22203333 } }
    CachedRam s (s.ea 4 0) 0x1020 0 true ∧ CachedRam s (s.ea 4 0) 0x1020 0 false ∧ s.dcache.lookup 0x1020 = .miss) := by
  unfold CachedRam MapsTo QuietData; decide

/-- CachedLoads and CachedStores: a miss with a dirty victim under cache algorithm 0. -/
theorem witness_CachedStores_victim_0 :
    (let l : DLine := { DLine.reset with cs := 3, w := true, wPar := true }
    let s : State := { (cached 0).setReg 4 0xFFFFFFFF80001020 with
      dcache := (State.reset.dcache.setLine .a 1 l).setLine .b 1 { l with tag := 2 }
      cp0 := { (cached 0).cp0 with calg := 0x22203333 } }
    CachedRam s (s.ea 4 0) 0x1020 0 true ∧ CachedRam s (s.ea 4 0) 0x1020 0 false ∧ s.dcache.lookup 0x1020 = .miss ∧
    s.hazards.dlWindow = 0 ∧ (s.dcache.line (s.dVictim 1) 1).dirty = true) := by
  unfold CachedRam MapsTo QuietData; decide

/-- CachedLoads, CachedStores and CachedParts: a hit and a miss under cache algorithm 1. -/
theorem witness_CachedStores_1 :
    (let s : State := { cached 0 with cp0 := { (cached 0).cp0 with calg := 0x22213333 } }
    CachedRam s (s.ea 4 0) 0x20 1 true ∧ CachedRam s (s.ea 4 0) 0x20 1 false ∧ s.dcache.lookup 0x20 = .hit .a) ∧
    (let s : State := { (cached 0).setReg 4 0xFFFFFFFF80001020 with cp0 := { (cached 0).cp0 with calg := 0x22213333 } }
    CachedRam s (s.ea 4 0) 0x1020 1 true ∧ CachedRam s (s.ea 4 0) 0x1020 1 false ∧ s.dcache.lookup 0x1020 = .miss) := by
  unfold CachedRam MapsTo QuietData; decide

/-- CachedLoads and CachedStores: a miss with a dirty victim under cache algorithm 1. -/
theorem witness_CachedStores_victim_1 :
    (let l : DLine := { DLine.reset with cs := 3, w := true, wPar := true }
    let s : State := { (cached 0).setReg 4 0xFFFFFFFF80001020 with
      dcache := (State.reset.dcache.setLine .a 1 l).setLine .b 1 { l with tag := 2 }
      cp0 := { (cached 0).cp0 with calg := 0x22213333 } }
    CachedRam s (s.ea 4 0) 0x1020 1 true ∧ CachedRam s (s.ea 4 0) 0x1020 1 false ∧ s.dcache.lookup 0x1020 = .miss ∧
    s.hazards.dlWindow = 0 ∧ (s.dcache.line (s.dVictim 1) 1).dirty = true) := by
  unfold CachedRam MapsTo QuietData; decide

/-- CachedLoads, CachedStores and CachedParts: a hit and a miss under cache algorithm 3. -/
theorem witness_CachedStores_3 :
    (let s : State := { cached 0 with cp0 := { (cached 0).cp0 with calg := 0x22233333 } }
    CachedRam s (s.ea 4 0) 0x20 3 true ∧ CachedRam s (s.ea 4 0) 0x20 3 false ∧ s.dcache.lookup 0x20 = .hit .a) ∧
    (let s : State := { (cached 0).setReg 4 0xFFFFFFFF80001020 with cp0 := { (cached 0).cp0 with calg := 0x22233333 } }
    CachedRam s (s.ea 4 0) 0x1020 3 true ∧ CachedRam s (s.ea 4 0) 0x1020 3 false ∧ s.dcache.lookup 0x1020 = .miss) := by
  unfold CachedRam MapsTo QuietData; decide

/-- CachedLoads and CachedStores: a miss with a dirty victim under cache algorithm 3. -/
theorem witness_CachedStores_victim_3 :
    (let l : DLine := { DLine.reset with cs := 3, w := true, wPar := true }
    let s : State := { (cached 0).setReg 4 0xFFFFFFFF80001020 with
      dcache := (State.reset.dcache.setLine .a 1 l).setLine .b 1 { l with tag := 2 }
      cp0 := { (cached 0).cp0 with calg := 0x22233333 } }
    CachedRam s (s.ea 4 0) 0x1020 3 true ∧ CachedRam s (s.ea 4 0) 0x1020 3 false ∧ s.dcache.lookup 0x1020 = .miss ∧
    s.hazards.dlWindow = 0 ∧ (s.dcache.line (s.dVictim 1) 1).dirty = true) := by
  unfold CachedRam MapsTo QuietData; decide

/-- LinkedAccesses: each clause of SC and SCD, uncached and cached. -/
theorem witness_LinkedAccesses_conditional :
    (let s : State := { data true with llBit := true, llSeen := true, llAddr := 0x2000 }
    UncachedRam s (s.ea 1 0) 0x2000 true ∧ (s.ea 1 0).toNat % 8 = 0 ∧ Allows64 s ∧ (s.llSeen = true → s.llAddr = 0x2000) ∧
    s.llBit = true ∧ s.llAddr ≠ 0x2008 ∧ UncachedRam s (s.ea 1 8) 0x2008 true) ∧
    (let s := cached 0
    CachedRam s (s.ea 4 0) 0x20 3 true ∧ s.llSeen = false ∧ s.llBit = false) := by
  unfold UncachedRam CachedRam MapsTo QuietData Allows64; decide

/-- AddressExceptions: each branch, the bound at its edge; CACHE in User mode with CU0 = 1. -/
theorem witness_AddressExceptions :
    (let s : State := { (start 0x20000030).setReg 1 0x1FFE with cp0 := { (start 0x20000030).cp0 with dbound := 1 } }
    NoMemHazard s ∧ Allows64 s ∧ Cp1Usable s ∧ s.userMode = true ∧ (s.ea 1 0x8002).getLsbD 31 = true ∧
    s.cp0.dbound.toNat < ((s.ea 1 2).extractLsb' 12 19).toNat ∧
    ¬s.cp0.dbound.toNat < ((s.ea 1 0).extractLsb' 12 19).toNat ∧ (s.ea 1 0).toNat % 4 ≠ 0 ∧
    (s.ea 1 0xFFFA).toNat % 8 = 0 ∧ Cp0Usable { s with cp0 := { s.cp0 with status := Status.ofWord 0x10000010 } } ∧
    ({ s with cp0 := { s.cp0 with status := Status.ofWord 0x10000010 } } : State).userMode = true) := by
  unfold NoMemHazard Allows64 Cp1Usable Cp0Usable; decide

/-- MemoryStops: writes that hang, of a store under each algorithm, of a victim and of CACHE. -/
theorem witness_MemoryStops_writes :
    (let s : State := { data true with
      cp0 := (start 0x20000000).cp0, platform := [{ base := 0x2000, size := 8, kind := .silent }] }
    NoMemHazard s ∧ Allows64 s ∧ Cp1Usable s ∧ MapsTo s (s.ea 1 0) 0x2000 2 ∧ (s.ea 1 0).toNat % 8 = 0 ∧
    s.dwatchMatches (s.ea 1 0) true = false ∧ ∀ x ∈ doubleOf 0x2000, kindAt s.platform x = some .silent) ∧
    (∀ alg ∈ [0#3, 1#3],
      let s : State := { cached 0 with
        cp0 := { (cached 0).cp0 with calg := 0x22203333 + alg.zeroExtend 32 * 0x10000 }
        platform := [{ base := 0x20, size := 8, kind := .silent }] }
      NoMemHazard s ∧ MapsTo s (s.ea 4 0) 0x20 alg ∧ (s.ea 4 0).toNat % 8 = 0 ∧ s.dcache.lookup 0x20 = .hit .a ∧
      s.dwatchMatches (s.ea 4 0) true = false ∧ ∀ x ∈ doubleOf 0x20, kindAt s.platform x = some .silent) ∧
    (let l : DLine := { DLine.reset with cs := 3, w := true, wPar := true }
    let s : State := { (start 0x10000).setReg 4 0xFFFFFFFF80001020 with
      dcache := (State.reset.dcache.setLine .a 1 l).setLine .b 1 { l with tag := 2 }
      platform := [{ base := 0x20, size := 32, kind := .silent }] }
    NoMemHazard s ∧ Cp0Usable s ∧ MapsTo s (s.ea 4 0) 0x1020 3 ∧ s.dcache.lookup 0x1020 = .miss ∧
    s.dVictim 1 = .a ∧ wayOf (s.ea 4 0) = .a ∧ l.dirty = true ∧ (s.ea 4 0).toNat % 8 = 0 ∧
    s.dwatchMatches (s.ea 4 0) false = false ∧ s.dwatchMatches (s.ea 4 0) true = false ∧
    (∀ x ∈ lineBytes (lineBase l.tag 1), kindAt s.platform x = some .silent) ∧
    ∀ x ∈ lineBytes (lineBaseOf 0x1020), kindAt s.platform x ≠ some .silent) := by
  unfold NoMemHazard Allows64 Cp1Usable Cp0Usable MapsTo; decide +kernel

/-- LinkedAccesses: a miss whose victim is the linked line, and a hit of the linked line; CacheTags to CacheMoves too. -/
theorem witness_LinkedAccesses_broken :
    (let l : DLine := { DLine.reset with cs := 3 }
    let s : State := { (start 0x10000).setReg 4 0xFFFFFFFF80001020 with
      dcache := (State.reset.dcache.setLine .a 1 l).setLine .b 1 { l with tag := 2 }
      llBit := true, llSeen := true, llAddr := 0x24 }
    CachedRam s (s.ea 4 0) 0x1020 3 false ∧ s.dcache.lookup 0x1020 = .miss ∧ s.dVictim 1 = .a ∧
    LinkedLine s 1 (s.dcache.line (s.dVictim 1) 1)) ∧
    (let s : State := { cached 0 with llBit := true, llSeen := true, llAddr := 0x24 }
    Cp0Usable s ∧ NoMemHazard s ∧ MapsTo s (s.ea 4 0) 0x20 3 ∧ s.dcache.lookup 0x20 = .hit .a ∧
    LinkedLine s 1 (s.dcache.line .a 1)) := by
  unfold CachedRam QuietData LinkedLine Cp0Usable NoMemHazard MapsTo; decide +kernel

/-- MemoryStops: each clause. -/
theorem witness_MemoryStops :
    (let s := start 0x20000000
    Allows64 s ∧ Cp1Usable s ∧ Cp0Usable s ∧ NoMemHazard s ∧
    ({ s with hazards := { Hazards.reset with afterTransWrite := true } } : State).hazards.afterTransWrite = true ∧
    0 < ({ s with hazards := { Hazards.reset with mappedWindow := 1 } } : State).hazards.mappedWindow ∧
    (s.ea 0 0).getLsbD 31 = false ∧
    MapsTo { s with cp0 := { s.cp0 with calg := 0x22233334 } } (s.ea 0 0) 0 4 ∧
    (let c : DLine := { DLine.reset with cs := 3 }
    ({ s with dcache := (s.dcache.setLine .a 0 c).setLine .b 0 c } : State).dcache.lookup 0 = .both) ∧
    MapsTo s (s.ea 0 0) 0 3) ∧
    (let s : State := { data true with platform := [{ base := 0x2000, size := 8, kind := .silent }] }
    NoMemHazard s ∧ MapsTo s (s.ea 1 0) 0x2000 2 ∧ s.dwatchMatches (s.ea 1 0) false = false ∧
    ∀ x ∈ doubleOf 0x2000, kindAt s.platform x = some .silent) ∧
    (let s := data true
    UncachedRam s (s.ea 1 0) 0x2000 false ∧ (s.ea 1 0).toNat % 8 = 0 ∧ Allows64 s) := by
  unfold NoMemHazard Allows64 Cp1Usable Cp0Usable UncachedRam MapsTo QuietData; decide

/-- MemoryStops: a store conditional that would store, under a reserved algorithm and with its line in both ways. -/
theorem witness_MemoryStops_conditional :
    (let l : State := { start 0x20000000 with llBit := true, llSeen := true }
    let c : DLine := { DLine.reset with cs := 3 }
    ∀ p ∈ [({ l with cp0 := { l.cp0 with calg := 0x22233334 } }, 4#3),
        ({ l with dcache := (l.dcache.setLine .a 0 c).setLine .b 0 c }, 3#3)],
      NoMemHazard p.1 ∧ MapsTo p.1 (p.1.ea 0 0) 0 p.2 ∧ Allows64 p.1 ∧ (p.1.ea 0 0).toNat % 8 = 0 ∧ p.1.llBit = true ∧
      p.1.llAddr = 0 ∧ (p.2 = 3 → p.1.dcache.lookup 0 = .both)) := by
  unfold NoMemHazard Allows64 MapsTo; decide +kernel

/-- MemoryErrors: each clause. -/
theorem witness_MemoryErrors :
    (∀ k ∈ [RegionKind.nothing, .badParity],
      let s : State := { start 0 with
        pc := 0xFFFFFFFFA0001000, platform := [{ base := 0x1000, size := 8, kind := k }] }
      NothingDue s ∧ s.hazards.mappedWindow = 0 ∧ s.translateFetch = .ok 0x1000 2 ∧ s.pc.toNat % 4 = 0 ∧
      s.iwatchMatches = false ∧ s.cp0.status.de = false ∧ ∀ x ∈ doubleOf 0x1000, kindAt s.platform x = some k) ∧
    (∀ k ∈ [RegionKind.nothing, .badParity, .device],
      let s : State := { data true with
        cp0 := (start 0x20000000).cp0, platform := [{ base := 0x2000, size := 8, kind := k }] }
      NoMemHazard s ∧ Allows64 s ∧ Cp1Usable s ∧ (s.ea 1 0).toNat % 8 = 0 ∧ MapsTo s (s.ea 1 0) 0x2000 2 ∧
      (∀ x ∈ doubleOf 0x2000, kindAt s.platform x = some k) ∧ s.dwatchMatches (s.ea 1 0) false = false ∧
      s.dwatchMatches (s.ea 1 0) true = false ∧ s.cp0.status.de = false) ∧
    (let s : State := { data true with
      cp0 := (start 0x10000).cp0, platform := [{ base := 0x2000, size := 8, kind := .device }] }
    NoMemHazard s ∧ MapsTo s (s.ea 1 0) 0x2000 2 ∧ s.cp0.status.de = true ∧ s.dwatchMatches (s.ea 1 0) false = false ∧
    ∀ x ∈ doubleOf 0x2000, kindAt s.platform x = some .device) ∧
    (∀ l ∈ [{ DLine.reset with cs := 3, tagPar := true },
        { DLine.reset with cs := 3, par := DLine.reset.par.set 2 true }],
      let s : State := { (start 0).setReg 4 0xFFFFFFFF80000020 with dcache := State.reset.dcache.setLine .a 1 l }
      NoMemHazard s ∧ (s.ea 4 0).toNat % 8 = 0 ∧ MapsTo s (s.ea 4 0) 0x20 3 ∧ s.dcache.lookup 0x20 = .hit .a ∧
      s.cp0.status.de = false ∧ s.dcache.line .a (lineIndex 0x20) = l) ∧
    (true ≠ parity (0#20 ++ 3#2) ∧ 2 ∈ (byteAddrs (start 0) 0x20 4).map (· % 32) ∧
      (DLine.reset.par.set 2 true)[2] ≠ parity DLine.reset.data[2]) := by
  unfold NoMemHazard Allows64 Cp1Usable NothingDue MapsTo; decide +kernel

/-- MemoryErrors: a miss and a Fill where nothing is or where parity is bad, with DE = 0. -/
theorem witness_MemoryErrors_refill :
    (∀ k ∈ [RegionKind.nothing, .badParity],
      let s : State := { (start 0x20000000).setReg 4 0xFFFFFFFF80001020 with
        platform := [{ base := 0x1020, size := 32, kind := k }] }
      NoMemHazard s ∧ Allows64 s ∧ Cp1Usable s ∧ Cp0Usable s ∧ (s.ea 4 0).toNat % 8 = 0 ∧ MapsTo s (s.ea 4 0) 0x1020 3 ∧
      s.dcache.lookup 0x1020 = .miss ∧ (s.dcache.line (s.dVictim 1) 1).dirty = false ∧ lineIndex 0x1020 = 1 ∧
      s.dwatchMatches (s.ea 4 0) false = false ∧ s.dwatchMatches (s.ea 4 0) true = false ∧ s.hazards.dlWindow = 0 ∧
      (∀ y ∈ lineBytes (lineBase (s.dcache.line (s.dVictim 1) 1).tag 1), kindAt s.platform y ≠ some .silent) ∧
      ∀ y ∈ lineBytes (lineBaseOf 0x1020), kindAt s.platform y = some k) := by
  unfold NoMemHazard Allows64 Cp1Usable Cp0Usable MapsTo; decide +kernel

/-- MemoryErrors: a miss where nothing is, with a dirty victim and DE = 1. -/
theorem witness_MemoryErrors_refill_dirty :
    (let l : DLine := { DLine.reset with cs := 3, w := true, wPar := true }
    let s : State := { (start 0x10000).setReg 4 0xFFFFFFFF80001020 with
      dcache := (State.reset.dcache.setLine .a 1 l).setLine .b 1 { l with tag := 2 }
      platform := [{ base := 0x1020, size := 32, kind := .nothing }] }
    NoMemHazard s ∧ MapsTo s (s.ea 4 0) 0x1020 3 ∧ s.dcache.lookup 0x1020 = .miss ∧ s.cp0.status.de = true ∧
    (s.dcache.line (s.dVictim 1) 1).dirty = true ∧ s.dwatchMatches (s.ea 4 0) false = false ∧
    (∀ y ∈ lineBytes (lineBase 0 1), kindAt s.platform y ≠ some .silent) ∧
    ∀ y ∈ lineBytes (lineBaseOf 0x1020), kindAt s.platform y = some .nothing) := by
  unfold NoMemHazard MapsTo; decide +kernel

/-- CacheTags and CacheMoves: hits and misses of both caches. -/
theorem witness_CacheTags :
    (let s := cached 0
    Cp0Usable s ∧ NoMemHazard s ∧ MapsTo s (s.ea 4 0) 0x20 3 ∧ s.dcache.lookup 0x20 = .hit .a ∧
    s.icache.lookup 0x20 = .miss ∧ s.platform = [] ∧ s.cp0.status.de = true ∧ s.dcache.lookup 0x1020 = .miss) ∧
    (let s : State := { cached 0 with icache := State.reset.icache.setLine .b 1 { ILine.reset with valid := true } }
    s.icache.lookup 0x20 = .hit .b) := by
  unfold Cp0Usable NoMemHazard MapsTo; decide

/-- CacheMoves: an uncached address, an operation outside the table, a miss. -/
theorem witness_CacheMoves :
    (let s := data true
    Cp0Usable s ∧ NoMemHazard s ∧ MapsTo s (s.ea 1 0) 0x2000 2) ∧
    (0x0C#5 ∉ [0x00#5, 0x01#5, 0x04#5, 0x05#5, 0x08#5, 0x09#5, 0x0D#5, 0x10#5, 0x11#5, 0x14#5, 0x15#5, 0x18#5, 0x19#5]) ∧
    (let s := (cached 0).setReg 4 0xFFFFFFFF80001020
    MapsTo s (s.ea 4 0) 0x1020 3 ∧ s.dcache.lookup 0x1020 = .miss) := by
  unfold Cp0Usable NoMemHazard MapsTo; decide

/-- FpArithmetic, FpSign, FpConversions, FpCompare and FpTransfers: both settings of FR, every class. -/
theorem witness_FpArithmetic :
    Cp1Usable (start 0x20000000) ∧ FpRegsLegal (start 0x20000000) [6, 4, 2] ∧ FpRegsLegal (start 0x24000000) [7, 5, 3] ∧
    fpClass 0x00000001 = .denorm ∧ fpClass 0x7F800001 = .qnan ∧ fpClass 0x7FC00000 = .snan ∧
    fpClass 0x7F800000 = .inf ∧ fpClass 0x80000000 = .zero ∧ fpClass 0x00800000 = .normal := by
  unfold Cp1Usable FpRegsLegal; decide

/-- FpRounding: 1 + 3, 1 * 3, 1 / 3 and the root of 3 under RP. -/
theorem witness_FpRounding :
    (let f : Fcr31 := { fs := false, c := false, cause := 0, enables := 0, flags := 0, rm := 2 }
    fpClass 0x3F800000 = .normal ∧ fpClass 0x40400000 = .normal ∧ fpClass 0x80000000 = .zero ∧
    fpAdd f 0x3F800000 0x40400000 = .value 0 0x40800000 ∧ fpMul f 0x3F800000 0x40400000 = .value 0 0x40400000 ∧
    fpDiv f 0x3F800000 0x40400000 = .value causeI 0x3EAAAAAB ∧ fpSqrt f 0x40400000 = .value causeI 0x3FDDB3D8) := by
  decide +kernel

/-- FpRounding: 1 + 3, and the largest and the smallest normal number times and by 1. -/
theorem witness_FpRounding_range :
    (¬Overflows .rn (fpScaled 0x3F800000 + fpScaled 0x40400000) 1 ∧
      ¬Tiny .rn (fpScaled 0x3F800000 + fpScaled 0x40400000) 1) ∧
    (∀ m ∈ [RoundMode.rn, .rz, .rp, .rm], ¬Overflows m (fpScaled 0x7F7FFFFF * fpScaled 0x3F800000) (2 ^ 149) ∧
      ¬Tiny m (fpScaled 0x80800000 * fpScaled 0x3F800000) (2 ^ 149)) ∧
    ¬Tiny .rp (fpScaled 0x80800000 * 2 ^ 149 * (fpScaled 0x3F800000).sign) (fpScaled 0x3F800000).natAbs ∧
    (0x40400000 : Word).msb = false := by
  unfold Overflows Tiny RoundsAway; decide +kernel

/-- FpSpecial: infinities, zeros, overflows and tiny results of each operation in each mode, and the edges of both ranges. -/
theorem witness_FpSpecial :
    (let f : Fcr31 := { fs := true, c := false, cause := 0, enables := 0, flags := 0, rm := 0 }
    RoundMode.rn = RoundMode.ofBits f.rm ∧ fpClass 0x7F800000 = .inf ∧ fpClass 0xFF800000 = .inf ∧
    fpClass 0x00000000 = .zero ∧ fpScaled 0x3F800000 + fpScaled 0xBF800000 = 0 ∧
    fpScaled 0x00800001 + fpScaled 0x80800000 ≠ 0 ∧
    ∀ m ∈ [RoundMode.rn, .rz, .rp, .rm],
      Overflows m (fpScaled 0x7F7FFFFF + fpScaled 0x7F7FFFFF) 1 ∧
      Tiny m (fpScaled 0x00800001 + fpScaled 0x80800000) 1 ∧
      Tiny m (fpScaled 0x00800000 * fpScaled 0x3F000000) (2 ^ 149) ∧
      Overflows m (fpScaled 0x7F7FFFFF * 2 ^ 149 * (fpScaled 0x00800000).sign) (fpScaled 0x00800000).natAbs ∧
      Tiny m (fpScaled 0x00800000 * 2 ^ 149 * (fpScaled 0x40000000).sign) (fpScaled 0x40000000).natAbs) ∧
    (Overflows .rp (fpScaled 0x7F7FFFFF + fpScaled 0x00800000) 1 ∧ ¬Overflows .rz (fpScaled 0x7F7FFFFF + fpScaled 0x00800000) 1 ∧
      Overflows .rn ((2 ^ 25 - 1) * 2 ^ 252) 1 ∧ ¬Overflows .rn ((2 ^ 25 - 1) * 2 ^ 252 - 1) 1) ∧
    (Tiny .rm (fpScaled 0xBF7FFFFF * fpScaled 0x00800000) (2 ^ 149) ∧
      ¬Tiny .rn ((2 ^ 25 - 1) * 2 ^ 147) (2 ^ 149) ∧ Tiny .rn ((2 ^ 25 - 1) * 2 ^ 147 - 1) (2 ^ 149)) := by
  unfold Overflows Tiny RoundsAway; decide +kernel

/-- FpConversions: 2.5, -2.5, and both ends of the range. -/
theorem witness_FpConversions :
    RoundsToInteger .rn (fpScaled 0x40200000) (2 ^ 149) 2 ∧ RoundsToInteger .rz (fpScaled 0xC0200000) (2 ^ 149) (-2) ∧
    RoundsToInteger .rp (fpScaled 0x4F000000) (2 ^ 149) (2 ^ 31) ∧
    RoundsToInteger .rm (fpScaled 0xCF000000) (2 ^ 149) (-2 ^ 31) ∧ (fpu 3 0 0).fpu.fcr31.enables.getLsbD 0 = false ∧
    fpClass 0x4EFFFFFF = .normal ∧ |fpScaled 0x4EFFFFFF| ≤ (2 ^ 31 - 1) * 2 ^ 149 ∧ fpClass 0 = .zero ∧
    |fpScaled 0xCEFFFFFF| ≤ (2 ^ 31 - 1) * 2 ^ 149 := by
  unfold RoundsToInteger; decide +kernel

/-- FpCompare: an unordered pair, V enabled and not. -/
theorem witness_FpCompare :
    (∃ nan less equal : Prop, (nan ↔ fpClass 0x7FC00000 ∈ [.snan, .qnan] ∨ fpClass 0x3F800000 ∈ [.snan, .qnan]) ∧
      (less ↔ ¬nan ∧ fpScaled 0x7FC00000 < fpScaled 0x3F800000) ∧
      (equal ↔ ¬nan ∧ fpScaled 0x7FC00000 = fpScaled 0x3F800000)) ∧
    (fpu 0x00000800 0 0).fpu.fcr31.enables.getLsbD 4 = true ∧ (fpu 0 0 0).fpu.fcr31.enables.getLsbD 4 = false := 
  ⟨⟨_, _, _, Iff.rfl, Iff.rfl, Iff.rfl⟩, by decide, by decide⟩

/-- FpTransfers: CTC1 that traps and one that does not. -/
theorem witness_FpTransfers :
    (let v : Word := 0x00010800
    v.getLsbD 17 = false ∧ (v.extractLsb' 12 6).extractLsb' 0 5 &&& v.extractLsb' 7 5 ≠ 0#5) ∧
    (let v : Word := 0x00010000
    v.getLsbD 17 = false ∧ (v.extractLsb' 12 6).extractLsb' 0 5 &&& v.extractLsb' 7 5 = 0#5) ∧ (0 : Reg) ≠ 31 := by decide

/-- FpUnimplemented. -/
theorem witness_FpUnimplemented :
    Cp1Usable (start 0x20000000) ∧ Allows64 (start 0x20000000) ∧ ¬FpRegsLegal (start 0x20000000) [6, 4, 3] ∧
    ¬FpRegsLegal (start 0x20000000) [5, 2] ∧ (opOf 0x44600000 = 17#6 ∧ rsOf 0x44600000 = 3#5) ∧
    (rsOf 0x45040000 = 8#5 ∧ (rtOf 0x45040000).toNat = 4) := by
  unfold Cp1Usable Allows64 FpRegsLegal; decide

end Sys2Proof.Tests
end

