-- ==== Sys2Proof/Proofs/Step.lean ====
section
/-!
PROOF. Sys2Proof/Proofs/Step.lean: the step at a boundary where nothing but the next instruction is due (00_scope R14;
60_exceptions R679).
-/

namespace Sys2Proof.Machine

/-! ## The first half of the cycle -/

theorem State.awake_eq_self {s : State} (h : s.standby = false) : s.awake = s := by
  cases s
  simp_all [State.awake]

/-- Where no event comes first, the boundary fetches (R679, R695, R701). -/
theorem State.boundary_eq_fetch {s : State} {hold : Bool} (hnmi : s.events.nmiPending = false)
    (hwatch : s.watchDue = false) (hint : s.interruptRequest = false) : s.boundary hold = s.fetch := by
  simp [State.boundary, hnmi, hwatch, hint]

/-- Outside standby the first half of a cycle is the boundary (46_trap_special R506). -/
theorem State.begun_eq_boundary {s : State} {hold : Bool} (h : s.standby = false) : s.begun hold = s.boundary hold := by
  simp [State.begun, h, State.awake_eq_self h]

/-! ## The execution of the word and the end of the cycle -/

theorem State.execWord_of_decode_ok {s : State} {w : Word} {i : Instr} (h : decode w = .ok i) :
    s.execWord w = exec i s := by
  simp [State.execWord, h]

/-- With no tick input, the answer of a step is the end of the cycle behind an instruction's answer. -/
theorem stepAnswers_iff_ticked {s : State} {r : Result} : StepAnswers s r ↔ step s = ticked none r := by
  cases r <;> rfl

/-- Where nothing else is due, a step is the fetch at the PC, the execution of the word and the end of the cycle; a fetch
that traps or stops is followed by the end of the cycle alone. -/
theorem step_of_nothingDue {s : State} (h : NothingDue s) :
    step s = ticked none (s.fetch.finish fun w t => t.execWord w) := by
  obtain ⟨hinputs, hstandby, hnmi, hwatch, hint⟩ := h
  calc step s = ticked none ((s.begun false).finish fun w t => t.execWord w) := State.run_quiet hinputs
    _ = ticked none (s.fetch.finish fun w t => t.execWord w) := by
      rw [State.begun_eq_boundary hstandby, State.boundary_eq_fetch hnmi hwatch hint]

end Sys2Proof.Machine

open Sys2Proof Sys2Proof.Machine

/-- Settles O5: with nothing else due the step is fetch, execution and end of the cycle, and the fetch gives the word of
`i`. -/
theorem stepRunsDecoded : Obligations.StepRunsDecoded := by
  intro s s1 w i hdue hfetch hdecode
  rw [stepAnswers_iff_ticked, step_of_nothingDue hdue, hfetch, Access.finish_of_ok, State.execWord_of_decode_ok hdecode]

end

section
/-!
PROOF. Sys2Proof/Proofs/WordOperations.lean: the ends of an instruction that writes one general register, HI and LO, or takes
an exception; word operations on any operands, and the invariant right after reset (10_state R31, R61;
93_implementation_defined U1).
-/

namespace Sys2Proof.Machine

/-! ## The invariant right after reset -/

/-- Right after reset memory is empty, r0 and CacheErr are zero, CAlg = 0x22233333 has no unimplemented bit, and no branch
target waits (10_state R61). -/
theorem State.reset_inv : State.reset.Inv := by
  refine ⟨?mem, ?r0, ?calg, ?cacheErr, ?slot⟩
  case mem => rfl
  case r0 => rfl
  case calg => decide
  case cacheErr => decide
  case slot => exact fun h => absurd h (by decide)

/-! ## One general register written -/

theorem State.setReg_writesGpr (s : State) (rd : Reg) (v : DWord) : WritesGpr rd v s (s.setReg rd v) :=
  ⟨s.reg_setReg_self rd v, fun _ h => s.reg_setReg_ne v h⟩

theorem State.setReg_sameSystem (s : State) (rd : Reg) (v : DWord) : SameSystem s (s.setReg rd v) := by
  simp [SameSystem, SameLink, SameCaches, SameBytes, SameOutside]

theorem State.setReg_frameGpr (s : State) (rd : Reg) (v : DWord) : FrameGpr s (s.setReg rd v) :=
  ⟨⟨s.setReg_hi rd v, s.setReg_lo rd v⟩, s.setReg_fpu rd v, s.setReg_sameSystem rd v⟩

/-- The end of the instruction behind a register write is the one it would be without the write. -/
theorem State.setReg_advanced (s : State) (rd : Reg) (v : DWord) : Advanced s (s.setReg rd v).advance := by
  simpa [Advanced] using (s.setReg rd v).advance_advanced

theorem gprResult_of_result {i : Instr} {s : State} {rd : Reg} {v : DWord} (h : exec i s = s.result rd v) :
    GprResult i rd v s :=
  ⟨(s.setReg rd v).advance, h, s.setReg_writesGpr rd v, s.setReg_frameGpr rd v, s.setReg_advanced rd v⟩

/-- Which free value comes next is seen by no statement about registers, frames or the program counter. -/
theorem gprResult_of_resultFree {i : Instr} {s : State} {n : Nat} {rd : Reg}
    (h : exec i s = ({ s with fresh := n } : State).resultFree rd) : GprResult i rd (Config.freeBits 64 n) s := by
  let u : State := { s with fresh := n }
  exact ⟨(u.setReg rd (u.free 64)).drawn.advance, h, u.setReg_writesGpr rd _, u.setReg_frameGpr rd _,
    u.setReg_advanced rd _⟩

/-- A word result is the value given, or with an operand that is not sign-extended the free value (U1). -/
theorem exists_gprResult_of_result32 {i : Instr} {s : State} {valid : Bool} {rd : Reg} {x : Word}
    (h : exec i s = s.result32 valid rd x) : ∃ v, GprResult i rd v s := by
  cases valid with
  | true => exact ⟨sext32 x, gprResult_of_result h⟩
  | false => exact ⟨s.free 64, gprResult_of_resultFree (n := s.fresh) h⟩

/-! ## An exception taken -/

/-- An exception but an interrupt, raised by an instruction, writes the registers of 60_exceptions R670 to R673 and changes
nothing else. -/
theorem State.raised_exceptionTaken (s : State) {e : Exc} (he : e.isInt = false) (bad : Option DWord) :
    ExceptionTaken e.code e.unit bad s (s.raised e bad) := by
  have saved : ExceptionSaved bad s (s.raised e bad) := by
    unfold ExceptionSaved
    split
    case isTrue h =>
      refine ⟨if_pos h, if_pos h, ?_⟩
      cases bad with
      | none => rfl
      | some a => exact if_pos h
    case isFalse h =>
      refine ⟨if_neg h, if_neg h, ?_⟩
      cases bad with
      | none => rfl
      | some a => exact if_neg h
  have other : SameOtherCp0 s (s.raised e bad) := by simp [SameOtherCp0, State.raised, State.takeException]
  have pc : (s.raised e bad).pc =
      if s.cp0.status.bev then 0xFFFFFFFFBFC00380 else 0xFFFFFFFF80000180 := by
    simp [State.raised, State.takeException, he, vector]
  refine ⟨⟨⟨saved, other, rfl, rfl, rfl, rfl, rfl, pc, rfl, rfl, ?_, rfl, rfl⟩, ?_, ?_, ?_⟩, rfl, ?_⟩
  · exact fun r => s.raised_reg e bad r
  · exact ⟨rfl, rfl, rfl⟩
  · exact ⟨rfl, rfl⟩
  · exact fun _ => rfl
  · exact ⟨rfl, rfl, rfl, rfl, rfl, rfl⟩

/-- Which free value comes next is seen by no statement about an exception. -/
theorem trapResult_of_trap {i : Instr} {s : State} {n : Nat} {e : Exc} (he : e.isInt = false)
    (h : exec i s = ({ s with fresh := n } : State).trap e) : TrapResult i e.code e.unit none s :=
  ⟨({ s with fresh := n } : State).raised e none, h, ({ s with fresh := n } : State).raised_exceptionTaken he none⟩

theorem State.arith32_of_invalid (s : State) (rd : Reg) (x : Int) :
    s.arith32 false rd x = if s.freeBool then s.drawn.trap .ov else s.drawn.resultFree rd := rfl

/-- A sum or difference of words writes its register or takes Integer Overflow: with sign-extended operands as it overflows or
not (R351), with others as the free choice says (U1). -/
theorem gprResult_or_trapResult_of_arith32 {i : Instr} {s : State} {valid : Bool} {rd : Reg} {x : Int}
    (h : exec i s = s.arith32 valid rd x) : (∃ v, GprResult i rd v s) ∨ TrapResult i 12 0 none s := by
  cases valid with
  | true =>
    rw [State.arith32_of_valid] at h
    split at h
    · exact .inr (trapResult_of_trap (n := s.fresh) rfl h)
    · exact .inl ⟨_, gprResult_of_result h⟩
  | false =>
    rw [State.arith32_of_invalid] at h
    split at h
    · exact .inr (trapResult_of_trap (n := s.fresh + 1) rfl h)
    · exact .inl ⟨_, gprResult_of_resultFree (n := s.fresh + 1) h⟩

/-! ## HI and LO written -/

/-- A pair in HI and LO, then the next instruction; which free value comes next is not seen. -/
theorem hiLoResult_of_donePair {i : Instr} {s : State} {hi lo : DWord} {n : Nat}
    (h : exec i s = ({ s with hi := hi, lo := lo, fresh := n } : State).donePair) : HiLoResult i hi lo s := by
  have system : SameSystem s { s with hi := hi, lo := lo, fresh := n } :=
    ⟨rfl, ⟨rfl, rfl, rfl⟩, ⟨rfl, rfl⟩, fun _ => rfl, rfl, rfl, rfl, rfl, rfl, rfl⟩
  exact ⟨_, h, rfl, rfl, ⟨fun _ => rfl, rfl, system⟩, s.advance_advanced⟩

theorem hiLoResult_of_known {i : Instr} {s : State} {hi lo : DWord} (h : exec i s = s.writeHiLo true hi lo) :
    HiLoResult i hi lo s := hiLoResult_of_donePair (n := s.fresh) h

/-- HI and LO take the values given, or where the spec gives none the two free values (U1, U15). -/
theorem exists_hiLoResult_of_writeHiLo {i : Instr} {s : State} {known : Bool} {x y : DWord}
    (h : exec i s = s.writeHiLo known x y) : ∃ hi lo, HiLoResult i hi lo s := by
  cases known with
  | true => exact ⟨x, y, hiLoResult_of_known h⟩
  | false => exact ⟨s.freeHiLo.hi, s.freeHiLo.lo, hiLoResult_of_donePair (n := s.fresh + 2) h⟩

/-! ## The shared operation of each word operation -/

theorem exec_eq_result32 (s : State) (rs rt rd : Reg) (sa : BitVec 5) :
    ∀ i ∈ [Instr.addu rs rt rd, .subu rs rt rd, .sll rt rd sa, .srl rt rd sa, .sra rt rd sa, .sllv rs rt rd,
      .srlv rs rt rd, .srav rs rt rd], ∃ valid x, exec i s = s.result32 valid rd x := by
  simp only [List.forall_mem_cons]
  exact ⟨⟨_, _, rfl⟩, ⟨_, _, rfl⟩, ⟨_, _, rfl⟩, ⟨_, _, rfl⟩, ⟨_, _, rfl⟩, ⟨_, _, rfl⟩, ⟨_, _, rfl⟩, ⟨_, _, rfl⟩,
    List.forall_mem_nil _⟩

theorem exec_addiu (s : State) (rs rt : Reg) (imm : BitVec 16) :
    exec (.addiu rs rt imm) s = s.result32 (isSext32 (s.reg rs)) rt (low32 (s.reg rs + sextImm imm)) := rfl

theorem exec_eq_arith32 (s : State) (rs rt rd : Reg) :
    ∀ i ∈ [Instr.add rs rt rd, .sub rs rt rd], ∃ x, exec i s = s.arith32 (s.bothSext32 rs rt) rd x := by
  simp only [List.forall_mem_cons]
  exact ⟨⟨_, rfl⟩, ⟨_, rfl⟩, List.forall_mem_nil _⟩

theorem exec_addi (s : State) (rs rt : Reg) (imm : BitVec 16) :
    exec (.addi rs rt imm) s =
      s.arith32 (isSext32 (s.reg rs)) rt ((s.reg rs).toInt + (sextImm imm).toInt) := rfl

theorem exec_eq_writeHiLo (s : State) (rs rt : Reg) :
    ∀ i ∈ [Instr.mult rs rt, .multu rs rt, .div rs rt, .divu rs rt, .mad rs rt, .madu rs rt],
      ∃ known hi lo, exec i s = s.beforeHiLo.writeHiLo known hi lo := by
  simp only [List.forall_mem_cons]
  exact ⟨⟨_, _, _, rfl⟩, ⟨_, _, _, rfl⟩, ⟨_, _, _, rfl⟩, ⟨_, _, _, rfl⟩, ⟨_, _, _, rfl⟩, ⟨_, _, _, rfl⟩,
    List.forall_mem_nil _⟩

/-- The value that MUL writes to its register: the low word of the product, or with an operand that is not sign-extended the
free value (R423, U1). -/
def mulValue (s : State) (rs rt : Reg) : DWord :=
  if s.bothSext32 rs rt then sext32 (low32 (s.reg rs) * low32 (s.reg rt)) else s.free 64

/-- MUL writes its register; HI and LO are any value (R423, U16). -/
theorem mul_writesGpr {s : State} (h : NoHiLoHazard s) (rs rt rd : Reg) :
    ∃ t, exec (.mul rs rt rd) s = .next t ∧ WritesGpr rd (mulValue s rs rt) s t ∧ t.fpu = s.fpu ∧ SameSystem s t ∧
      Advanced s t := by
  have hexec : exec (.mul rs rt rd) s =
      (if s.bothSext32 rs rt then s.setReg rd (sext32 (low32 (s.reg rs) * low32 (s.reg rt)))
        else (s.setReg rd (s.free 64)).drawn).freeHiLo.done := by
    change execMul rs rt rd s = _
    rw [execMul, State.beforeHiLo_of_quiet h]
  rw [hexec, mulValue]
  split
  all_goals
    exact ⟨_, rfl, s.setReg_writesGpr rd _, s.setReg_fpu rd _, s.setReg_sameSystem rd _, s.setReg_advanced rd _⟩

end Sys2Proof.Machine

open Sys2Proof Sys2Proof.Machine

/-- Settles O10. -/
theorem resetHasInvariant : Obligations.ResetHasInvariant := State.reset_inv

/-- Settles O27: each word operation ends in one of the shared operations, which completes whatever its operands are. -/
theorem notSignExtended : Obligations.NotSignExtended := by
  intro s rs rt rd imm sa
  refine ⟨?word, ?addiu, ?sum, ?addi, ?hiLo, ?mul⟩
  case word =>
    intro i hmem
    obtain ⟨valid, x, hexec⟩ := exec_eq_result32 s rs rt rd sa i hmem
    exact exists_gprResult_of_result32 hexec
  case addiu => exact exists_gprResult_of_result32 (exec_addiu s rs rt imm)
  case sum =>
    intro i hmem
    obtain ⟨x, hexec⟩ := exec_eq_arith32 s rs rt rd i hmem
    exact gprResult_or_trapResult_of_arith32 hexec
  case addi => exact gprResult_or_trapResult_of_arith32 (exec_addi s rs rt imm)
  case hiLo =>
    intro hquiet i hmem
    obtain ⟨known, hi, lo, hexec⟩ := exec_eq_writeHiLo s rs rt i hmem
    rw [State.beforeHiLo_of_quiet hquiet] at hexec
    exact exists_hiLoResult_of_writeHiLo hexec
  case mul => exact fun hquiet => ⟨mulValue s rs rt, mul_writesGpr hquiet rs rt rd⟩

end

section
/-!
PROOF. Sys2Proof/Proofs/StepInvariant.lean: every instruction, every first half of a cycle and every reset keeps the
invariant of the machine, and so does every step (20_memory R140; 10_state R30, R34; 11_cp0_registers R107, R111).
-/

namespace Sys2Proof.Machine

/-! ## Conditions and ends of an instruction -/

theorem State.Inv.done {s : State} (h : s.Inv) : AllNext State.Inv s.done := h.advance

/-- The hazard record is no part of the invariant. -/
theorem State.Inv.withHazards {s : State} (h : s.Inv) (z : Hazards) : ({ s with hazards := z } : State).Inv :=
  h.of_same rfl rfl rfl rfl rfl

theorem State.Inv.doneMem {s : State} (h : s.Inv) : AllNext State.Inv s.doneMem := h.advance.withHazards _

theorem State.Inv.donePair {s : State} (h : s.Inv) : AllNext State.Inv s.donePair := h.advance.withHazards _

theorem State.Inv.trap {s : State} (h : s.Inv) (e : Exc) : AllNext State.Inv (s.trap e) := h.raised e none

theorem AllNext.ite {P : State → Prop} {c : Prop} [Decidable c] {x y : Result} (hx : AllNext P x) (hy : AllNext P y) :
    AllNext P (if c then x else y) := by
  split
  · exact hx
  · exact hy

theorem State.Inv.ite {c : Prop} [Decidable c] {x y : State} (hx : x.Inv) (hy : y.Inv) :
    (if c then x else y).Inv := by
  split
  · exact hx
  · exact hy

theorem State.Inv.needCp0 {s : State} (h : s.Inv) {r : Result} (hr : AllNext State.Inv r) :
    AllNext State.Inv (s.needCp0 r) := hr.ite (h.trap _)

theorem State.Inv.needCp1 {s : State} (h : s.Inv) {r : Result} (hr : AllNext State.Inv r) :
    AllNext State.Inv (s.needCp1 r) := hr.ite (h.trap _)

theorem State.Inv.need64 {s : State} (h : s.Inv) {r : Result} (hr : AllNext State.Inv r) :
    AllNext State.Inv (s.need64 r) := hr.ite (h.trap _)

theorem AllNext.outsideSlot {P : State → Prop} (s : State) {r : Result} (hr : AllNext P r) :
    AllNext P (s.outsideSlot r) := AllNext.ite trivial hr

theorem State.Inv.cop2 {s : State} (h : s.Inv) : AllNext State.Inv s.cop2 := AllNext.ite trivial (h.trap _)

theorem State.Inv.reservedCop0 {s : State} (h : s.Inv) : AllNext State.Inv s.reservedCop0 := h.needCp0 trivial

/-! ## Arithmetic, branches and traps -/

theorem State.Inv.result {s : State} (h : s.Inv) (rd : Reg) (v : DWord) : AllNext State.Inv (s.result rd v) :=
  (h.setReg rd v).done

theorem State.Inv.resultFree {s : State} (h : s.Inv) (rd : Reg) : AllNext State.Inv (s.resultFree rd) :=
  (h.setReg rd _).drawn.done

theorem State.Inv.result32 {s : State} (h : s.Inv) (valid : Bool) (rd : Reg) (v : Word) :
    AllNext State.Inv (s.result32 valid rd v) := (h.result rd _).ite (h.resultFree rd)

theorem State.Inv.arith32 {s : State} (h : s.Inv) (valid : Bool) (rd : Reg) (x : Int) :
    AllNext State.Inv (s.arith32 valid rd x) :=
  ((h.trap _).ite (h.result rd _)).ite ((h.drawn.trap _).ite (h.drawn.resultFree rd))

theorem State.Inv.arith64 {s : State} (h : s.Inv) (rd : Reg) (x : Int) : AllNext State.Inv (s.arith64 rd x) :=
  (h.trap _).ite (h.result rd _)

theorem State.Inv.branch {s : State} (h : s.Inv) (taken likely : Bool) (offset : BitVec 16) :
    AllNext State.Inv (s.branch taken likely offset) :=
  AllNext.ite (h.branchTo _) (AllNext.ite h.nullify h.fallThrough)

theorem State.Inv.branchOn {s : State} (h : s.Inv) (cond likely : Bool) (offset : BitVec 16) :
    AllNext State.Inv (s.branchOn cond likely offset) := (h.branch _ _ _).outsideSlot s

theorem State.Inv.branchLink {s : State} (h : s.Inv) (cond likely : Bool) (offset : BitVec 16) :
    AllNext State.Inv (s.branchLink cond likely offset) := ((h.setReg _ _).branch _ _ _).outsideSlot s

theorem State.Inv.branchFpu {s : State} (h : s.Inv) (sense likely : Bool) (offset : BitVec 16) :
    AllNext State.Inv (s.branchFpu sense likely offset) :=
  h.needCp1 (((h.drawn.branch _ _ _).ite (h.branch _ _ _)).outsideSlot s)

theorem State.Inv.trapIf {s : State} (h : s.Inv) (cond : Bool) : AllNext State.Inv (s.trapIf cond) :=
  (h.trap _).ite h.done

/-! ## HI and LO -/

theorem State.Inv.writeHiLo {s : State} (h : s.Inv) (known : Bool) (hi lo : DWord) :
    AllNext State.Inv (s.writeHiLo known hi lo) :=
  State.Inv.donePair (State.Inv.ite ((h.setHi hi).setLo lo) h.freeHiLo)

theorem State.Inv.mul {s : State} (h : s.Inv) (rs rt rd : Reg) : AllNext State.Inv (execMul rs rt rd s) :=
  State.Inv.done (State.Inv.freeHiLo
    (State.Inv.ite (h.beforeHiLo.setReg rd _) (h.beforeHiLo.setReg rd _).drawn))

theorem State.Inv.mthi {s : State} (h : s.Inv) (rs : Reg) : AllNext State.Inv (execMthi rs s) :=
  State.Inv.withHazards
    (State.Inv.advance (State.Inv.ite ((h.beforeHiLo.setHi _).setLo _).drawn (h.beforeHiLo.setHi _))) _

theorem State.Inv.mtlo {s : State} (h : s.Inv) (rs : Reg) : AllNext State.Inv (execMtlo rs s) :=
  State.Inv.withHazards
    (State.Inv.advance (State.Inv.ite ((h.beforeHiLo.setLo _).setHi _).drawn (h.beforeHiLo.setLo _))) _

/-! ## Floating point -/

theorem State.Inv.fpRaise {s : State} (h : s.Inv) (c : FpCause) : AllNext State.Inv (s.fpRaise c) :=
  (h.setFcr31 _).trap .fpe

theorem State.Inv.fpUnlessTrap {s : State} (h : s.Inv) (c : FpCause) {r : Result} (hr : AllNext State.Inv r) :
    AllNext State.Inv (s.fpUnlessTrap c r) := (h.fpRaise c).ite hr

theorem State.Inv.fpStore {s : State} (h : s.Inv) (fd : Reg) (x : FpResult) : AllNext State.Inv (s.fpStore fd x) := by
  cases x with
  | traps c => exact h.fpRaise c
  | value c v => exact h.fpUnlessTrap c ((h.fpCommit c).setFgr fd v).done

theorem State.Inv.fpOp {s : State} (h : s.Inv) (fs : List Reg) {r : Result} (hr : AllNext State.Inv r) :
    AllNext State.Inv (s.fpOp fs r) := h.needCp1 ((h.fpRaise causeE).ite hr)

theorem State.Inv.fpBinary {s : State} (h : s.Inv) (ft fs fd : Reg) (f : Fcr31 → Word → Word → FpResult) :
    AllNext State.Inv (s.fpBinary ft fs fd f) := h.fpOp _ (h.fpStore fd _)

theorem State.Inv.fpUnary {s : State} (h : s.Inv) (fs fd : Reg) (f : Fcr31 → Word → FpResult) :
    AllNext State.Inv (s.fpUnary fs fd f) := h.fpOp _ (h.fpStore fd _)

theorem State.Inv.fpConvertToWord {s : State} (h : s.Inv) (fs fd : Reg) (mode : RoundMode) :
    AllNext State.Inv (s.fpConvertToWord fs fd mode) := h.fpOp _ (h.fpStore fd _)

theorem State.Inv.fpUnimplemented {s : State} (h : s.Inv) : AllNext State.Inv s.fpUnimplemented :=
  h.needCp1 (h.fpRaise causeE)

theorem State.Inv.fpCompared {s : State} (h : s.Inv) (cond : BitVec 4) (a b : Word) : (s.fpCompared cond a b).Inv :=
  ((h.fpCommit _).setFcr31 _).advance.withHazards _

theorem State.Inv.fpCompare {s : State} (h : s.Inv) (cond : BitVec 4) (ft fs : Reg) :
    AllNext State.Inv (s.fpCompare cond ft fs) := h.fpOp _ (h.fpUnlessTrap _ (h.fpCompared cond _ _))

theorem State.Inv.cfc1 {s : State} (h : s.Inv) (rt fs : Reg) : AllNext State.Inv (execCfc1 rt fs s) :=
  h.needCp1 (AllNext.ite (h.setReg _ _).done (AllNext.ite (h.setReg _ _).done (h.setReg _ _).drawn.done))

theorem State.Inv.ctc1 {s : State} (h : s.Inv) (rt fs : Reg) : AllNext State.Inv (execCtc1 rt fs s) :=
  h.needCp1 (AllNext.ite
    (AllNext.ite (((h.setFcr31 _).raised _ _).withHazards _) ((h.setFcr31 _).advance.withHazards _)) trivial)

/-! ## Loads and stores -/

theorem State.Inv.loadAligned {s : State} (h : s.Inv) (n : Nat) (signed : Bool) (base rt : Reg) (offset : BitVec 16) :
    AllNext State.Inv (s.loadAligned n signed base rt offset) :=
  (h.load _).finish fun _ _ ht => (ht.setReg rt _).doneMem

theorem State.Inv.storeAligned {s : State} (h : s.Inv) (n v : Nat) (base : Reg) (offset : BitVec 16) :
    AllNext State.Inv (s.storeAligned n v base offset) := (h.store _ _).finish fun _ _ ht => ht.doneMem

theorem State.Inv.loadWordPart {s : State} (h : s.Inv) (left : Bool) (base rt : Reg) (offset : BitVec 16) :
    AllNext State.Inv (s.loadWordPart left base rt offset) :=
  (h.load _).finish fun _ _ ht => (ht.setReg rt _).doneMem

theorem State.Inv.loadDoublePart {s : State} (h : s.Inv) (left : Bool) (base rt : Reg) (offset : BitVec 16) :
    AllNext State.Inv (s.loadDoublePart left base rt offset) :=
  (h.load _).finish fun _ _ ht => (ht.setReg rt _).doneMem

theorem State.Inv.storePart {s : State} (h : s.Inv) (size : Nat) (left : Bool) (v : Nat) (base : Reg)
    (offset : BitVec 16) : AllNext State.Inv (s.storePart size left v base offset) :=
  (h.store _ _).finish fun _ _ ht => ht.doneMem

theorem State.Inv.loadLinked {s : State} (h : s.Inv) (n : Nat) (base rt : Reg) (offset : BitVec 16) :
    AllNext State.Inv (s.loadLinked n base rt offset) :=
  (h.load _).finish fun _ _ ht => AllNext.ite trivial
    (State.Inv.doneMem ((ht.setReg rt _).of_same rfl rfl rfl rfl rfl))

theorem State.Inv.conditionalFails {s : State} (h : s.Inv) (va : DWord) : (s.conditionalFails va).All State.Inv := by
  unfold State.conditionalFails
  have hd : (if s.dwatchUnsure va true = true then s.drawn else s).Inv := h.drawn.ite h
  revert hd
  generalize (if s.dwatchUnsure va true = true then s.drawn else s) = t
  intro hd
  dsimp only
  split
  · split
    · exact hd.raised _ _
    · exact hd.postponeDwatch
  · exact hd

theorem State.Inv.storeConditional {s : State} (h : s.Inv) (n v : Nat) (base rt : Reg) (offset : BitVec 16) :
    AllNext State.Inv (s.storeConditional n v base rt offset) :=
  (h.dataAddress _ _ _).finish fun _ _ ht => AllNext.ite
    ((ht.conditionalFails _).finish fun _ _ _ => trivial)
    (AllNext.ite ((ht.store _ _).finish fun _ _ hu => (hu.setReg rt 1).doneMem)
      ((ht.conditionalFails _).finish fun _ _ hu => (hu.setReg rt 0).doneMem))

theorem State.Inv.lwc1 {s : State} (h : s.Inv) (base ft : Reg) (offset : BitVec 16) :
    AllNext State.Inv (execLwc1 base ft offset s) :=
  h.needCp1 ((h.load _).finish fun _ _ ht => (ht.setFgr ft _).doneMem)

theorem State.Inv.cache {s : State} (h : s.Inv) (base : Reg) (op : BitVec 5) (offset : BitVec 16) :
    AllNext State.Inv (execCache base op offset s) := by
  refine h.needCp0 ((h.dataAddress _ _ _).finish fun v t ht => AllNext.ite trivial (AllNext.ite trivial ?_))
  cases cacheOperation op with
  | none => trivial
  | some o => exact (ht.drained.cacheOp o _ _).finish fun _ _ hu => hu.doneMem

/-! ## Coprocessor 0 -/

/-- A write of a register of coprocessor 0 keeps CacheErr, and of CAlg the implemented bits alone (11_cp0_registers R107,
R111, R114). -/
theorem Cp0.write_some {c new : Cp0} {rd : Reg} {data : DWord} (h : c.write rd data = some new) :
    (new.calg = c.calg ∨ new.calg = low32 data &&& calgMask) ∧ new.cacheErr = c.cacheErr := by
  unfold Cp0.write at h
  dsimp only at h
  split at h <;> simp only [Option.some.injEq, reduceCtorEq] at h
  all_goals
    subst h
    simp

theorem State.Inv.cp0_write {s : State} (h : s.Inv) {rd : Reg} {data : DWord} {c : Cp0}
    (hc : s.cp0.write rd data = some c) : ({ s with cp0 := c } : State).Inv := by
  obtain ⟨hmem, hr0, hcalg, herr, hslot⟩ := h
  obtain ⟨hnew, hsame⟩ := Cp0.write_some hc
  refine ⟨hmem, hr0, ?_, hsame ▸ herr, hslot⟩
  rcases hnew with hkept | hmasked
  · exact hkept ▸ hcalg
  · change c.calg &&& ~~~calgMask = 0
    rw [hmasked, BitVec.and_assoc]
    simp

theorem State.Inv.writeCp0 {s : State} (h : s.Inv) (rd : Reg) (data : DWord) :
    AllNext State.Inv (s.writeCp0 rd data) := by
  unfold State.writeCp0
  split
  case h_1 => trivial
  case h_2 c hc =>
    exact AllNext.ite trivial (AllNext.ite trivial (AllNext.ite trivial
      ((h.advance.cp0_write (rd := rd) (data := data) hc).of_same rfl rfl rfl rfl rfl)))

theorem State.Inv.mfc0 {s : State} (h : s.Inv) (rt rd : Reg) : AllNext State.Inv (execMfc0 rt rd s) := by
  refine h.needCp0 ?_
  cases s.readCp0 rd with
  | none => trivial
  | some v => exact AllNext.ite (h.setReg _ _).drawn.done (h.setReg _ _).done

theorem State.Inv.dmfc0 {s : State} (h : s.Inv) (rt rd : Reg) : AllNext State.Inv (execDmfc0 rt rd s) := by
  refine h.needCp0 (h.need64 ?_)
  cases s.readCp0 rd with
  | none => trivial
  | some v => exact AllNext.ite (h.setReg _ _).drawn.done (h.setReg _ _).done

theorem State.Inv.dmtc0 {s : State} (h : s.Inv) (rt rd : Reg) : AllNext State.Inv (execDmtc0 rt rd s) :=
  h.needCp0 (h.need64 (AllNext.ite (h.writeCp0 _ _) (h.drawn.writeCp0 _ _)))

theorem State.Inv.wait {s : State} (h : s.Inv) : AllNext State.Inv (execWait s) :=
  h.needCp0 (AllNext.ite (h.drawn.drained.advance.of_same rfl rfl rfl rfl rfl) h.drawn.done)

/-! ## Every instruction -/

/-- Every instruction keeps the invariant. -/
theorem State.Inv.exec {s : State} (h : s.Inv) (i : Instr) : AllNext State.Inv (exec i s) := by
  cases i with
  | lb | lbu | lh | lhu | lw => exact h.loadAligned _ _ _ _ _
  | lwu | ld => exact h.need64 (h.loadAligned _ _ _ _ _)
  | lwl | lwr => exact h.loadWordPart _ _ _ _
  | ldl | ldr => exact h.need64 (h.loadDoublePart _ _ _ _)
  | sb | sh | sw => exact h.storeAligned _ _ _ _
  | sd => exact h.need64 (h.storeAligned _ _ _ _)
  | swl | swr => exact h.storePart _ _ _ _ _
  | sdl | sdr => exact h.need64 (h.storePart _ _ _ _ _)
  | ll => exact h.loadLinked _ _ _ _
  | lld => exact h.need64 (h.loadLinked _ _ _ _)
  | sc => exact h.storeConditional _ _ _ _ _
  | scd => exact h.need64 (h.storeConditional _ _ _ _ _)
  | cache => exact h.cache _ _ _
  | lwc1 => exact h.lwc1 _ _ _
  | swc1 => exact h.needCp1 (h.storeAligned _ _ _ _)
  | ldc1 | sdc1 => exact h.fpUnimplemented
  | lwc2 | ldc2 | swc2 | sdc2 | cop2 => exact h.cop2
  | addi | add | sub => exact h.arith32 _ _ _
  | addiu | addu | subu | sll | srl | sra | sllv | srlv | srav => exact h.result32 _ _ _
  | slti | sltiu | andi | ori | xori | lui | and | or | xor | nor | slt | sltu => exact h.result _ _
  | daddi | dadd | dsub => exact h.need64 (h.arith64 _ _)
  | daddiu | daddu | dsubu | dsll | dsrl | dsra | dsll32 | dsrl32 | dsra32 | dsllv | dsrlv | dsrav =>
    exact h.need64 (h.result _ _)
  | mult | multu | div | divu | mad | madu => exact h.beforeHiLo.writeHiLo _ _ _
  | dmult | dmultu | ddiv | ddivu => exact h.need64 (h.beforeHiLo.writeHiLo _ _ _)
  | mul => exact h.mul _ _ _
  | mfhi | mflo => exact (h.setReg _ _).advance.withHazards _
  | mthi => exact h.mthi _
  | mtlo => exact h.mtlo _
  | j | jr => exact AllNext.outsideSlot s (h.branchTo _)
  | jal => exact AllNext.outsideSlot s ((h.setReg _ _).branchTo _)
  | jalr => exact AllNext.outsideSlot s (AllNext.ite trivial ((h.setReg _ _).branchTo _))
  | beq | bne | beql | bnel | blez | bgtz | blezl | bgtzl | bltz | bgez | bltzl | bgezl => exact h.branchOn _ _ _
  | bltzal | bgezal | bltzall | bgezall => exact h.branchLink _ _ _
  | bc1f | bc1t | bc1fl | bc1tl => exact h.branchFpu _ _ _
  | syscall | break_ | cop3 => exact h.trap _
  | sync => exact h.done
  | tge | tgeu | tlt | tltu | teq | tne | tgei | tgeiu | tlti | tltiu | teqi | tnei => exact h.trapIf _
  | mfc0 => exact h.mfc0 _ _
  | dmfc0 => exact h.dmfc0 _ _
  | mtc0 => exact h.needCp0 (h.writeCp0 _ _)
  | dmtc0 => exact h.dmtc0 _ _
  | eret => exact h.needCp0 (AllNext.outsideSlot s h.returnFromException)
  | wait => exact h.wait
  | tlbr | tlbwi | tlbwr | tlbp => exact h.reservedCop0
  | addS | subS | mulS | divS => exact h.fpBinary _ _ _ _
  | sqrtS => exact h.fpUnary _ _ _
  | absS => exact h.fpUnary _ _ fun _ => fpAbs
  | negS => exact h.fpUnary _ _ fun _ => fpNeg
  | movS | cvtSW => exact h.fpOp _ (h.fpStore _ _)
  | roundWS | truncWS | ceilWS | floorWS | cvtWS => exact h.fpConvertToWord _ _ _
  | roundLS | truncLS | ceilLS | floorLS | cvtDS | cvtLS | cop1Other => exact h.fpUnimplemented
  | cFS | cUnS | cEqS | cUeqS | cOltS | cUltS | cOleS | cUleS | cSfS | cNgleS | cSeqS | cNglS | cLtS | cNgeS | cLeS
  | cNgtS => exact h.fpCompare _ _ _
  | mfc1 => exact h.needCp1 (h.setReg _ _).done
  | mtc1 => exact h.needCp1 (h.setFgr _ _).done
  | dmfc1 | dmtc1 => exact h.needCp1 (h.need64 (h.fpRaise _))
  | cfc1 => exact h.cfc1 _ _
  | ctc1 => exact h.ctc1 _ _

theorem State.Inv.execWord {s : State} (h : s.Inv) (w : Word) : AllNext State.Inv (s.execWord w) := by
  unfold State.execWord
  cases decode w with
  | ok i => exact h.exec i
  | error e =>
    cases e with
    | reservedInstruction => exact h.trap _
    | reservedCop0 => exact h.reservedCop0
    | reservedCop1 => exact h.fpUnimplemented

/-! ## The cycle -/

theorem State.Inv.boundary {s : State} (h : s.Inv) (hold : Bool) : (s.boundary hold).All State.Inv := by
  unfold State.boundary
  split
  · exact h.takeNmi
  · split
    · exact h.takePostponedWatch
    · split
      · exact h.takeException _ _
      · exact h.fetch

theorem State.Inv.begun {s : State} (h : s.Inv) (hold : Bool) : (s.begun hold).All State.Inv := by
  unfold State.begun
  split
  · exact h
  · exact h.awake.boundary hold

/-- What arrives within an instruction keeps the invariant of every state that its first half can answer. -/
theorem Access.All.deliver {α : Type} {x : Access α} (hx : x.All State.Inv) (is : List Input) :
    (x.deliver is).All State.Inv := by
  cases x with
  | ok v s =>
    unfold Access.deliver
    dsimp only
    split
    case h_1 t ht => exact State.Inv.deliverAll hx ht
    case h_2 => trivial
  | trap s =>
    unfold Access.deliver
    dsimp only
    split
    case h_1 t ht => exact State.Inv.deliverAll hx ht
    case h_2 => trivial
  | fault r => trivial
  | refused q => trivial

theorem State.Inv.cycle {s : State} (h : s.Inv) (a : Arrivals) : AllNext State.Inv (s.cycle a) :=
  ((h.begun a.hold).deliver a.within).finish fun w _ ht => ht.execWord w

theorem AllNext.ticked {r : Result} (hr : AllNext State.Inv r) (ticks : Option Nat) :
    AllNext State.Inv (ticked ticks r) := by
  cases r with
  | next s => exact State.Inv.timed (State.Inv.settled hr) ticks
  | fault f => trivial
  | refused q => trivial

/-! ## Resets and the step -/

/-- A reset finds a machine with the invariant, whatever part of a cycle it cuts short. -/
theorem State.Inv.cutShort {s t : State} (h : s.Inv) {a : Arrivals} {phase : Phase} (ht : s.cutShort a phase = .ok t) :
    t.Inv := by
  cases phase with
  | boundary => exact h.settled.deliverAll ht
  | fetch => exact (h.settled.withBusOf _).deliverAll ht
  | execution =>
    have hx : ((s.settled.begun a.hold).deliver a.within).All State.Inv := (h.settled.begun a.hold).deliver a.within
    unfold State.cutShort at ht
    dsimp only at ht
    split at ht
    case h_1 w u hu =>
      rw [hu] at hx
      cases ht
      exact (State.Inv.settled hx).withBusOf _
    case h_2 u hu =>
      rw [hu] at hx
      cases ht
      exact State.Inv.settled hx
    case h_3 =>
      cases ht
      exact h.settled.withBusOf _
    case h_4 => cases ht

theorem State.Inv.takeReset {s : State} (h : s.Inv) (r : ResetRequest) : AllNext State.Inv (s.takeReset r) := by
  unfold State.takeReset
  split
  · exact (h.interruptBus r.lost).warmReset
  · exact AllNext.ite trivial ((h.interruptBus r.lost).coldReset _)

theorem State.Inv.runWith {s : State} (h : s.Inv) (a : Arrivals) : AllNext State.Inv (s.runWith a) := by
  unfold State.runWith
  split
  case h_1 => trivial
  case h_2 t ht =>
    have hti : t.Inv := h.deliverAll ht
    split
    case h_1 => exact (hti.cycle a).ticked a.ticks
    case h_2 r _ =>
      split
      case h_1 => trivial
      case h_2 u hu => exact (hti.cutShort hu).takeReset r

end Sys2Proof.Machine

open Sys2Proof Sys2Proof.Machine

/-- Settles O9: what arrives, the cycle and a reset each keep the invariant. -/
theorem stepKeepsInvariant : Obligations.StepKeepsInvariant := by
  intro s t h hstep
  have hs : ({ s with inputs := s.inputs.tail } : State).Inv := h.of_same rfl rfl rfl rfl rfl
  exact (hs.runWith s.arrivals).next hstep

end

section
/-!
PROOF. Sys2Proof/Proofs/Translation.lean: what translation answers for every address, and the exceptions of the fetch that
come before memory is reached (20_memory R145 to R149, R158; 60_exceptions R679 to R681, R694).
-/

namespace Sys2Proof.Machine

/-! ## Translation in the words of the statements -/

theorem low32_msb (va : DWord) : (low32 va).msb = va.getLsbD 31 := by
  simp [low32, BitVec.msb_eq_getLsbD_last]

theorem low32_extractLsb' (va : DWord) {k n : Nat} (h : k + n ≤ 32) :
    (low32 va).extractLsb' k n = va.extractLsb' k n := by
  ext j hj
  simp [low32]
  omega

theorem calgField_region (calg : Word) (va : DWord) :
    calgField calg ((low32 va).extractLsb' 29 3) = calg.extractLsb' (4 * (va.toNat / 2 ^ 29 % 8)) 3 := by
  have region : ((low32 va).extractLsb' 29 3).toNat = va.toNat / 2 ^ 29 % 8 := by
    rw [low32_extractLsb' va (by decide), BitVec.extractLsb'_toNat, Nat.shiftRight_eq_div_pow]
  rw [calgField, region]
  ext j hj
  simp

/-- A kernel address in User mode and a kuseg address above the bound are rejected; every other address translates (20_memory
R146 to R148). -/
theorem translate_low32 (s : State) (base : BitVec 20) (bound : BitVec 19) (va : DWord) :
    translate s.userMode base bound s.cp0.calg (low32 va) =
      if va.getLsbD 31 = true ∧ s.userMode = true then .kernelAddress
      else if va.getLsbD 31 = false ∧ bound.toNat < (va.extractLsb' 12 19).toNat then .outOfBounds
      else .ok (translated s base va).1 (translated s base va).2 := by
  rw [translate, low32_msb, calgField_region, low32_extractLsb' va (k := 0) (by decide),
    low32_extractLsb' va (k := 12) (n := 19) (by decide), low32_extractLsb' va (k := 12) (n := 20) (by decide),
    low32_extractLsb' va (k := 0) (n := 12) (by decide), translated]
  cases va.getLsbD 31 <;> cases s.userMode <;> simp

/-! ## Exceptions and the step -/

/-- An exception but an interrupt writes the registers of 60_exceptions R670 to R673 and changes nothing else. -/
theorem State.takeException_exceptionTaken (s : State) {e : Exc} (he : e.isInt = false) (bad : Option DWord) :
    ExceptionTaken e.code e.unit bad s (s.takeException e bad) := s.raised_exceptionTaken he bad

/-- A fetch that ends at an exception's vector is the whole step, but for the end of the cycle. -/
theorem step_of_fetch_trap {s t : State} (hdue : NothingDue s) (h : s.fetch = .trap t) :
    step s = .next t.settled.tick := by
  rw [step_of_nothingDue hdue, h]
  rfl

theorem State.fetch_of_fetchAddress_trap {s t : State} (h : s.fetchAddress = .trap t) : s.fetch = .trap t := by
  rw [State.fetch, h]
  rfl

/-- The step takes the exception that the fetch meets in its address. -/
theorem exceptionTaken_of_fetchAddress {s : State} (hdue : NothingDue s) {e : Exc} (he : e.isInt = false)
    (h : s.fetchAddress = .trap (s.takeException e (some s.pc))) :
    ∃ t, step s = .next t.settled.tick ∧ ExceptionTaken e.code e.unit (some s.pc) s t :=
  ⟨_, step_of_fetch_trap hdue (State.fetch_of_fetchAddress_trap h), s.takeException_exceptionTaken he _⟩

/-! ## The address of a fetch -/

section FetchAddress
variable {s : State} (hwindow : s.hazards.mappedWindow = 0)
include hwindow

theorem State.fetchAddress_kernelAddress (h : s.translateFetch = .kernelAddress) :
    s.fetchAddress = .trap (s.takeException .adEL (some s.pc)) := by
  simp [State.fetchAddress, hwindow, h]

theorem State.fetchAddress_outOfBounds (h : s.translateFetch = .outOfBounds) :
    s.fetchAddress = .trap (s.takeException .iBound (some s.pc)) := by
  simp [State.fetchAddress, hwindow, h]

theorem State.fetchAddress_misaligned {pa : Word} {alg : BitVec 3} (h : s.translateFetch = .ok pa alg)
    (ha : s.pc.toNat % 4 ≠ 0) : s.fetchAddress = .trap (s.takeException .adEL (some s.pc)) := by
  simp [State.fetchAddress, hwindow, h, ha]

theorem State.fetchAddress_aligned {pa : Word} {alg : BitVec 3} (h : s.translateFetch = .ok pa alg)
    (ha : s.pc.toNat % 4 = 0) : s.fetchAddress = .ok (pa, alg) s := by
  simp [State.fetchAddress, hwindow, h, ha]

end FetchAddress

theorem State.iwatchMatches_of {s : State} (hi : s.cp0.iwatch.i = true)
    (ha : (low32 s.pc).extractLsb' 2 30 = s.cp0.iwatch.addr) : s.iwatchMatches = true := by
  simp [State.iwatchMatches, hi, ha]

/-- Outside the window of R777 and with EXL = ERL = 0 a watched fetch takes the Watch exception (60_exceptions R694, R695). -/
theorem State.fetch_watch {s : State} {v : Word × BitVec 3} (haddr : s.fetchAddress = .ok v s)
    (hmatch : s.iwatchMatches = true) (hwindow : s.hazards.iwWindow = 0) (hexl : s.cp0.status.exl = false)
    (herl : s.cp0.status.erl = false) : s.fetch = .trap (s.takeException (.watch true false) none) := by
  simp [State.fetch, haddr, State.iwatchCheck, hmatch, hwindow, Status.watchNow, hexl, herl]

end Sys2Proof.Machine

open Sys2Proof Sys2Proof.Machine

/-- Settles O8: the address of the fetch answers the first three exceptions in their order, and the IWatch check behind it the
fourth. -/
theorem fetchExceptions : Obligations.FetchExceptions := by
  intro s hdue hwindow
  have translation : s.translateFetch = _ := translate_low32 s s.cp0.ibase s.cp0.ibound s.pc
  split
  case isTrue hkernel =>
    rw [if_pos hkernel] at translation
    exact exceptionTaken_of_fetchAddress hdue rfl (State.fetchAddress_kernelAddress hwindow translation)
  case isFalse hkernel =>
    rw [if_neg hkernel] at translation
    split
    case isTrue hbound =>
      rw [if_pos hbound] at translation
      exact exceptionTaken_of_fetchAddress hdue rfl (State.fetchAddress_outOfBounds hwindow translation)
    case isFalse hbound =>
      rw [if_neg hbound] at translation
      split
      case isTrue halign =>
        exact exceptionTaken_of_fetchAddress hdue rfl (State.fetchAddress_misaligned hwindow translation halign)
      case isFalse halign =>
        refine ⟨translation, fun hi haddr hiw hexl herl => ?_⟩
        have hfetch := State.fetch_watch (State.fetchAddress_aligned hwindow translation (not_not.mp halign))
          (State.iwatchMatches_of hi haddr) hiw hexl herl
        exact ⟨_, step_of_fetch_trap hdue hfetch, s.takeException_exceptionTaken rfl none, rfl, rfl⟩

end

section
/-!
PROOF. Sys2Proof/Proofs/DataAddress.lean: every load, store, conditional store and CACHE asks for its address first, and what
that answers (20_memory R142, R146 to R149, R155; 21_caches R234; 60_exceptions R680, R682).
-/

namespace Sys2Proof.Machine

/-! ## The address of a data access -/

/-- The exception of a kernel or misaligned address (60_exceptions R680). -/
def addressError (store : Bool) : Exc := if store then .adES else .adEL

theorem addressError_isInt (store : Bool) : (addressError store).isInt = false := by cases store <;> rfl

theorem addressError_unit (store : Bool) : (addressError store).unit = 0 := by cases store <;> rfl

section DataAddress
variable {s : State} {va : DWord} (hh : NoMemHazard s) (align : Nat) (store : Bool)
include hh

theorem State.dataAddress_kernelAddress (h : s.translateData va = .kernelAddress) :
    s.dataAddress va align store = .trap (s.raised (addressError store) (some va)) := by
  simp [State.dataAddress, State.memHazard_none hh, h, addressError]

theorem State.dataAddress_outOfBounds (h : s.translateData va = .outOfBounds) :
    s.dataAddress va align store = .trap (s.raised .dBound (some va)) := by
  simp [State.dataAddress, State.memHazard_none hh, h]

theorem State.dataAddress_misaligned {pa : Word} {alg : BitVec 3} (h : s.translateData va = .ok pa alg)
    (ha : va.toNat % align ≠ 0) :
    s.dataAddress va align store = .trap (s.raised (addressError store) (some va)) := by
  simp [State.dataAddress, State.memHazard_none hh, h, addressError, ha]

end DataAddress

/-! ## Operations behind the address -/

theorem State.load_of_dataAddress_trap {s t : State} {sp : Span} (h : s.dataAddress sp.va sp.align false = .trap t) :
    s.load sp = .trap t := by
  rw [State.load, h]
  rfl

theorem State.store_of_dataAddress_trap {s t : State} {sp : Span} (bs : List Byte)
    (h : s.dataAddress sp.va sp.align true = .trap t) : s.store sp bs = .trap t := by
  rw [State.store, State.storeReady, h]
  rfl

/-- A left access needs no alignment of its effective address (20_memory R155). -/
theorem leftSpan_address (bigEndian : Bool) (size : Nat) (va : DWord) :
    (leftSpan bigEndian size va).va = va ∧ (leftSpan bigEndian size va).align = 1 := by
  cases bigEndian <;> exact ⟨rfl, rfl⟩

theorem rightSpan_address (bigEndian : Bool) (size : Nat) (va : DWord) :
    (rightSpan bigEndian size va).va = va ∧ (rightSpan bigEndian size va).align = 1 := by
  cases bigEndian <;> exact ⟨rfl, rfl⟩

theorem partSpan_address (bigEndian left : Bool) (size : Nat) (va : DWord) :
    (if left then leftSpan bigEndian size va else rightSpan bigEndian size va).va = va ∧
    (if left then leftSpan bigEndian size va else rightSpan bigEndian size va).align = 1 := by
  cases left
  · exact rightSpan_address bigEndian size va
  · exact leftSpan_address bigEndian size va

section AddressTrap
variable {s t : State} {base r : Reg} {offset : BitVec 16}

theorem State.loadAligned_of_trap {n : Nat} (signed : Bool) (h : s.dataAddress (s.ea base offset) n false = .trap t) :
    s.loadAligned n signed base r offset = .next t := by
  rw [State.loadAligned, State.load_of_dataAddress_trap (sp := aligned (s.ea base offset) n) h, Access.finish_of_trap]

theorem State.loadWordPart_of_trap (left : Bool) (h : s.dataAddress (s.ea base offset) 1 false = .trap t) :
    s.loadWordPart left base r offset = .next t := by
  obtain ⟨hva, halign⟩ := partSpan_address s.bigEndianCpu left 4 (s.ea base offset)
  rw [State.loadWordPart, State.load_of_dataAddress_trap (by rw [hva, halign]; exact h), Access.finish_of_trap]

theorem State.loadDoublePart_of_trap (left : Bool) (h : s.dataAddress (s.ea base offset) 1 false = .trap t) :
    s.loadDoublePart left base r offset = .next t := by
  obtain ⟨hva, halign⟩ := partSpan_address s.bigEndianCpu left 8 (s.ea base offset)
  rw [State.loadDoublePart, State.load_of_dataAddress_trap (by rw [hva, halign]; exact h), Access.finish_of_trap]

theorem State.loadLinked_of_trap {n : Nat} (h : s.dataAddress (s.ea base offset) n false = .trap t) :
    s.loadLinked n base r offset = .next t := by
  rw [State.loadLinked, State.load_of_dataAddress_trap (sp := aligned (s.ea base offset) n) h, Access.finish_of_trap]

theorem State.storeAligned_of_trap {n : Nat} (v : Nat) (h : s.dataAddress (s.ea base offset) n true = .trap t) :
    s.storeAligned n v base offset = .next t := by
  rw [State.storeAligned, State.store_of_dataAddress_trap (sp := aligned (s.ea base offset) n) _ h,
    Access.finish_of_trap]

theorem State.storePart_of_trap (size : Nat) (left : Bool) (v : Nat)
    (h : s.dataAddress (s.ea base offset) 1 true = .trap t) : s.storePart size left v base offset = .next t := by
  obtain ⟨hva, halign⟩ := partSpan_address s.bigEndianCpu left size (s.ea base offset)
  rw [State.storePart, State.store_of_dataAddress_trap _ (by rw [hva, halign]; exact h), Access.finish_of_trap]

theorem State.storeConditional_of_trap {n : Nat} (v : Nat) (h : s.dataAddress (s.ea base offset) n true = .trap t) :
    s.storeConditional n v base r offset = .next t := by
  rw [State.storeConditional, h, Access.finish_of_trap]

end AddressTrap

/-! ## Every form asks for its address first -/

/-- An exception of the effective address is what the instruction answers. -/
def AddressFirst (s : State) (va : DWord) (align : Nat) (store : Bool) (i : Instr) : Prop :=
  ∀ t, s.dataAddress va align store = .trap t → exec i s = .next t

theorem addressFirst_of_loadForms (s : State) (base r : Reg) (offset : BitVec 16) :
    ∀ p ∈ loadForms base r offset, MayExecute s p.1 → AddressFirst s (s.ea base offset) p.2 false p.1 := by
  simp only [loadForms, List.forall_mem_cons]
  refine ⟨?lb, ?lbu, ?lh, ?lhu, ?lw, ?lwu, ?ld, ?lwl, ?lwr, ?ldl, ?ldr, ?ll, ?lld, ?lwc1, List.forall_mem_nil _⟩
  case lb | lh | lw => exact fun _ _ h => State.loadAligned_of_trap true h
  case lbu | lhu => exact fun _ _ h => State.loadAligned_of_trap false h
  case lwu | ld => exact fun may _ h => (State.need64_of_allowed may _).trans (State.loadAligned_of_trap false h)
  case lwl => exact fun _ _ h => State.loadWordPart_of_trap true h
  case lwr => exact fun _ _ h => State.loadWordPart_of_trap false h
  case ldl => exact fun may _ h => (State.need64_of_allowed may _).trans (State.loadDoublePart_of_trap true h)
  case ldr => exact fun may _ h => (State.need64_of_allowed may _).trans (State.loadDoublePart_of_trap false h)
  case ll => exact fun _ _ h => State.loadLinked_of_trap h
  case lld => exact fun may _ h => (State.need64_of_allowed may _).trans (State.loadLinked_of_trap h)
  case lwc1 =>
    intro may t h
    change execLwc1 base r offset s = .next t
    rw [execLwc1, State.needCp1_of_usable may,
      State.load_of_dataAddress_trap (sp := aligned (s.ea base offset) 4) h, Access.finish_of_trap]

theorem addressFirst_of_storeForms (s : State) (base r : Reg) (offset : BitVec 16) :
    ∀ p ∈ storeForms base r offset ++ conditionalForms base r offset,
      MayExecute s p.1 → AddressFirst s (s.ea base offset) p.2 true p.1 := by
  simp only [storeForms, conditionalForms, List.cons_append, List.nil_append, List.forall_mem_cons]
  refine ⟨?sb, ?sh, ?sw, ?sd, ?swl, ?swr, ?sdl, ?sdr, ?swc1, ?sc, ?scd, List.forall_mem_nil _⟩
  case sb | sh | sw => exact fun _ _ h => State.storeAligned_of_trap _ h
  case sd => exact fun may _ h => (State.need64_of_allowed may _).trans (State.storeAligned_of_trap _ h)
  case swl => exact fun _ _ h => State.storePart_of_trap 4 true _ h
  case swr => exact fun _ _ h => State.storePart_of_trap 4 false _ h
  case sdl => exact fun may _ h => (State.need64_of_allowed may _).trans (State.storePart_of_trap 8 true _ h)
  case sdr => exact fun may _ h => (State.need64_of_allowed may _).trans (State.storePart_of_trap 8 false _ h)
  case swc1 => exact fun may _ h => (State.needCp1_of_usable may _).trans (State.storeAligned_of_trap _ h)
  case sc => exact fun _ _ h => State.storeConditional_of_trap _ h
  case scd => exact fun may _ h => (State.need64_of_allowed may _).trans (State.storeConditional_of_trap _ h)

/-- CACHE translates as a load does and needs no alignment (21_caches R234; log 45). -/
theorem addressFirst_of_cache {s : State} (h : Cp0Usable s) (base : Reg) (op : BitVec 5) (offset : BitVec 16) :
    AddressFirst s (s.ea base offset) 1 false (.cache base op offset) := by
  intro t ht
  change execCache base op offset s = .next t
  rw [execCache, State.needCp0_of_usable h]
  dsimp only
  rw [ht, Access.finish_of_trap]

/-! ## The exceptions, in their order -/

/-- An instruction that asks for its address first takes the exceptions of 20_memory R149 in their order, and else its address
translates. -/
theorem addressExceptions_of_addressFirst {s : State} {va : DWord} {align : Nat} {store : Bool} {i : Instr}
    (hh : NoMemHazard s) (hfirst : AddressFirst s va align store i) :
    if va.getLsbD 31 = true ∧ s.userMode = true then TrapResult i (addressError store).code 0 (some va) s
    else if va.getLsbD 31 = false ∧ s.cp0.dbound.toNat < (va.extractLsb' 12 19).toNat then
      TrapResult i 3 0 (some va) s
    else if va.toNat % align ≠ 0 then TrapResult i (addressError store).code 0 (some va) s
    else MapsTo s va (translated s s.cp0.dbase va).1 (translated s s.cp0.dbase va).2 := by
  have translation : s.translateData va = _ := translate_low32 s s.cp0.dbase s.cp0.dbound va
  have error : ExceptionTaken (addressError store).code 0 (some va) s (s.raised (addressError store) (some va)) :=
    addressError_unit store ▸ s.raised_exceptionTaken (addressError_isInt store) (some va)
  split
  case isTrue hkernel =>
    rw [if_pos hkernel] at translation
    exact ⟨_, hfirst _ (State.dataAddress_kernelAddress hh align store translation), error⟩
  case isFalse hkernel =>
    rw [if_neg hkernel] at translation
    split
    case isTrue hbound =>
      rw [if_pos hbound] at translation
      exact ⟨_, hfirst _ (State.dataAddress_outOfBounds hh align store translation),
        s.raised_exceptionTaken rfl (some va)⟩
    case isFalse hbound =>
      rw [if_neg hbound] at translation
      split
      case isTrue halign =>
        exact ⟨_, hfirst _ (State.dataAddress_misaligned hh align store translation halign), error⟩
      case isFalse halign => exact translation

end Sys2Proof.Machine

open Sys2Proof Sys2Proof.Machine

/-- Settles O45: every form asks for its address first. -/
theorem addressExceptions : Obligations.AddressExceptions := by
  intro s base r op offset hh va hva
  subst hva
  refine ⟨?forms, ?cache⟩
  case forms =>
    simp only [List.forall_mem_append, List.forall_mem_map]
    refine ⟨fun p hp may => ?load, ?store⟩
    case load => exact addressExceptions_of_addressFirst hh (addressFirst_of_loadForms s base r offset p hp may)
    case store =>
      rw [← List.forall_mem_append]
      exact fun p hp may =>
        addressExceptions_of_addressFirst hh (addressFirst_of_storeForms s base r offset p hp may)
  case cache =>
    intro usable
    have h := addressExceptions_of_addressFirst hh (addressFirst_of_cache usable base op offset)
    simp only [Nat.mod_one, ne_eq, not_true_eq_false, if_false] at h
    exact h

end

section
/-!
PROOF. Sys2Proof/Proofs/Encoding.lean: decoding an encoded instruction gives it back (30_encoding R255 to R264).
-/

namespace Sys2Proof

/-! ## Groups of the decoder -/

theorem decode_of_special {w : Word} (h : opOf w = 0#6) : decode w = decodeSpecial w := by
  simp [decode, h]

theorem decode_of_special2 {w : Word} (h : opOf w = 28#6) : decode w = decodeSpecial2 w := by
  simp [decode, h]

theorem decode_of_regimm {w : Word} (h : opOf w = 1#6) : decode w = decodeRegimm w := by
  simp [decode, h]

theorem decode_of_cop0 {w : Word} (h : opOf w = 16#6) : decode w = decodeCop0 w := by
  simp [decode, h]

theorem decode_of_cop1 {w : Word} (h : opOf w = 17#6) : decode w = decodeCop1 w := by
  simp [decode, h]

/-- COP0 words with bit 25 = 1 (R261). -/
theorem decode_of_cop0Co {w : Word} (hop : opOf w = 16#6) (hrs : rsOf w = 16#5) : decode w = decodeCop0Co w := by
  rw [decode_of_cop0 hop, decodeCop0, hrs]
  rfl

/-- COP1 R-type words of format S (R264). -/
theorem decode_of_cop1S {w : Word} (hop : opOf w = 17#6) (hrs : rsOf w = 16#5) : decode w = decodeCop1S w := by
  rw [decode_of_cop1 hop, decodeCop1, hrs]
  rfl

/-! ## Unassigned COP1 R-type words -/

/-- The functions of format S that no earlier row has. -/
theorem cop1Assigned_formatS_eq_false {fn : BitVec 6} (h : cop1Assigned 0 fn = false) :
    16 ≤ fn.toNat ∧ fn.toNat ≠ 33 ∧ fn.toNat ≠ 36 ∧ fn.toNat ≠ 37 ∧ fn.toNat < 48 := by
  revert fn
  decide

theorem decodeCop1S_unassigned {w : Word} (h : cop1Assigned 0 (fnOf w) = false) :
    decodeCop1S w = .ok (.cop1Other (fmtLowOf w) (rtOf w) (rdOf w) (saOf w) (fnOf w)) := by
  obtain ⟨low, h33, h36, h37, high⟩ := cop1Assigned_formatS_eq_false h
  unfold decodeCop1S
  split
  case h_36 => rfl
  all_goals omega

/-- The formats 17 to 31 but 20 have no assigned function. -/
theorem decodeCop1_otherFormat {w : Word} {fmtLow : BitVec 4} (hrs : rsOf w = 1#1 ++ fmtLow) (hs : fmtLow ≠ 0)
    (hw : fmtLow ≠ 4) :
    decodeCop1 w = .ok (.cop1Other (fmtLowOf w) (rtOf w) (rdOf w) (saOf w) (fnOf w)) := by
  have format : (rsOf w).msb = true ∧ 16 < (rsOf w).toNat ∧ (rsOf w).toNat ≠ 20 := by
    rw [hrs]
    clear hrs
    revert fmtLow
    decide
  obtain ⟨hmsb, hlow, h20⟩ := format
  unfold decodeCop1
  split
  case h_10 => rw [if_pos hmsb]
  all_goals omega

theorem decode_cop1Type {fmtLow : BitVec 4} {fn : BitVec 6} (h : cop1Assigned fmtLow fn = false) (ft fs fd : Reg) :
    decode (cop1Type fmtLow ft fs fd fn) = .ok (.cop1Other fmtLow ft fs fd fn) := by
  have hop : opOf (cop1Type fmtLow ft fs fd fn) = 17#6 := by simp
  by_cases hs : fmtLow = 0
  · subst hs
    have hrs : rsOf (cop1Type 0 ft fs fd fn) = 16#5 := by simp
    rw [decode_of_cop1S hop hrs, decodeCop1S_unassigned (by simpa using h)]
    simp
  · rw [decode_of_cop1 hop]
    by_cases hw : fmtLow = 4
    · subst hw
      have hfn : fn.toNat ≠ 32 := by
        rintro hfn
        have : fn = 32 := BitVec.eq_of_toNat_eq hfn
        subst this
        exact absurd h (by decide)
      have hrs : rsOf (cop1Type 4 ft fs fd fn) = 20#5 := by simp
      simp [decodeCop1, hfn]
    · rw [decodeCop1_otherFormat (fmtLow := fmtLow) (by simp) hs hw]
      simp

/-! ## Every instruction -/

/-- Decoding the word of a well-formed instruction gives the instruction back: in each group the fields of the word are those
it was built from. -/
theorem decode_encode (i : Instr) (h : i.WellFormed = true) : decode (encode i) = .ok i := by
  cases i with
  | lb | lh | lwl | lw | lbu | lhu | lwr | lwu | sb | sh | swl | sw | sdl | sdr | swr | ll | lld | ld | ldl | ldr | sc | scd
  | sd | cache | lwc1 | ldc1 | swc1 | sdc1 | lwc2 | ldc2 | swc2 | sdc2 | addi | addiu | slti | sltiu | andi | ori | xori
  | daddi | daddiu | lui | beq | bne | beql | bnel | blez | bgtz | blezl | bgtzl =>
    rw [encode, decode, opOf_iType, rsOf_iType, rtOf_iType, immOf_iType]
    rfl
  | j | jal | cop2 | cop3 =>
    rw [encode, decode, opOf_jType, targetOf_jType]
    rfl
  | add | addu | sub | subu | and | or | xor | nor | slt | sltu | dadd | daddu | dsub | dsubu | sllv | srlv | srav | dsllv
  | dsrlv | dsrav | sll | srl | sra | dsll | dsrl | dsra | dsll32 | dsrl32 | dsra32 | mult | multu | div | divu | dmult
  | dmultu | ddiv | ddivu | mfhi | mthi | mflo | mtlo | jr | jalr | sync =>
    rw [encode, decode_of_special (opOf_rType ..), decodeSpecial, fnOf_rType, rsOf_rType, rtOf_rType, rdOf_rType, saOf_rType]
    rfl
  | syscall | break_ =>
    rw [encode, decode_of_special (opOf_code20Type ..), decodeSpecial, fnOf_code20Type, code20Of_code20Type]
    rfl
  | tge | tgeu | tlt | tltu | teq | tne =>
    rw [encode, decode_of_special (opOf_code10Type ..), decodeSpecial, fnOf_code10Type, rsOf_code10Type, rtOf_code10Type,
      code10Of_code10Type]
    rfl
  | mad | madu | mul =>
    rw [encode, decode_of_special2 (opOf_rType ..), decodeSpecial2, fnOf_rType, rsOf_rType, rtOf_rType, rdOf_rType]
    rfl
  | bltz | bgez | bltzl | bgezl | bltzal | bgezal | bltzall | bgezall | tgei | tgeiu | tlti | tltiu | teqi | tnei =>
    rw [encode, decode_of_regimm (opOf_iType ..), decodeRegimm, rsOf_iType, rtOf_iType, immOf_iType]
    rfl
  | mfc0 | dmfc0 | mtc0 | dmtc0 =>
    rw [encode, decode_of_cop0 (opOf_rType ..), decodeCop0, rsOf_rType, rtOf_rType, rdOf_rType]
    rfl
  | eret | wait | tlbr | tlbwi | tlbwr | tlbp => rfl
  | bc1f | bc1t | bc1fl | bc1tl =>
    rw [encode, decode_of_cop1 (opOf_iType ..), decodeCop1, decodeBc1, rsOf_iType, rtOf_iType, immOf_iType]
    rfl
  | mfc1 | dmfc1 | cfc1 | mtc1 | dmtc1 | ctc1 | cvtSW =>
    rw [encode, decode_of_cop1 (opOf_rType ..), decodeCop1, rsOf_rType, fnOf_rType, rtOf_rType, rdOf_rType, saOf_rType]
    rfl
  | addS | subS | mulS | divS | sqrtS | absS | movS | negS | roundWS | truncWS | ceilWS | floorWS | cvtWS | roundLS | truncLS
  | ceilLS | floorLS | cvtDS | cvtLS | cFS | cUnS | cEqS | cUeqS | cOltS | cUltS | cOleS | cUleS | cSfS | cNgleS | cSeqS
  | cNglS | cLtS | cNgeS | cLeS | cNgtS =>
    rw [encode, decode_of_cop1S (opOf_rType ..) (rsOf_rType ..), decodeCop1S, fnOf_rType, rtOf_rType, rdOf_rType, saOf_rType]
    rfl
  | cop1Other fmtLow ft fs fd fn => exact decode_cop1Type (by simpa [Instr.WellFormed] using h) ft fs fd

end Sys2Proof
end

section
/-!
PROOF. Sys2Proof/Proofs/UncachedFetch.lean: the number that the bytes of a word stand for, and the step that fetches its
instruction from uncached RAM (20_memory R145, R154, R158, R162, R176).
-/

namespace Sys2Proof.Machine

/-! ## Bytes and numbers (20_memory R154) -/

theorem leNat_eq_littleNumber (bs : List Byte) : leNat bs = littleNumber bs := by
  induction bs with
  | nil => rfl
  | cons b bs ih => rw [leNat, ih]; rfl

theorem littleNumber_reverse (bs : List Byte) : littleNumber bs.reverse = bigNumber bs := by
  rw [littleNumber, bigNumber, List.foldr_reverse]
  congr 1
  funext v b
  omega

theorem fromBytes_eq (bigEndian : Bool) (bs : List Byte) :
    fromBytes bigEndian bs = if bigEndian then bigNumber bs else littleNumber bs := by
  cases bigEndian
  · exact leNat_eq_littleNumber bs
  · exact (leNat_eq_littleNumber bs.reverse).trans (littleNumber_reverse bs)

/-- Bytes in the byte order of memory stand for the number that the fetch makes of them. -/
theorem fromBytes_eq_memNumber (s : State) (bs : List Byte) : fromBytes s.boot.bigEndian bs = memNumber s bs :=
  fromBytes_eq _ bs

/-- The four bytes of a word are the word when the number they stand for is the word's. -/
theorem ofNat_fromBytes_of_memNumber {s : State} {bs : List Byte} {w : Word} (h : memNumber s bs = w.toNat) :
    BitVec.ofNat 32 (fromBytes s.boot.bigEndian bs) = w := by
  rw [fromBytes_eq_memNumber, h, BitVec.ofNat_toNat, BitVec.setWidth_eq]

theorem map_wordBytes (f : Nat → Byte) (pa : Word) :
    (wordBytes pa).map f = (List.range 4).map fun k => f (pa.toNat + k) := by
  rw [wordBytes, List.map_map]
  rfl

end Sys2Proof.Machine

open Sys2Proof Sys2Proof.Machine

/-- Settles O6: the fetch reads the word of `i` behind a single read of the bus, and decoding gives `i` back. -/
theorem stepFetchesUncached : Obligations.StepFetchesUncached := by
  intro s pa i hdue hram hwatch hwindow htranslate halign hwf hbytes
  have hword : BitVec.ofNat 32 (fromBytes s.boot.bigEndian ((wordBytes pa).map s.mem.get)) = encode i := by
    rw [map_wordBytes]
    exact ofNat_fromBytes_of_memNumber hbytes
  have hfetch : s.fetch = .ok (encode i) s.singleRead := by
    rw [State.fetch_uncached hwindow htranslate halign hwatch hram, hword]
  exact ⟨s.singleRead, rfl, stepRunsDecoded s s.singleRead (encode i) i hdue hfetch (decode_encode i hwf)⟩

end

section
/-!
PROOF. Sys2Proof/Proofs/FetchFrame.lean: what a fetch that gives a word leaves alone (20_memory R158, R162; 21_caches R220).
-/

namespace Sys2Proof.Machine

/-- The registers, coprocessor 0, the FPU, memory and its map are as before. -/
structure SameCore (s t : State) : Prop where
  gpr : t.gpr = s.gpr
  hi : t.hi = s.hi
  lo : t.lo = s.lo
  pc : t.pc = s.pc
  nextPc : t.nextPc = s.nextPc
  inDelaySlot : t.inDelaySlot = s.inDelaySlot
  cp0 : t.cp0 = s.cp0
  fpu : t.fpu = s.fpu
  mem : t.mem = s.mem
  platform : t.platform = s.platform

theorem SameCore.refl (s : State) : SameCore s s := ⟨rfl, rfl, rfl, rfl, rfl, rfl, rfl, rfl, rfl, rfl⟩

theorem SameCore.trans {s t u : State} (h : SameCore s t) (k : SameCore t u) : SameCore s u where
  gpr := k.gpr.trans h.gpr
  hi := k.hi.trans h.hi
  lo := k.lo.trans h.lo
  pc := k.pc.trans h.pc
  nextPc := k.nextPc.trans h.nextPc
  inDelaySlot := k.inDelaySlot.trans h.inDelaySlot
  cp0 := k.cp0.trans h.cp0
  fpu := k.fpu.trans h.fpu
  mem := k.mem.trans h.mem
  platform := k.platform.trans h.platform

theorem State.singleRead_sameCore (s : State) : SameCore s s.singleRead := ⟨rfl, rfl, rfl, rfl, rfl, rfl, rfl, rfl, rfl, rfl⟩

theorem State.iRefill_sameCore (s : State) (pa : Word) : SameCore s (s.iRefill pa) := by
  obtain ⟨gpr, hi, lo, pc, nextPc, slot, _, _, _, _, cp0, fpu, _, mem, _, _, _, platform, _⟩ := s.iRefill_frame pa
  exact ⟨gpr, hi, lo, pc, nextPc, slot, cp0, fpu, mem, platform⟩

theorem State.fetchAddress_ok {s t : State} {v : Word × BitVec 3} (h : s.fetchAddress = .ok v t) : t = s := by
  unfold State.fetchAddress at h
  split at h
  · cases h
  · split at h
    · cases h
    · cases h
    · split at h
      · cases h
      · cases h; rfl

/-- The IWatch check that lets the fetch go on can draw a free value or leave the match postponed. -/
theorem State.iwatchCheck_ok {s t : State} {v : Unit} (h : s.iwatchCheck = .ok v t) : SameCore s t := by
  unfold State.iwatchCheck at h
  have hd : SameCore s (if 0 < s.hazards.iwWindow then s.drawn else s) := by
    split
    · exact ⟨rfl, rfl, rfl, rfl, rfl, rfl, rfl, rfl, rfl, rfl⟩
    · exact SameCore.refl s
  revert hd h
  generalize (if 0 < s.hazards.iwWindow then s.drawn else s) = u
  intro h hd
  dsimp only at h
  split at h
  · split at h
    · cases h; exact hd
    · split at h
      · cases h
      · cases h; exact hd.trans ⟨rfl, rfl, rfl, rfl, rfl, rfl, rfl, rfl, rfl, rfl⟩
  · cases h; exact SameCore.refl s

theorem State.fetchUncached_ok {s t : State} {pa w : Word} (h : s.fetchUncached pa = .ok w t) : t = s.singleRead := by
  unfold State.fetchUncached at h
  dsimp only at h
  split at h
  · cases h
  · split at h
    · cases h
    · split at h
      · cases h
      · cases h; rfl

theorem State.fetchHit_ok {s t : State} {pa w : Word} {way : Way} (h : s.fetchHit pa way = .ok w t) : t = s := by
  unfold State.fetchHit at h
  dsimp only at h
  split at h
  · cases h
  · cases h; rfl

theorem State.fetchCached_ok {s t : State} {pa w : Word} (h : s.fetchCached pa = .ok w t) :
    t = s ∨ t = s.iRefill pa := by
  unfold State.fetchCached at h
  split at h
  · cases h
  · exact .inl (State.fetchHit_ok h)
  · dsimp only at h
    split at h
    · cases h
    · split at h
      · cases h
      · split at h
        · cases h
        · cases h; exact .inr rfl

/-- A fetch that gives a word changes no register and no byte of memory. -/
theorem State.fetch_ok {s t : State} {w : Word} (h : s.fetch = .ok w t) : SameCore s t := by
  obtain ⟨⟨pa, alg⟩, u, haddr, hrest⟩ := Access.bind_ok h
  obtain ⟨_, v, hwatch, hread⟩ := Access.bind_ok hrest
  obtain rfl := State.fetchAddress_ok haddr
  refine (State.iwatchCheck_ok hwatch).trans ?_
  split at hread
  · rw [State.fetchUncached_ok hread]
    exact v.singleRead_sameCore
  · split at hread
    · cases hread
    · rcases State.fetchCached_ok hread with rfl | rfl
      · exact SameCore.refl _
      · exact v.iRefill_sameCore pa

end Sys2Proof.Machine
end

section
/-!
PROOF. Sys2Proof/Proofs/InterruptedBus.lean: what a reset that interrupts the bus leaves alone: everything but the bytes of
the lost writes and the lines in transit (20_memory R175 to R179; 60_exceptions R675; 93_implementation_defined U27; log 20).
-/

namespace Sys2Proof.Machine

/-! ## The lines of the caches -/

theorem DCache.line_setLine_ne (c : DCache) (w : Way) (i : BitVec 7) (l : DLine) {v : Way} {j : BitVec 7}
    (h : ¬(v = w ∧ j = i)) : (c.setLine w i l).line v j = c.line v j := by
  cases v <;> cases w
  case a.b => rfl
  case b.a => rfl
  all_goals
    have hij : i.toNat ≠ j.toNat := fun e => h ⟨rfl, (BitVec.eq_of_toNat_eq e).symm⟩
    exact Vector.getElem_set_ne i.isLt j.isLt hij

theorem State.loseLine_icache_of_data (s : State) {l : LineRef} (h : l.instr = false) :
    (s.loseLine l).icache = s.icache := by
  simp [State.loseLine, h, State.setDLine]

theorem State.loseLine_dcache_line (s : State) {l : LineRef} {v : Way} {j : BitVec 7}
    (h : ¬(v = l.way ∧ j = l.index)) : (s.loseLine l).dcache.line v j = s.dcache.line v j := by
  unfold State.loseLine
  dsimp only
  split
  · rfl
  · exact DCache.line_setLine_ne _ _ _ _ h

/-! ## One byte lost -/

theorem State.loseByte_mem_get (s : State) {x : Word} {a : Nat} (h : x.toNat ≠ a) :
    (s.loseByte x).mem.get a = s.mem.get a := by
  change (writeByte s.platform s.mem x.toNat (s.free 8)).get a = s.mem.get a
  unfold writeByte
  split
  · exact Memory.get_set_ne _ _ (Ne.symm h)
  · rfl

/-! ## The bus interrupted -/

theorem foldl_keeps {α β : Type} {f : State → β} {g : State → α → State} {xs : List α}
    (h : ∀ x ∈ xs, ∀ s, f (g s x) = f s) (s : State) : f (xs.foldl g s) = f s := by
  induction xs generalizing s with
  | nil => rfl
  | cons x xs ih => exact (ih (fun y hy => h y (by simp [hy])) _).trans (h x (by simp) s)

/-- What neither a lost byte, nor a lost line, nor the record of the bus touches is as before. -/
theorem State.interruptBus_keeps {β : Type} {f : State → β} {s : State} {lost : Nat}
    (hline : ∀ l ∈ s.bus.lines, ∀ t, f (t.loseLine l) = f t)
    (hbyte : ∀ x ∈ (s.bus.writes.take lost).flatMap (·.bytes), ∀ t, f (t.loseByte x) = f t)
    (hbus : ∀ t b, f { t with bus := b } = f t) : f (s.interruptBus lost) = f s :=
  (hbus _ _).trans ((foldl_keeps hbyte _).trans (foldl_keeps hline s))

section Registers
variable (s : State) (lost : Nat)

@[simp] theorem State.interruptBus_bus : (s.interruptBus lost).bus = Bus.reset := rfl
@[simp] theorem State.interruptBus_gpr : (s.interruptBus lost).gpr = s.gpr :=
  State.interruptBus_keeps (fun l _ t => t.loseLine_gpr l) (fun x _ t => t.loseByte_gpr x) fun _ _ => rfl
@[simp] theorem State.interruptBus_hi : (s.interruptBus lost).hi = s.hi :=
  State.interruptBus_keeps (fun l _ t => t.loseLine_hi l) (fun x _ t => t.loseByte_hi x) fun _ _ => rfl
@[simp] theorem State.interruptBus_lo : (s.interruptBus lost).lo = s.lo :=
  State.interruptBus_keeps (fun l _ t => t.loseLine_lo l) (fun x _ t => t.loseByte_lo x) fun _ _ => rfl
@[simp] theorem State.interruptBus_pc : (s.interruptBus lost).pc = s.pc :=
  State.interruptBus_keeps (fun l _ t => t.loseLine_pc l) (fun x _ t => t.loseByte_pc x) fun _ _ => rfl
@[simp] theorem State.interruptBus_inDelaySlot : (s.interruptBus lost).inDelaySlot = s.inDelaySlot :=
  State.interruptBus_keeps (fun l _ t => t.loseLine_inDelaySlot l) (fun x _ t => t.loseByte_inDelaySlot x) fun _ _ => rfl
@[simp] theorem State.interruptBus_cp0 : (s.interruptBus lost).cp0 = s.cp0 :=
  State.interruptBus_keeps (fun l _ t => t.loseLine_cp0 l) (fun x _ t => t.loseByte_cp0 x) fun _ _ => rfl
@[simp] theorem State.interruptBus_fpu : (s.interruptBus lost).fpu = s.fpu :=
  State.interruptBus_keeps (fun l _ t => t.loseLine_fpu l) (fun x _ t => t.loseByte_fpu x) fun _ _ => rfl

end Registers

theorem State.interruptBus_icache_of_data {s : State} {lost : Nat} (h : ∀ l ∈ s.bus.lines, l.instr = false) :
    (s.interruptBus lost).icache = s.icache :=
  State.interruptBus_keeps (fun l hl t => t.loseLine_icache_of_data (h l hl)) (fun x _ t => t.loseByte_icache x)
    fun _ _ => rfl

theorem State.interruptBus_sameCaches {s : State} {lost : Nat} (h : s.bus.lines = []) :
    SameCaches s (s.interruptBus lost) := by
  refine ⟨State.interruptBus_icache_of_data (by simp [h]), ?_⟩
  exact State.interruptBus_keeps (by simp [h]) (fun x _ t => t.loseByte_dcache x) fun _ _ => rfl

theorem State.interruptBus_sameDLinesBut {s : State} {lost : Nat} {w : Way} {i : BitVec 7}
    (h : ∀ l ∈ s.bus.lines, l.way = w ∧ l.index = i) : SameDLinesBut w i s (s.interruptBus lost) := by
  intro v j hvj
  refine State.interruptBus_keeps (f := fun t => t.dcache.line v j) (fun l hl t => t.loseLine_dcache_line ?_)
    (fun x _ t => congrArg (·.line v j) (t.loseByte_dcache x)) fun _ _ => rfl
  rwa [(h l hl).1, (h l hl).2]

/-- Of memory an interrupted bus can change the bytes of the lost writes alone. -/
theorem State.interruptBus_sameBytesBut (s : State) (lost : Nat) :
    SameBytesBut (lostBytes (s.bus.writes.take lost)) s (s.interruptBus lost) := by
  intro a ha
  refine State.interruptBus_keeps (f := fun t => t.mem.get a)
    (fun l _ t => congrArg (Memory.get · a) (t.loseLine_mem l)) (fun x hx t => t.loseByte_mem_get ?_) fun _ _ => rfl
  rintro rfl
  obtain ⟨w, hw, hxw⟩ := List.mem_flatMap.mp hx
  exact ha (List.mem_flatMap.mpr ⟨w, hw, List.mem_map_of_mem hxw⟩)

/-! ## The bytes that writes target -/

theorem lostBytes_cons (w : BufferedWrite) (ws : List BufferedWrite) :
    lostBytes (w :: ws) = w.bytes.map (·.toNat) ++ lostBytes ws := by
  simp [lostBytes]

theorem lostBytes_append (xs ys : List BufferedWrite) : lostBytes (xs ++ ys) = lostBytes xs ++ lostBytes ys := by
  simp [lostBytes]

theorem mem_lostBytes_of_take {a n : Nat} {ws : List BufferedWrite} (h : a ∈ lostBytes (ws.take n)) :
    a ∈ lostBytes ws := by
  obtain ⟨w, hw, ha⟩ := List.mem_flatMap.mp h
  exact List.mem_flatMap.mpr ⟨w, List.mem_of_mem_take hw, ha⟩

/-- A buffered store targets the physical addresses it was made from. -/
theorem bufferedStore_bytes (region : BitVec 3) {xs : List Nat} (h : ∀ x ∈ xs, x < 2 ^ 32) :
    (bufferedStore region xs).bytes.map (·.toNat) = xs := by
  simp only [bufferedStore, List.map_map]
  refine (List.map_congr_left fun x hx => ?_).trans (List.map_id xs)
  exact (BitVec.toNat_ofNat _ _).trans (Nat.mod_eq_of_lt (h x hx))

/-- A written-back line targets the bytes of that line. -/
theorem mem_lineBytes_of_bufferedLine {base a : Nat} (hb : base ≤ 2 ^ 32 - 32)
    (h : a ∈ lostBytes (bufferedLine base)) : a ∈ lineBytes base := by
  simp only [lostBytes, bufferedLine, List.mem_flatMap, List.mem_map, List.mem_range, exists_exists_and_eq_and] at h
  obtain ⟨k, hk, j, hj, rfl⟩ := h
  have hk24 : k ≤ 24 := by
    simp only [List.mem_cons, List.not_mem_nil, or_false] at hk
    omega
  rw [BitVec.toNat_ofNat, Nat.mod_eq_of_lt (by omega), lineBytes, List.mem_map]
  exact ⟨k + j, List.mem_range.mpr (by omega), by omega⟩

end Sys2Proof.Machine
end

section
/-!
PROOF. Sys2Proof/Proofs/BusTraffic.lean: what SW and LW do to the record of the bus, in uncached RAM and on a miss of the data
cache (20_memory R175 to R179; 21_caches R212, R214).
-/

namespace Sys2Proof.Machine

/-! ## Cached accesses to RAM -/

theorem calgReserved_of_cached {alg : BitVec 3} (h : alg = 0 ∨ alg = 1 ∨ alg = 3) : calgReserved alg = false := by
  rcases h with rfl | rfl | rfl <;> rfl

theorem ne_two_of_cached {alg : BitVec 3} (h : alg = 0 ∨ alg = 1 ∨ alg = 3) : alg ≠ 2#3 := by
  rcases h with rfl | rfl | rfl <;> decide

/-- A plain cached access to RAM is ready when its line is there, behind a refill where it needs one (21_caches R212 to
R214). -/
theorem State.dataReady_cached {s : State} {va : DWord} {pa : Word} {alg : BitVec 3} {store : Bool} (xs : List Nat)
    (h : CachedRam s va pa alg store) :
    s.dataReady va pa alg xs store = .ok () (if s.needsRefill pa alg store then s.dRefill pa else s) := by
  obtain ⟨_, halg, hquiet, hde, hboth⟩ := h
  obtain ⟨hunsure, hnoticed⟩ := State.dwatch_quiet hquiet
  obtain ⟨_, _, _, hram, _⟩ := hquiet
  have hparity : s.dataParityError va pa alg xs store = none := by simp [State.dataParityError, hde]
  have herror : s.busError (s.firstElement xs) = false := (State.bus_ram hram).2.2 _
  have hrefilled : s.dataRefilled pa alg xs store false =
      .ok () (if s.needsRefill pa alg store then s.dRefill pa else s) := by
    cases hneeds : s.needsRefill pa alg store <;>
      simp [State.dataRefilled, State.busHangs_ram hram, herror, ne_two_of_cached halg, hneeds]
  simp [State.dataReady, hunsure, hnoticed, calgReserved_of_cached halg, hboth, hparity, hrefilled]

theorem State.needsRefill_load {s : State} {pa : Word} {alg : BitVec 3} (halg : alg = 0 ∨ alg = 1 ∨ alg = 3)
    (hmiss : s.dcache.lookup pa = .miss) : s.needsRefill pa alg false = true := by
  simpa [State.needsRefill, hmiss] using ne_two_of_cached halg

/-- A plain cached load reads its bytes behind the refill that it needs on a miss. -/
theorem State.load_cached_miss {s : State} {va : DWord} {pa : Word} {alg : BitVec 3} {n : Nat}
    (h : CachedRam s va pa alg false) (ha : va.toNat % n = 0) (hmiss : s.dcache.lookup pa = .miss) :
    s.load (aligned va n) =
      .ok ((s.dRefill pa).readBytes pa alg (byteAddrs s pa n), pa, alg) (s.dRefill pa) := by
  have hready := State.dataReady_cached (byteAddrs s pa n) h
  obtain ⟨hmap, halg, ⟨htrans, hwindow, _⟩, _⟩ := h
  have haddr := State.dataAddress_of (align := n) false ⟨htrans, hwindow⟩ hmap ha
  have hspan := physical_aligned s va n pa
  simp only [State.load, aligned] at haddr hspan ⊢
  rw [haddr, Access.bind_of_ok]
  simp only [hspan, hready, State.needsRefill_load halg hmiss, if_true, Access.bind_of_ok, State.afterRead]
  have htwo : ¬alg = 2 := ne_two_of_cached halg
  rw [if_neg htwo]

/-! ## The record of the bus -/

/-- A refill drains the buffer, and then the four writes of a dirty victim stand in it; the line is in transit (20_memory R176,
R177). -/
theorem State.dRefill_bus (s : State) (pa : Word) {x : BitVec 7} {v : Way} {old : DLine} (hx : x = lineIndex pa)
    (hv : v = s.dVictim x) (hold : old = s.dcache.line v x) :
    (s.dRefill pa).bus =
      { writes := if old.dirty then bufferedLine (lineBase old.tag x) else []
        lines := { instr := false, way := v, index := x } :: s.bus.lines } := by
  subst hx hv hold
  change (State.evict _ _ _).bus = _
  unfold State.evict
  change (if (s.dcache.line _ _).dirty then _ else _ : State).bus = _
  split
  · rfl
  · rfl

theorem byteAddrs_lt (s : State) (pa : Word) (n : Nat) : ∀ x ∈ byteAddrs s pa n, x < 2 ^ 32 := by
  intro x hx
  obtain ⟨k, _, rfl⟩ := List.mem_map.mp hx
  exact BitVec.isLt _

theorem byteAddrs_congr {s t : State} (h : t.cp0 = s.cp0) (pa : Word) (n : Nat) : byteAddrs t pa n = byteAddrs s pa n := by
  simp [byteAddrs, byteAddr, State.userMode, h]

theorem toBytes_length (bigEndian : Bool) (n v : Nat) : (toBytes bigEndian n v).length = n := by
  have hle : ∀ n v : Nat, (leBytes n v).length = n := by
    intro n
    induction n with
    | zero => intro v; rfl
    | succ n ih => intro v; simp [leBytes, ih]
  cases bigEndian <;> simp [toBytes, hle]

section Words
variable {s : State} {base rt : Reg} {offset : BitVec 16} {pa : Word} (ha : (s.ea base offset).toNat % 4 = 0)
include ha

/-- A store of a word to uncached RAM enters the write buffer as its youngest write (20_memory R175, R179). -/
theorem exec_sw_bus (h : UncachedRam s (s.ea base offset) pa true) :
    ∃ t, exec (.sw base rt offset) s = .next t ∧
      t.bus = { s.bus with
        writes := (bufferedStore (regionOf (s.ea base offset)) (byteAddrs s pa 4) :: s.bus.writes).take 4 } := by
  have hfst : ((byteAddrs s pa 4).zip (toBytes s.bigEndianCpu 4 (s.reg rt).toNat)).map Prod.fst = byteAddrs s pa 4 :=
    List.map_fst_zip (by simp [toBytes_length, byteAddrs])
  change ∃ t, s.storeAligned 4 (s.reg rt).toNat base offset = .next t ∧ _
  rw [State.storeAligned, State.store_uncached _ h ha, hfst, Access.finish_of_ok]
  exact ⟨_, rfl, rfl⟩

/-- A load of a word from uncached RAM drains the write buffer (20_memory R176). -/
theorem exec_lw_bus_uncached (h : UncachedRam s (s.ea base offset) pa false) :
    ∃ t, exec (.lw base rt offset) s = .next t ∧ t.bus = { s.bus with writes := [] } := by
  change ∃ t, s.loadAligned 4 true base rt offset = .next t ∧ _
  rw [State.loadAligned, State.load_uncached h ha, Access.finish_of_ok]
  exact ⟨_, rfl, State.setReg_bus _ _ _⟩

/-- A load of a word that misses leaves on the bus what its refill does. -/
theorem exec_lw_bus_miss {alg : BitVec 3} (h : CachedRam s (s.ea base offset) pa alg false)
    (hmiss : s.dcache.lookup pa = .miss) :
    ∃ t, exec (.lw base rt offset) s = .next t ∧ t.bus = (s.dRefill pa).bus := by
  change ∃ t, s.loadAligned 4 true base rt offset = .next t ∧ _
  rw [State.loadAligned, State.load_cached_miss h ha hmiss, Access.finish_of_ok]
  exact ⟨_, rfl, State.setReg_bus _ _ _⟩

end Words

end Sys2Proof.Machine
end

section
/-!
PROOF. Sys2Proof/Proofs/ResetCutsShort.lean: a warm reset in the middle of an instruction, and the bytes it can change
(20_memory R175 to R179; 60_exceptions R675, R676; 70_reset_and_hazards R744; 93_implementation_defined U27; log 20).
-/

namespace Sys2Proof.Machine

/-! ## The step that a warm reset cuts short -/

theorem State.answering_of_ram {s : State} (h : s.platform = []) : s.answering = s := by
  cases s
  simp_all [State.answering]

/-- The machine as a reset finds it that cuts `i` short behind a fetch that left `s1`: the registers of `s1`, and the bus of
`i`. -/
def State.cutIn (s1 : State) (i : Instr) : State := s1.settled.withBusOf (nextOr (exec i s1.settled) s1.settled)

/-- A reset in the execution phase finds the instruction's registers as the fetch left them and its bus traffic begun. -/
theorem State.cutShort_execution {s s1 : State} {w : Word} {i : Instr} {r : ResetRequest}
    (hdue : NothingDue { s.settled with inputs := [] }) (hram : s.platform = []) (hfetch : s.settled.fetch = .ok w s1)
    (hdecode : decode w = .ok i) : s.cutShort (onlyReset r) .execution = .ok (s1.cutIn i) := by
  obtain ⟨_, hstandby, hnmi, hwatch, hint⟩ := hdue
  have hbegun : s.settled.begun false = .ok w s1 :=
    (State.begun_eq_boundary (s := s.settled) hstandby).trans
      ((State.boundary_eq_fetch (s := s.settled) hnmi hwatch hint).trans hfetch)
  have hram1 : s1.settled.platform = [] := (State.fetch_ok hfetch).platform.trans hram
  change (match (s.settled.begun false).deliver [] with
    | .ok w t => Except.ok (t.settled.withBusOf (nextOr (t.settled.answering.execWord w) t.settled))
    | .trap t => .ok t.settled
    | .fault _ => .ok (s.settled.withBusOf ((s.settled.answering.begun false).stateOr s.settled))
    | .refused q => .error q) = _
  rw [hbegun, Access.deliver_nil]
  simp only [State.answering_of_ram hram1, State.execWord_of_decode_ok hdecode, State.cutIn]

/-- A step in which nothing arrives but a warm reset in the execution phase. -/
theorem step_warmReset_execution {s s1 : State} {lost : Nat} {rest : List Arrivals} {w : Word} {i : Instr}
    (hinputs : s.inputs = onlyReset { kind := .warm, phase := .execution, lost := lost } :: rest)
    (hram : s.platform = [])
    (hdue : NothingDue { s with inputs := [], bus := { s.bus with lines := [] } })
    (hfetch : State.fetch { s with inputs := rest, bus := { s.bus with lines := [] } } = .ok w s1)
    (hdecode : decode w = .ok i) : step s = .next ((s1.cutIn i).interruptBus lost).warmReset := by
  have hcut := State.cutShort_execution (s := { s with inputs := rest })
    (r := { kind := .warm, phase := .execution, lost := lost }) hdue hram hfetch hdecode
  simp only [step, State.run, State.arrivals, hinputs, List.headD_cons, List.tail_cons]
  change (match State.cutShort { s with inputs := rest } _ _ with
    | .error q => Host.Outcome.refused q
    | .ok u => u.takeReset _) = _
  rw [hcut]
  rfl

/-! ## What the reset can change -/

section Registers
variable {s s1 : State} (lost : Nat) (hcore : SameCore s s1) (i : Instr)
include hcore

theorem cutIn_gpr : ((s1.cutIn i).interruptBus lost).warmReset.gpr = s.gpr :=
  (State.interruptBus_gpr _ _).trans hcore.gpr

theorem cutIn_hiLo : SameHiLo s ((s1.cutIn i).interruptBus lost).warmReset :=
  ⟨(State.interruptBus_hi _ _).trans hcore.hi, (State.interruptBus_lo _ _).trans hcore.lo⟩

theorem cutIn_fpu : ((s1.cutIn i).interruptBus lost).warmReset.fpu = s.fpu :=
  (State.interruptBus_fpu _ _).trans hcore.fpu

/-- The reset leaves the restart address in ErrorEPC and sets BEV, SR and ERL (60_exceptions R675, R676). -/
theorem cutIn_cp0 : ((s1.cutIn i).interruptBus lost).warmReset.cp0 = { s.cp0 with
    errorEpc := if s.inDelaySlot then s.pc - 4 else s.pc
    status := { s.cp0.status with bev := true, sr := true, erl := true } } := by
  change ((s1.cutIn i).interruptBus lost).softReset.cp0 = _
  simp [State.softReset, State.restartPc, State.cutIn, State.settled, hcore.cp0, hcore.pc, hcore.inDelaySlot]

end Registers

/-- Memory behind the reset differs from memory before the instruction in the bytes of the interrupted writes alone. -/
theorem State.cutIn_sameBytesBut {s s1 : State} (i : Instr) (lost : Nat) {xs : List Nat} (hcore : SameCore s s1)
    (hxs : ∀ a ∈ lostBytes (s1.cutIn i).bus.writes, a ∈ xs) :
    SameBytesBut xs s ((s1.cutIn i).interruptBus lost).warmReset := by
  intro a ha
  have hkept := State.interruptBus_sameBytesBut (s1.cutIn i) lost a fun h => ha (hxs a (mem_lostBytes_of_take h))
  exact hkept.trans (congrArg (·.get a) hcore.mem)

theorem State.cutIn_bus {s1 t : State} {i : Instr} (h : exec i s1.settled = .next t) :
    (s1.cutIn i).bus = { writes := t.bus.writes ++ s1.bus.writes, lines := t.bus.lines } := by
  rw [State.cutIn, h]
  rfl

theorem SameCore.ea {s s1 : State} (h : SameCore s s1) (base : Reg) (offset : BitVec 16) :
    s1.settled.ea base offset = s.ea base offset :=
  congrArg (· + sextImm offset) (State.reg_congr h.gpr base)

section Word
variable {s s1 : State} (lost : Nat) {base rt : Reg} {offset : BitVec 16} {pa : Word} (hcore : SameCore s s1)
  (ha : (s.ea base offset).toNat % 4 = 0)
include hcore ha

/-- A store of a word to uncached RAM that is cut short can change its own bytes and those of the buffered writes. -/
theorem cutIn_sw (h : UncachedRam s1 (s.ea base offset) pa true) :
    SameCaches s1 ((s1.cutIn (.sw base rt offset)).interruptBus lost).warmReset ∧
      SameBytesBut (byteAddrs s pa 4 ++ lostBytes s1.bus.writes) s
        ((s1.cutIn (.sw base rt offset)).interruptBus lost).warmReset := by
  rw [← hcore.ea] at h ha
  obtain ⟨t, hexec, hbus⟩ := exec_sw_bus (s := s1.settled) (rt := rt) ha h
  have hcut := State.cutIn_bus hexec
  rw [hbus] at hcut
  refine ⟨State.interruptBus_sameCaches (by rw [hcut]; rfl), State.cutIn_sameBytesBut _ lost hcore fun a hmem => ?_⟩
  rw [hcut, lostBytes_append, List.mem_append] at hmem
  refine List.mem_append.mpr (hmem.elim (fun hyoung => ?_) .inr)
  have hstore := mem_lostBytes_of_take hyoung
  rw [lostBytes_cons, bufferedStore_bytes _ (byteAddrs_lt _ _ _), List.mem_append] at hstore
  exact hstore.imp_left fun hown => byteAddrs_congr (t := s1.settled) hcore.cp0 pa 4 ▸ hown

/-- A load of a word that misses and is cut short can change its line in refill, and the bytes of a dirty victim and of the
buffered writes. -/
theorem cutIn_lw {alg : BitVec 3} {x : BitVec 7} {v : Way} {old : DLine}
    (h : CachedRam s1 (s.ea base offset) pa alg false) (hmiss : s1.dcache.lookup pa = .miss) (hx : x = lineIndex pa)
    (hv : v = s1.dVictim x) (hold : old = s1.dcache.line v x) :
    ((s1.cutIn (.lw base rt offset)).interruptBus lost).warmReset.icache = s1.icache ∧
      SameDLinesBut v x s1 ((s1.cutIn (.lw base rt offset)).interruptBus lost).warmReset ∧
      SameBytesBut (lostBytes s1.bus.writes ++ (if old.dirty then lineBytes (lineBase old.tag x) else [])) s
        ((s1.cutIn (.lw base rt offset)).interruptBus lost).warmReset := by
  rw [← hcore.ea] at h ha
  obtain ⟨t, hexec, hbus⟩ := exec_lw_bus_miss (s := s1.settled) (rt := rt) ha h hmiss
  rw [State.dRefill_bus s1.settled pa hx hv hold] at hbus
  have hcut := State.cutIn_bus hexec
  rw [hbus] at hcut
  have hlines : (s1.cutIn (.lw base rt offset)).bus.lines = [{ instr := false, way := v, index := x }] := by
    rw [hcut]
    rfl
  refine ⟨State.interruptBus_icache_of_data (by simp [hlines]), State.interruptBus_sameDLinesBut (by simp [hlines]),
    State.cutIn_sameBytesBut _ lost hcore fun a hmem => ?_⟩
  rw [hcut, lostBytes_append, List.mem_append] at hmem
  refine List.mem_append.mpr (hmem.symm.imp_right fun hvictim => ?_)
  split at hvictim
  next hdirty =>
    rw [if_pos hdirty]
    exact mem_lineBytes_of_bufferedLine (lineBase_le _ _) hvictim
  next => cases hvictim

end Word

/-! ## The write buffer -/

theorem regionOf_eq (va : DWord) : regionOf va = va.extractLsb' 29 3 := low32_extractLsb' va (by decide)

/-- A store of a word to uncached RAM is the youngest of at most four buffered writes (20_memory R175, R179). -/
theorem exec_sw_buffered {s : State} {base rt : Reg} {offset : BitVec 16} {pa : Word}
    (ha : (s.ea base offset).toNat % 4 = 0) (h : UncachedRam s (s.ea base offset) pa true) :
    ∃ t w, exec (.sw base rt offset) s = .next t ∧ t.bus.writes = (w :: s.bus.writes).take 4 ∧
      w.bytes.map (·.toNat) = byteAddrs s pa 4 ∧ w.region = some ((s.ea base offset).extractLsb' 29 3) := by
  obtain ⟨t, hexec, hbus⟩ := exec_sw_bus (rt := rt) ha h
  exact ⟨t, _, hexec, congrArg Bus.writes hbus, bufferedStore_bytes _ (byteAddrs_lt s pa 4),
    congrArg some (regionOf_eq _)⟩

end Sys2Proof.Machine

open Sys2Proof Sys2Proof.Machine

/-- Settles O16: the reset finds the registers as the fetch left them and the bus traffic of the instruction begun
(`step_warmReset_execution`); what it can change is read off that traffic (`cutIn_sw`, `cutIn_lw`). -/
theorem resetCutsShort : Obligations.ResetCutsShort := by
  refine ⟨fun s base rt offset pa ha => ⟨exec_sw_buffered ha, fun h => ?_⟩, ?_⟩
  · obtain ⟨t, hexec, hbus⟩ := exec_lw_bus_uncached (rt := rt) ha h
    exact ⟨t, hexec, congrArg Bus.writes hbus⟩
  · intro s s0 s1 lost rest w i hinputs hram hs0 hdue hfetch hdecode
    subst hs0
    have hcore : SameCore s s1 := by
      obtain ⟨gpr, hi, lo, pc, nextPc, slot, cp0, fpu, mem, platform⟩ := State.fetch_ok hfetch
      exact ⟨gpr, hi, lo, pc, nextPc, slot, cp0, fpu, mem, platform⟩
    refine ⟨_, step_warmReset_execution hinputs hram hdue hfetch hdecode, rfl, rfl, rfl, cutIn_cp0 lost hcore i,
      State.reg_congr (cutIn_gpr lost hcore i), cutIn_hiLo lost hcore i, cutIn_fpu lost hcore i, rfl, ?_⟩
    intro base rt offset pa ha
    refine ⟨?_, ?_⟩
    · rintro rfl h
      exact cutIn_sw lost hcore ha h
    · rintro alg x v old rfl h hmiss hx hv hold
      exact cutIn_lw lost hcore ha h hmiss hx hv hold

end

section
/-!
PROOF. Sys2Proof/Proofs/CacheLines.lean: the lines of both caches after one of them is written, lookup as a statement about
the lines, the addresses of a line, and the victim (21_caches R200, R207, R208, R215).
-/

namespace Sys2Proof.Machine

/-! ## A line read after a write -/

@[simp] theorem DCache.line_setLine_self (c : DCache) (w : Way) (i : BitVec 7) (l : DLine) :
    (c.setLine w i l).line w i = l := by
  cases w <;> exact Vector.getElem_set_self i.isLt

@[simp] theorem ICache.line_setLine_self (c : ICache) (w : Way) (i : BitVec 7) (l : ILine) :
    (c.setLine w i l).line w i = l := by
  cases w <;> exact Vector.getElem_set_self i.isLt

theorem ICache.line_setLine_ne (c : ICache) (w : Way) (i : BitVec 7) (l : ILine) {v : Way} {j : BitVec 7}
    (h : ¬(v = w ∧ j = i)) : (c.setLine w i l).line v j = c.line v j := by
  cases v <;> cases w
  case a.b => rfl
  case b.a => rfl
  all_goals
    have hij : i.toNat ≠ j.toNat := fun e => h ⟨rfl, (BitVec.eq_of_toNat_eq e).symm⟩
    exact Vector.getElem_set_ne i.isLt j.isLt hij

section Replaced
variable (s : State) (w : Way) (i : BitVec 7)

theorem State.setDLine_line (l : DLine) : (s.setDLine w i l).dcache.line w i = l := DCache.line_setLine_self _ w i l

theorem State.setILine_line (l : ILine) : (s.setILine w i l).icache.line w i = l := ICache.line_setLine_self _ w i l

theorem State.setDLine_sameDLinesBut (l : DLine) : SameDLinesBut w i s (s.setDLine w i l) :=
  fun _ _ h => DCache.line_setLine_ne _ _ _ _ h

theorem State.setILine_sameILinesBut (l : ILine) : SameILinesBut w i s (s.setILine w i l) :=
  fun _ _ h => ICache.line_setLine_ne _ _ _ _ h

end Replaced

/-! ## A line installed by a refill -/

section Fifo
variable (s : State) (w : Way) (i : BitVec 7)

theorem State.setDFifo_line_a : (s.setDFifo w i).dcache.line .a i = { s.dcache.line .a i with f := w == .a } :=
  DCache.line_setLine_self s.dcache .a i { s.dcache.line .a i with f := w == .a }

theorem State.setDFifo_line_ne {v : Way} {j : BitVec 7} (h : ¬(v = .a ∧ j = i)) :
    (s.setDFifo w i).dcache.line v j = s.dcache.line v j := DCache.line_setLine_ne _ _ _ _ h

theorem State.setIFifo_line_a : (s.setIFifo w i).icache.line .a i = { s.icache.line .a i with f := w == .a } :=
  ICache.line_setLine_self s.icache .a i { s.icache.line .a i with f := w == .a }

theorem State.setIFifo_line_ne {v : Way} {j : BitVec 7} (h : ¬(v = .a ∧ j = i)) :
    (s.setIFifo w i).icache.line v j = s.icache.line v j := ICache.line_setLine_ne _ _ _ _ h

end Fifo

section Installed
variable {s u : State} (w : Way) (i : BitVec 7)

/-- A refilled line of way A has its F bit set (R208; log 21). -/
theorem State.installD_line (l : DLine) :
    ((u.setDLine w i l).setDFifo w i).dcache.line w i = { l with f := w == .a || l.f } := by
  cases w with
  | a => rw [State.setDFifo_line_a, State.setDLine_line]; rfl
  | b => rw [State.setDFifo_line_ne _ _ _ (by simp), State.setDLine_line]; rfl

theorem State.installI_line (l : ILine) :
    ((u.setILine w i l).setIFifo w i).icache.line w i = { l with f := w == .a || l.f } := by
  cases w with
  | a => rw [State.setIFifo_line_a, State.setILine_line]; rfl
  | b => rw [State.setIFifo_line_ne _ _ _ (by simp), State.setILine_line]; rfl

theorem State.installD_refillsD (h : u.dcache = s.dcache) (l : DLine) :
    RefillsD w i s ((u.setDLine w i l).setDFifo w i) := by
  have kept : SameDLinesBut w i s (u.setDLine w i l) := fun v j hvj => by
    rw [State.setDLine_sameDLinesBut u w i l v j hvj, h]
  refine ⟨fun v j hj => ?_, ?_, fun v hv => ?_⟩
  · rw [State.setDFifo_line_ne _ _ _ fun e => hj e.2, kept v j fun e => hj e.2]
  · rw [State.setDFifo_line_a]
  · cases v with
    | a => rw [State.setDFifo_line_a, kept _ _ fun e => hv e.1]
    | b => rw [State.setDFifo_line_ne _ _ _ (by simp), kept _ _ fun e => hv e.1]

theorem State.installI_refillsI (h : u.icache = s.icache) (l : ILine) :
    RefillsI w i s ((u.setILine w i l).setIFifo w i) := by
  have kept : SameILinesBut w i s (u.setILine w i l) := fun v j hvj => by
    rw [State.setILine_sameILinesBut u w i l v j hvj, h]
  refine ⟨fun v j hj => ?_, ?_, fun v hv => ?_⟩
  · rw [State.setIFifo_line_ne _ _ _ fun e => hj e.2, kept v j fun e => hj e.2]
  · rw [State.setIFifo_line_a]
  · cases v with
    | a => rw [State.setIFifo_line_a, kept _ _ fun e => hv e.1]
    | b => rw [State.setIFifo_line_ne _ _ _ (by simp), kept _ _ fun e => hv e.1]

end Installed

/-! ## Lookup (R207) -/

/-- The valid line `l` holds the tag of `pa`. -/
def DLine.Holds (l : DLine) (pa : Word) : Prop := l.valid = true ∧ l.tag = lineTag pa

/-- The valid instruction-cache line `l` holds the tag of `pa`. -/
def ILine.Holds (l : ILine) (pa : Word) : Prop := l.valid = true ∧ l.tag = lineTag pa

theorem lookupOf_eq_hit (f : Way → Bool) (w : Way) :
    lookupOf (f .a) (f .b) = .hit w ↔ f w = true ∧ ∀ v, v ≠ w → f v = false := by
  have ways : ∀ P : Way → Prop, (∀ v, P v) ↔ P .a ∧ P .b :=
    fun P => ⟨fun h => ⟨h .a, h .b⟩, fun h v => by cases v; exacts [h.1, h.2]⟩
  cases w <;> cases ha : f .a <;> cases hb : f .b <;> simp [lookupOf, ways, ha, hb]

theorem lookupOf_eq_miss (f : Way → Bool) : lookupOf (f .a) (f .b) = .miss ↔ ∀ v, f v = false := by
  constructor
  · intro h v
    cases v <;> cases ha : f .a <;> cases hb : f .b <;> simp_all [lookupOf]
  · intro h
    rw [h, h]
    rfl

theorem DCache.lookup_eq_hit (c : DCache) (pa : Word) (w : Way) :
    c.lookup pa = .hit w ↔
      (c.line w (lineIndex pa)).Holds pa ∧ ∀ v, v ≠ w → ¬(c.line v (lineIndex pa)).Holds pa := by
  have h := lookupOf_eq_hit
    (fun v => (c.line v (lineIndex pa)).valid && (c.line v (lineIndex pa)).tag == lineTag pa) w
  change c.lookup pa = .hit w ↔ _ at h
  simpa [DLine.Holds] using h

theorem DCache.lookup_eq_miss (c : DCache) (pa : Word) :
    c.lookup pa = .miss ↔ ∀ v, ¬(c.line v (lineIndex pa)).Holds pa := by
  have h := lookupOf_eq_miss
    (fun v => (c.line v (lineIndex pa)).valid && (c.line v (lineIndex pa)).tag == lineTag pa)
  change c.lookup pa = .miss ↔ _ at h
  simpa [DLine.Holds] using h

theorem ICache.lookup_eq_hit (c : ICache) (pa : Word) (w : Way) :
    c.lookup pa = .hit w ↔
      (c.line w (lineIndex pa)).Holds pa ∧ ∀ v, v ≠ w → ¬(c.line v (lineIndex pa)).Holds pa := by
  have h := lookupOf_eq_hit
    (fun v => (c.line v (lineIndex pa)).valid && (c.line v (lineIndex pa)).tag == lineTag pa) w
  change c.lookup pa = .hit w ↔ _ at h
  simpa [ILine.Holds] using h

theorem ICache.lookup_eq_miss (c : ICache) (pa : Word) :
    c.lookup pa = .miss ↔ ∀ v, ¬(c.line v (lineIndex pa)).Holds pa := by
  have h := lookupOf_eq_miss
    (fun v => (c.line v (lineIndex pa)).valid && (c.line v (lineIndex pa)).tag == lineTag pa)
  change c.lookup pa = .miss ↔ _ at h
  simpa [ILine.Holds] using h

/-- A line that stays valid and keeps its tag is hit as before when no other line changes. -/
theorem DCache.lookup_hit_of_sameDLinesBut {s t : State} {pa : Word} {w : Way} (h : s.dcache.lookup pa = .hit w)
    (hline : (t.dcache.line w (lineIndex pa)).Holds pa) (hbut : SameDLinesBut w (lineIndex pa) s t) :
    t.dcache.lookup pa = .hit w := by
  refine (DCache.lookup_eq_hit _ _ _).2 ⟨hline, fun v hv => ?_⟩
  rw [hbut v _ fun e => hv e.1]
  exact ((DCache.lookup_eq_hit _ _ _).1 h).2 v hv

/-- A refill at an address that missed makes it hit. -/
theorem DCache.lookup_hit_of_refillsD {s t : State} {pa : Word} {w : Way} (h : s.dcache.lookup pa = .miss)
    (hline : (t.dcache.line w (lineIndex pa)).Holds pa) (hrefills : RefillsD w (lineIndex pa) s t) :
    t.dcache.lookup pa = .hit w := by
  refine (DCache.lookup_eq_hit _ _ _).2 ⟨hline, fun v hv => ?_⟩
  rw [hrefills.2.2 v hv]
  exact (DCache.lookup_eq_miss _ _).1 h v

/-- Where the line that was hit is no longer valid and no other changed, the address misses. -/
theorem DCache.lookup_miss_of_sameDLinesBut {s t : State} {pa : Word} {w : Way} (h : s.dcache.lookup pa = .hit w)
    (hline : ¬(t.dcache.line w (lineIndex pa)).Holds pa) (hbut : SameDLinesBut w (lineIndex pa) s t) :
    t.dcache.lookup pa = .miss := by
  refine (DCache.lookup_eq_miss _ _).2 fun v => ?_
  by_cases hv : v = w
  · exact hv ▸ hline
  · rw [hbut v _ fun e => hv e.1]
    exact ((DCache.lookup_eq_hit _ _ _).1 h).2 v hv

theorem ICache.lookup_miss_of_sameILinesBut {s t : State} {pa : Word} {w : Way} (h : s.icache.lookup pa = .hit w)
    (hline : ¬(t.icache.line w (lineIndex pa)).Holds pa) (hbut : SameILinesBut w (lineIndex pa) s t) :
    t.icache.lookup pa = .miss := by
  refine (ICache.lookup_eq_miss _ _).2 fun v => ?_
  by_cases hv : v = w
  · exact hv ▸ hline
  · rw [hbut v _ fun e => hv e.1]
    exact ((ICache.lookup_eq_hit _ _ _).1 h).2 v hv

/-! ## The addresses of a line -/

theorem lineBase_eq (tag : BitVec 20) (i : BitVec 7) : lineBase tag i = (tag.toNat * 128 + i.toNat) * 32 := by
  have hi := i.isLt
  have htag : (tag ++ i).toNat = tag.toNat * 128 + i.toNat := by
    rw [BitVec.toNat_append, ← Nat.shiftLeft_add_eq_or_of_lt i.isLt, Nat.shiftLeft_eq]
  rw [lineBase, BitVec.toNat_append, ← Nat.shiftLeft_add_eq_or_of_lt (0#5).isLt, htag, Nat.shiftLeft_eq]
  rfl

theorem lineTag_toNat (pa : Word) : (lineTag pa).toNat = pa.toNat / 4096 := by
  have := pa.isLt
  rw [lineTag, BitVec.extractLsb'_toNat, Nat.shiftRight_eq_div_pow]
  omega

theorem lineIndex_toNat (pa : Word) : (lineIndex pa).toNat = pa.toNat / 32 % 128 := by
  rw [lineIndex, BitVec.extractLsb'_toNat, Nat.shiftRight_eq_div_pow]

theorem lineBaseOf_eq (pa : Word) : lineBaseOf pa = pa.toNat / 32 * 32 := by
  rw [lineBaseOf, lineBase_eq, lineTag_toNat, lineIndex_toNat]
  omega

theorem mem_lineBytes {base a : Nat} : a ∈ lineBytes base ↔ base ≤ a ∧ a < base + 32 := by
  simp only [lineBytes, List.mem_map, List.mem_range]
  constructor
  · rintro ⟨k, hk, rfl⟩
    omega
  · rintro ⟨h1, h2⟩
    exact ⟨a - base, by omega, by omega⟩

theorem mem_lineBytes_lineBaseOf {pa : Word} {a : Nat} : a ∈ lineBytes (lineBaseOf pa) ↔ a / 32 = pa.toNat / 32 := by
  rw [mem_lineBytes, lineBaseOf_eq]
  omega

theorem mem_lineBytes_of_fin (base : Nat) (k : Fin 32) : base + k ∈ lineBytes base :=
  mem_lineBytes.2 ⟨by omega, by omega⟩

/-- A byte of the line containing `pa` is the byte of its base and its offset. -/
theorem lineBaseOf_add_mod {pa : Word} {a : Nat} (h : a / 32 = pa.toNat / 32) : lineBaseOf pa + a % 32 = a := by
  rw [lineBaseOf_eq]
  omega

theorem lineBaseOf_add_mod_fin (pa : Word) (k : Fin 32) : (lineBaseOf pa + k) % 32 = k := by
  have := k.isLt
  rw [lineBaseOf_eq]
  omega

/-- Lines with other tags share no byte with the line containing `pa`. -/
theorem not_mem_lineBytes_of_tag_ne {pa : Word} {tag : BitVec 20} {a : Nat} (htag : tag ≠ lineTag pa)
    (h : a / 32 = pa.toNat / 32) : a ∉ lineBytes (lineBase tag (lineIndex pa)) := by
  have hne : tag.toNat ≠ pa.toNat / 4096 := fun e => htag (BitVec.eq_of_toNat_eq (e.trans (lineTag_toNat pa).symm))
  rw [mem_lineBytes, lineBase_eq, lineIndex_toNat]
  omega

/-- The valid victim of a refill at an address that misses is another line. -/
theorem tag_ne_of_miss {s : State} {pa : Word} {w : Way} (h : s.dcache.lookup pa = .miss)
    (hvalid : (s.dcache.line w (lineIndex pa)).valid = true) : (s.dcache.line w (lineIndex pa)).tag ≠ lineTag pa :=
  fun e => (DCache.lookup_eq_miss _ _).1 h w ⟨hvalid, e⟩

/-! ## The victim (R208) -/

theorem victimOf_eq_victimWay (validA validB lock fA choice : Bool) :
    victimOf validA validB lock fA false choice = victimWay validA validB lock fA := by
  cases validA <;> cases validB <;> cases lock <;> cases fA <;> rfl

theorem State.dVictim_replaces (s : State) (i : BitVec 7) : Replaces s i (s.dVictim i) := by
  intro h
  rw [State.dVictim, h]
  exact victimOf_eq_victimWay _ _ _ _ _

theorem State.iVictim_eq {s : State} (h : s.hazards.ilWindow = 0) (i : BitVec 7) :
    s.iVictim i =
      victimWay (s.icache.line .a i).valid (s.icache.line .b i).valid s.cp0.status.il (s.icache.line .a i).f := by
  rw [State.iVictim, h]
  exact victimOf_eq_victimWay _ _ _ _ _

end Sys2Proof.Machine
end

section
/-!
PROOF. Sys2Proof/Proofs/CacheTraffic.lean: what refills, write-backs and the end of a load, store or CACHE leave alone and what
they change (20_memory R177; 21_caches R208, R214, R215, R247; 70_reset_and_hazards R778).
-/

namespace Sys2Proof.Machine

/-! ## What cache traffic leaves alone -/

/-- Everything but coprocessor 0, LLbit, the caches, memory, the record of the bus and the counter of free values is as
before. -/
structure SameOuter (s t : State) : Prop where
  gpr : t.gpr = s.gpr
  hi : t.hi = s.hi
  lo : t.lo = s.lo
  pc : t.pc = s.pc
  nextPc : t.nextPc = s.nextPc
  inDelaySlot : t.inDelaySlot = s.inDelaySlot
  llAddr : t.llAddr = s.llAddr
  llSeen : t.llSeen = s.llSeen
  standby : t.standby = s.standby
  fpu : t.fpu = s.fpu
  events : t.events = s.events
  boot : t.boot = s.boot
  part : t.part = s.part
  platform : t.platform = s.platform
  inputs : t.inputs = s.inputs
  hazards : t.hazards = s.hazards

theorem SameOuter.refl (s : State) : SameOuter s s :=
  ⟨rfl, rfl, rfl, rfl, rfl, rfl, rfl, rfl, rfl, rfl, rfl, rfl, rfl, rfl, rfl, rfl⟩

theorem SameOuter.trans {s t u : State} (h : SameOuter s t) (k : SameOuter t u) : SameOuter s u where
  gpr := k.gpr.trans h.gpr
  hi := k.hi.trans h.hi
  lo := k.lo.trans h.lo
  pc := k.pc.trans h.pc
  nextPc := k.nextPc.trans h.nextPc
  inDelaySlot := k.inDelaySlot.trans h.inDelaySlot
  llAddr := k.llAddr.trans h.llAddr
  llSeen := k.llSeen.trans h.llSeen
  standby := k.standby.trans h.standby
  fpu := k.fpu.trans h.fpu
  events := k.events.trans h.events
  boot := k.boot.trans h.boot
  part := k.part.trans h.part
  platform := k.platform.trans h.platform
  inputs := k.inputs.trans h.inputs
  hazards := k.hazards.trans h.hazards

section Outer
variable {s t : State} (h : SameOuter s t)
include h

theorem SameOuter.sameGpr : SameGpr s t := State.reg_congr h.gpr

theorem SameOuter.sameHiLo : SameHiLo s t := ⟨h.hi, h.lo⟩

theorem SameOuter.sameOutside : SameOutside s t := ⟨h.events, h.boot, h.part, h.platform, h.inputs, h.standby⟩

theorem SameOuter.linkedLine_iff (i : BitVec 7) (l : DLine) : LinkedLine t i l ↔ LinkedLine s i l := by
  simp only [LinkedLine, h.llSeen, h.llAddr]

end Outer

theorem State.drained_sameOuter (s : State) : SameOuter s s.drained := by constructor <;> rfl

theorem State.setCh_sameOuter (s : State) (hit : Bool) : SameOuter s (s.setCh hit) := by constructor <;> rfl

theorem State.setDLine_sameOuter (s : State) (w : Way) (i : BitVec 7) (l : DLine) : SameOuter s (s.setDLine w i l) := by
  constructor <;> rfl

theorem State.dRefillBegun_sameOuter (s : State) (w : Way) (i : BitVec 7) : SameOuter s (s.dRefillBegun w i) := by
  obtain ⟨gpr, hi, lo, pc, nextPc, slot, _, llAddr, llSeen, standby, _, fpu, _, _, events, boot, part, platform, inputs,
    hazards⟩ := s.dRefillBegun_frame w i
  exact ⟨gpr, hi, lo, pc, nextPc, slot, llAddr, llSeen, standby, fpu, events, boot, part, platform, inputs, hazards⟩

theorem State.dRefill_sameOuter (s : State) (pa : Word) : SameOuter s (s.dRefill pa) := by
  obtain ⟨gpr, hi, lo, pc, nextPc, slot, llAddr, llSeen, standby, _, fpu, _, events, boot, part, platform, inputs,
    hazards⟩ := s.dRefill_frame pa
  exact ⟨gpr, hi, lo, pc, nextPc, slot, llAddr, llSeen, standby, fpu, events, boot, part, platform, inputs, hazards⟩

theorem State.dRefillFailed_sameOuter (s : State) (pa : Word) : SameOuter s (s.dRefillFailed pa) := by
  obtain ⟨gpr, hi, lo, pc, nextPc, slot, llAddr, llSeen, standby, _, fpu, _, events, boot, part, platform, inputs,
    hazards⟩ := s.dRefillFailed_frame pa
  exact ⟨gpr, hi, lo, pc, nextPc, slot, llAddr, llSeen, standby, fpu, events, boot, part, platform, inputs, hazards⟩

theorem State.writeStore_sameOuter (s : State) (va : DWord) (pa : Word) (alg : BitVec 3) (ws : List (Nat × Byte)) :
    SameOuter s (s.writeStore va pa alg ws) := by
  obtain ⟨gpr, hi, lo, pc, nextPc, slot, llAddr, llSeen, standby, _, fpu, _, events, boot, part, platform, inputs, hazards,
    _⟩ := s.writeStore_frame va pa alg ws
  exact ⟨gpr, hi, lo, pc, nextPc, slot, llAddr, llSeen, standby, fpu, events, boot, part, platform, inputs, hazards⟩

theorem State.dRefill_cp0 (s : State) (pa : Word) : (s.dRefill pa).cp0 = s.cp0 := by
  simp [State.dRefill, State.dRefillBegun]

theorem State.dRefill_icache (s : State) (pa : Word) : (s.dRefill pa).icache = s.icache := by
  simp [State.dRefill, State.dRefillBegun]

theorem State.dRefillFailed_cp0 (s : State) (pa : Word) : (s.dRefillFailed pa).cp0 = s.cp0 := by
  simp [State.dRefillFailed, State.dRefillBegun]

theorem State.dRefillFailed_icache (s : State) (pa : Word) : (s.dRefillFailed pa).icache = s.icache := by
  simp [State.dRefillFailed, State.dRefillBegun]

theorem State.writeStore_cp0 (s : State) (va : DWord) (pa : Word) (alg : BitVec 3) (ws : List (Nat × Byte)) :
    (s.writeStore va pa alg ws).cp0 = s.cp0 := by
  obtain ⟨_, _, _, _, _, _, _, _, _, cp0, _⟩ := s.writeStore_frame va pa alg ws
  exact cp0

theorem State.writeStore_icache (s : State) (va : DWord) (pa : Word) (alg : BitVec 3) (ws : List (Nat × Byte)) :
    (s.writeStore va pa alg ws).icache = s.icache := by
  obtain ⟨_, _, _, _, _, _, _, _, _, _, _, icache, _⟩ := s.writeStore_frame va pa alg ws
  exact icache

/-! ## The end of a load, store or CACHE -/

/-- The state that a load, store or CACHE leaves behind its memory operation (70_reset_and_hazards R778). -/
def State.memEnd (s : State) : State := { s.advance with hazards := { s.agedHazards with afterMem := true } }

theorem State.doneMem_eq (s : State) : s.doneMem = .next s.memEnd := rfl

theorem SameOuter.advanced {s t : State} (h : SameOuter s t) : Advanced s t.memEnd := by
  refine ⟨?_, rfl, rfl⟩
  rw [← h.inDelaySlot, ← h.nextPc, ← h.pc]
  rfl

theorem SameOuter.recordsMem {s t : State} (h : SameOuter s t) : RecordsMem s t.memEnd := by
  have aged : t.agedHazards = agedRecord s := by
    rw [State.agedHazards_eq]
    simp only [agedRecord, h.hazards, h.pc]
  change { t.agedHazards with afterMem := true } = { agedRecord s with afterMem := true }
  rw [aged]

/-- The end of the instruction commutes with the write of its register. -/
theorem State.memEnd_setReg (s : State) (r : Reg) (v : DWord) : (s.setReg r v).memEnd = s.memEnd.setReg r v := by
  unfold State.setReg
  split <;> rfl

theorem CacheFrame.of_sameOuter {broken : Prop} {s t : State} (h : SameOuter s t) (hlink : LinkKept broken s t) :
    CacheFrame broken s t.memEnd :=
  ⟨h.sameGpr, h.sameHiLo, h.fpu, hlink, h.sameOutside, h.advanced, h.recordsMem⟩

/-! ## Exceptions behind cache traffic -/

/-- An exception but an interrupt, behind cache traffic, writes the registers of 60_exceptions R670 to R673. -/
theorem SameOuter.exceptionRegisters {s t : State} (h : SameOuter s t) (hcp0 : t.cp0 = s.cp0) {e : Exc}
    (he : e.isInt = false) (bad : Option DWord) : ExceptionRegisters e.code e.unit bad s (t.takeException e bad) := by
  obtain ⟨⟨⟨saved, other, code, unit, iv, ip, status, pc, nextPc, slot, gpr, hi, lo⟩, _⟩, _⟩ :=
    t.takeException_exceptionTaken he bad
  refine ⟨?_, ?_, code, unit, iv.trans (by rw [hcp0]), ip.trans (by rw [hcp0]), status.trans (by rw [hcp0]),
    pc.trans (by rw [hcp0]), nextPc, slot, fun r => (gpr r).trans (h.sameGpr r), hi.trans h.hi, lo.trans h.lo⟩
  · simpa only [ExceptionSaved, hcp0, h.inDelaySlot, h.pc] using saved
  · simpa only [SameOtherCp0, hcp0] using other

/-- The zero bits EB and 24:22 of CacheErr in a row (11_cp0_registers R111). -/
theorem append_zero_bits (x : BitVec 6) : x ++ 0#1 ++ 0#3 = x ++ 0#4 := by
  revert x
  decide

theorem ParityError.toWord_eq (p : ParityError) : p.toWord = cacheErrWord p.data p.ed p.et p.ee p.pa p.va := by
  rw [ParityError.toWord, cacheErrWord, append_zero_bits]

/-- Cache Error behind cache traffic (60_exceptions R685). -/
theorem SameOuter.cacheErrorTaken {s t : State} (h : SameOuter s t) (hcp0 : t.cp0 = s.cp0) (p : ParityError) :
    CacheErrorTaken (cacheErrWord p.data p.ed p.et p.ee p.pa p.va) s (t.takeCacheError p) := by
  refine ⟨?_, ?_, rfl, rfl, h.sameGpr, h.sameHiLo, h.fpu, h.sameOutside⟩
  · simp only [State.takeCacheError, State.restartPc, hcp0, h.inDelaySlot, h.pc, ParityError.toWord_eq]
  · simp only [State.takeCacheError, hcp0]

/-! ## The link (R247) -/

theorem LinkKept.of_iff {p q : Prop} {s t : State} (h : LinkKept p s t) (hpq : p ↔ q) : LinkKept q s t := by
  rwa [← propext hpq]

/-- What left the link alone before, or behind, a change is not seen. -/
theorem LinkKept.of_fields {p : Prop} {s t u : State} (h : LinkKept p t u) (hbit : t.llBit = s.llBit)
    (haddr : t.llAddr = s.llAddr) (hseen : t.llSeen = s.llSeen) : LinkKept p s u := by
  rw [LinkKept, hbit, haddr, hseen] at h
  exact h

theorem LinkKept.of_same {s t : State} (hbit : t.llBit = s.llBit) (haddr : t.llAddr = s.llAddr)
    (hseen : t.llSeen = s.llSeen) : LinkKept False s t := by
  refine ⟨haddr, hseen, ?_⟩
  simp [hbit]

theorem LinkKept.trans {p q : Prop} {s t u : State} (h : LinkKept p s t) (k : LinkKept q t u) : LinkKept (p ∨ q) s u := by
  obtain ⟨addr, seen, bit⟩ := h
  obtain ⟨addr', seen', bit'⟩ := k
  refine ⟨addr'.trans addr, seen'.trans seen, ?_⟩
  rw [bit', bit, not_or, and_assoc]

theorem LinkKept.setDFifo {p : Prop} {s t : State} (h : LinkKept p s t) (w : Way) (i : BitVec 7) :
    LinkKept p s (t.setDFifo w i) := h

theorem LinkKept.withFresh {p : Prop} {s t : State} (h : LinkKept p s t) (n : Nat) :
    LinkKept p s { t with fresh := n } := h

/-- Replacing the victim of a miss breaks the link when it was the linked line: the new tag is another. -/
theorem State.setDLine_link_of_miss {s : State} {pa : Word} {w : Way} {l : DLine} (hmiss : s.dcache.lookup pa = .miss)
    (htag : l.tag = lineTag pa) :
    LinkKept (LinkedLine s (lineIndex pa) (s.dcache.line w (lineIndex pa))) s (s.setDLine w (lineIndex pa) l) := by
  refine (s.setDLine_link w (lineIndex pa) l _ rfl).of_iff ⟨fun h => h.1, fun h => ⟨h, .inl ?_⟩⟩
  obtain ⟨_, hvalid, _⟩ := h
  rw [htag]
  exact Ne.symm (tag_ne_of_miss hmiss hvalid)

theorem DLine.cs_ne_zero {l : DLine} (h : l.valid = true) : l.cs ≠ 0 := by simpa [DLine.valid] using h

/-- Invalidating the linked line breaks the link. -/
theorem State.setDLine_link_of_invalid {s : State} {w : Way} {i : BitVec 7} {l : DLine} (hcs : l.cs = 0) :
    LinkKept (LinkedLine s i (s.dcache.line w i)) s (s.setDLine w i l) := by
  refine (s.setDLine_link w i l _ rfl).of_iff ⟨fun h => h.1, fun h => ⟨h, .inr ?_⟩⟩
  obtain ⟨_, hvalid, _⟩ := h
  rw [hcs]
  exact Ne.symm (DLine.cs_ne_zero hvalid)

/-- A line that keeps its tag and state keeps the link. -/
theorem State.setDLine_link_of_same {s : State} {w : Way} {i : BitVec 7} {l : DLine}
    (htag : l.tag = (s.dcache.line w i).tag) (hcs : l.cs = (s.dcache.line w i).cs) :
    LinkKept False s (s.setDLine w i l) :=
  (s.setDLine_link w i l _ rfl).of_iff (by simp [htag, hcs])

/-- A line that becomes Dirty Exclusive breaks the link when it was the linked line in another state. -/
theorem State.setDLine_link_of_exclusive {s : State} {w : Way} {i : BitVec 7} {l : DLine}
    (htag : l.tag = (s.dcache.line w i).tag) (hcs : l.cs = 3) :
    LinkKept (LinkedLine s i (s.dcache.line w i) ∧ (s.dcache.line w i).cs ≠ 3) s (s.setDLine w i l) :=
  (s.setDLine_link w i l _ rfl).of_iff (by simp [htag, hcs, eq_comm])

/-! ## Bytes of memory written -/

/-- A write at an address that is not among them leaves a byte alone, whatever answers there. -/
theorem get_writeBytes_of_not_mem (platform : List Region) (m : Memory) (ws : List (Nat × Byte)) {a : Nat}
    (h : ∀ w ∈ ws, w.1 ≠ a) : (writeBytes platform m ws).get a = m.get a := by
  induction ws generalizing m with
  | nil => rfl
  | cons w ws ih =>
    obtain ⟨x, v⟩ := w
    have hx : x ≠ a := h (x, v) (by simp)
    rw [writeBytes, ih _ fun w hw => h w (by simp [hw])]
    unfold writeByte
    split
    · exact Memory.get_set_ne _ _ (Ne.symm hx)
    · rfl

theorem ne_of_mem_zip {xs : List Nat} {bs : List Byte} {a : Nat} (h : a ∉ xs) : ∀ w ∈ xs.zip bs, w.1 ≠ a :=
  fun _ hw e => h (e ▸ (List.of_mem_zip hw).1)

theorem map_fst_zip_of_length {xs : List Nat} {bs : List Byte} (h : bs.length = xs.length) :
    (xs.zip bs).map Prod.fst = xs := List.map_fst_zip (Nat.le_of_eq h.symm)

/-- Bytes written to distinct addresses are read back there. -/
theorem map_get_writeBytes (m : Memory) {xs : List Nat} {bs : List Byte} (hn : xs.Nodup) (hl : bs.length = xs.length) :
    xs.map (writeBytes [] m (xs.zip bs)).get = bs := by
  have hfst := map_fst_zip_of_length hl
  calc xs.map (writeBytes [] m (xs.zip bs)).get
      = ((xs.zip bs).map Prod.fst).map (writeBytes [] m (xs.zip bs)).get := by rw [hfst]
    _ = (xs.zip bs).map Prod.snd := by
        rw [List.map_map]
        refine List.map_congr_left fun w hw => ?_
        exact get_writeBytes_ram_of_mem m _ (by rw [hfst]; exact hn) hw
    _ = bs := List.map_snd_zip (Nat.le_of_eq hl)

theorem lineBytes_nodup (base : Nat) : (lineBytes base).Nodup :=
  List.Nodup.map (fun _ _ h => Nat.add_left_cancel h) List.nodup_range

theorem State.writeLine_sameBytesBut (s : State) (base : Nat) (data : Vector Byte 32) :
    SameBytesBut (lineBytes base) s (s.writeLine base data) :=
  fun _ ha => get_writeBytes_of_not_mem _ _ _ (ne_of_mem_zip ha)

/-- Where all is RAM, a line written stands in memory, and no other byte changed (R215). -/
theorem State.writeLine_lineWritten {s : State} (h : s.platform = []) (base : Nat) (data : Vector Byte 32) :
    LineWritten base data s (s.writeLine base data) := by
  refine ⟨fun k => ?_, s.writeLine_sameBytesBut base data⟩
  have hlen : data.toList.length = (lineBytes base).length := by simp [lineBytes]
  have hread := map_get_writeBytes s.mem (lineBytes_nodup base) hlen
  have hk := congrArg (·[k.val]?) hread
  simp only [lineBytes, List.getElem?_map, List.getElem?_range k.isLt, Option.map_some] at hk
  change (writeBytes s.platform s.mem ((lineBytes base).zip data.toList)).get (base + k) = _
  rw [h]
  simpa [lineBytes] using hk

/-- The bytes of the line at index `i` that a write-back of `l` can change. -/
theorem State.evict_sameBytesBut (s : State) (w : Way) (i : BitVec 7) :
    SameBytesBut (if (s.dcache.line w i).dirty then lineBytes (lineBase (s.dcache.line w i).tag i) else []) s
      (s.evict w i) := by
  unfold State.evict
  split
  · exact s.writeLine_sameBytesBut _ _
  · exact fun _ _ => rfl

theorem State.evict_writtenBack {s : State} (h : s.platform = []) (w : Way) (i : BitVec 7) :
    WrittenBack (s.dcache.line w i) i s (s.evict w i) := by
  unfold State.evict WrittenBack
  split
  · exact State.writeLine_lineWritten h _ _
  · exact fun _ => rfl

/-- Which bytes changed is read off the memories alone. -/
theorem SameBytesBut.of_mem {xs : List Nat} {s t s' t' : State} (h : SameBytesBut xs s t) (hs : s'.mem = s.mem)
    (ht : t'.mem = t.mem) : SameBytesBut xs s' t' := by
  rw [SameBytesBut, hs, ht]
  exact h

theorem WrittenBack.of_mem {l : DLine} {i : BitVec 7} {s t s' t' : State} (h : WrittenBack l i s t)
    (hs : s'.mem = s.mem) (ht : t'.mem = t.mem) : WrittenBack l i s' t' := by
  simpa only [WrittenBack, LineWritten, SameBytesBut, SameBytes, hs, ht] using h

section Begun
variable (s : State) (w : Way) (i : BitVec 7)

theorem State.dRefillBegun_sameBytesBut :
    SameBytesBut (if (s.dcache.line w i).dirty then lineBytes (lineBase (s.dcache.line w i).tag i) else []) s
      (s.dRefillBegun w i) :=
  ((s.drawn.drained.inTransit { instr := false, way := w, index := i }).evict_sameBytesBut w i).of_mem rfl rfl

theorem State.dRefillBegun_writtenBack {s : State} (h : s.platform = []) (w : Way) (i : BitVec 7) :
    WrittenBack (s.dcache.line w i) i s (s.dRefillBegun w i) :=
  (State.evict_writtenBack (s := s.drawn.drained.inTransit { instr := false, way := w, index := i }) h w i).of_mem rfl rfl

end Begun

/-! ## Refills of the data cache (R214) -/

section Refill
variable (s : State) (pa : Word)

theorem State.dRefill_mem :
    (s.dRefill pa).mem = (s.dRefillBegun (s.dVictim (lineIndex pa)) (lineIndex pa)).mem := by
  rw [State.dRefill, State.setDFifo_mem, State.setDLine_mem]

theorem State.dRefill_line : ∃ f, (s.dRefill pa).dcache.line (s.dVictim (lineIndex pa)) (lineIndex pa) =
    s.dRefilled pa f := by
  refine ⟨_, State.installD_line _ _ _⟩

theorem State.dRefill_refillsD : RefillsD (s.dVictim (lineIndex pa)) (lineIndex pa) s (s.dRefill pa) :=
  State.installD_refillsD _ _ (by simp [State.dRefillBegun]) _

theorem State.dRefill_holds : ((s.dRefill pa).dcache.line (s.dVictim (lineIndex pa)) (lineIndex pa)).Holds pa := by
  obtain ⟨f, hline⟩ := s.dRefill_line pa
  rw [hline]
  exact ⟨rfl, rfl⟩

theorem State.dRefill_sameBytesBut {i : BitVec 7} {old : DLine} (hi : i = lineIndex pa)
    (hold : old = s.dcache.line (s.dVictim i) i) :
    SameBytesBut (if old.dirty then lineBytes (lineBase old.tag i) else []) s (s.dRefill pa) := by
  subst hi hold
  exact (s.dRefillBegun_sameBytesBut (s.dVictim (lineIndex pa)) (lineIndex pa)).of_mem rfl (s.dRefill_mem pa)

variable {s pa}

theorem State.dRefill_writtenBack (h : s.platform = []) {i : BitVec 7} {old : DLine} (hi : i = lineIndex pa)
    (hold : old = s.dcache.line (s.dVictim i) i) : WrittenBack old i s (s.dRefill pa) := by
  subst hi hold
  exact (State.dRefillBegun_writtenBack h (s.dVictim (lineIndex pa)) (lineIndex pa)).of_mem rfl (s.dRefill_mem pa)

theorem State.dRefill_refilledD (h : s.platform = []) :
    RefilledD pa ((s.dRefill pa).dcache.line (s.dVictim (lineIndex pa)) (lineIndex pa)) s := by
  obtain ⟨f, hline⟩ := s.dRefill_line pa
  obtain ⟨hbyte, hbad, _⟩ := State.bus_ram h
  rw [hline]
  refine ⟨rfl, rfl, rfl, rfl, rfl, rfl, fun k => ⟨?_, ?_⟩⟩
  · simp [State.dRefilled, State.busLine, hbyte]
  · simp [State.dRefilled, hbad]

theorem State.dRefill_lookup (hmiss : s.dcache.lookup pa = .miss) :
    (s.dRefill pa).dcache.lookup pa = .hit (s.dVictim (lineIndex pa)) :=
  DCache.lookup_hit_of_refillsD hmiss (s.dRefill_holds pa) (s.dRefill_refillsD pa)

theorem State.dRefill_link (hmiss : s.dcache.lookup pa = .miss) {i : BitVec 7} {old : DLine} (hi : i = lineIndex pa)
    (hold : old = s.dcache.line (s.dVictim i) i) : LinkKept (LinkedLine s i old) s (s.dRefill pa) := by
  subst hi hold
  have begun := s.dRefillBegun_sameOuter (s.dVictim (lineIndex pa)) (lineIndex pa)
  have hd : (s.dRefillBegun (s.dVictim (lineIndex pa)) (lineIndex pa)).dcache = s.dcache := by simp [State.dRefillBegun]
  have hbit : (s.dRefillBegun (s.dVictim (lineIndex pa)) (lineIndex pa)).llBit = s.llBit := by simp [State.dRefillBegun]
  have h := State.setDLine_link_of_miss (s := s.dRefillBegun (s.dVictim (lineIndex pa)) (lineIndex pa)) (pa := pa)
    (w := s.dVictim (lineIndex pa))
    (l := s.dRefilled pa (!(s.dcache.line (s.dVictim (lineIndex pa)) (lineIndex pa)).f)) (by rw [hd]; exact hmiss) rfl
  rw [hd] at h
  exact ((h.of_iff (begun.linkedLine_iff _ _)).of_fields hbit begun.llAddr begun.llSeen).setDFifo _ _

end Refill

/-! ## A refill that ends in a Bus Error (R214, U9) -/

theorem State.dRefillFailed_mem (s : State) (pa : Word) :
    (s.dRefillFailed pa).mem = (s.dRefillBegun (s.dVictim (lineIndex pa)) (lineIndex pa)).mem := by
  simp only [State.dRefillFailed, State.setDLine_mem]

section Failed
variable (s : State) (pa : Word) {i : BitVec 7} {v : Way} {old : DLine} (hi : i = lineIndex pa) (hv : v = s.dVictim i)
  (hold : old = s.dcache.line v i)
include hi hv

theorem State.dRefillFailed_invalid : ((s.dRefillFailed pa).dcache.line v i).valid = false := by
  subst hi hv
  unfold State.dRefillFailed
  dsimp only
  rw [State.setDLine_line]
  rfl

theorem State.dRefillFailed_sameDLinesBut : SameDLinesBut v i s (s.dRefillFailed pa) := by
  subst hi hv
  intro w j hwj
  unfold State.dRefillFailed
  dsimp only
  rw [State.setDLine_sameDLinesBut _ _ _ _ w j hwj]
  simp [State.dRefillBegun]

include hold

theorem State.dRefillFailed_sameBytesBut :
    SameBytesBut (if old.dirty then lineBytes (lineBase old.tag i) else []) s (s.dRefillFailed pa) := by
  subst hi hv hold
  exact (s.dRefillBegun_sameBytesBut (s.dVictim (lineIndex pa)) (lineIndex pa)).of_mem rfl (s.dRefillFailed_mem pa)

theorem State.dRefillFailed_link : LinkKept (LinkedLine s i old) s (s.dRefillFailed pa) := by
  subst hi hv hold
  have begun := s.dRefillBegun_sameOuter (s.dVictim (lineIndex pa)) (lineIndex pa)
  have hd : (s.dRefillBegun (s.dVictim (lineIndex pa)) (lineIndex pa)).dcache = s.dcache := by simp [State.dRefillBegun]
  have hbit : (s.dRefillBegun (s.dVictim (lineIndex pa)) (lineIndex pa)).llBit = s.llBit := by simp [State.dRefillBegun]
  unfold State.dRefillFailed
  refine LinkKept.withFresh (LinkKept.of_fields (LinkKept.of_iff (State.setDLine_link_of_invalid rfl) ?_)
    hbit begun.llAddr begun.llSeen) _
  rw [hd, begun.linkedLine_iff]

end Failed

end Sys2Proof.Machine
end

section
/-!
PROOF. Sys2Proof/Proofs/AccessBytes.lean: the bytes of an access, in the byte order of the program: their addresses, and the
numbers that some low or high bytes of a unit stand for (20_memory R145 to R148, R154 to R156; 40_load_store R310 to R323).
-/

namespace Sys2Proof.Machine

/-! ## Numbers from bytes (R154) -/

theorem leNat_append (as bs : List Byte) : leNat (as ++ bs) = leNat as + 256 ^ as.length * leNat bs := by
  induction as with
  | nil => simp [leNat]
  | cons a as ih =>
    rw [List.cons_append, leNat, ih, leNat, List.length_cons, Nat.pow_succ]
    ring

theorem leNat_lt (bs : List Byte) : leNat bs < 256 ^ bs.length := by
  induction bs with
  | nil => simp [leNat]
  | cons b bs ih =>
    have hb := b.isLt
    rw [leNat, List.length_cons, Nat.pow_succ]
    omega

theorem leNat_take (bs : List Byte) {n : Nat} (h : n ≤ bs.length) : leNat (bs.take n) = leNat bs % 256 ^ n := by
  have hlen : (bs.take n).length = n := List.length_take_of_le h
  have hlt := leNat_lt (bs.take n)
  have hsplit := leNat_append (bs.take n) (bs.drop n)
  rw [List.take_append_drop, hlen] at hsplit
  rw [hlen] at hlt
  rw [hsplit, Nat.add_mul_mod_self_left, Nat.mod_eq_of_lt hlt]

theorem leNat_drop (bs : List Byte) {n : Nat} (h : n ≤ bs.length) : leNat (bs.drop n) = leNat bs / 256 ^ n := by
  have hlen : (bs.take n).length = n := List.length_take_of_le h
  have hlt := leNat_lt (bs.take n)
  have hsplit := leNat_append (bs.take n) (bs.drop n)
  rw [List.take_append_drop, hlen] at hsplit
  rw [hlen] at hlt
  rw [hsplit, Nat.add_mul_div_left _ _ (by positivity), Nat.div_eq_of_lt hlt, Nat.zero_add]

theorem leNat_leBytes (n v : Nat) : leNat (leBytes n v) = v % 256 ^ n := by
  induction n generalizing v with
  | zero => simp [leBytes, leNat, Nat.mod_one]
  | succ n ih =>
    rw [leBytes, leNat, ih, BitVec.toNat_ofNat, show 256 ^ (n + 1) = 256 * 256 ^ n from Nat.pow_succ']
    exact Nat.mod_mul.symm

theorem fromBytes_toBytes (bigEndian : Bool) (n v : Nat) :
    fromBytes bigEndian (toBytes bigEndian n v) = v % 256 ^ n := by
  cases bigEndian <;> simp [fromBytes, toBytes, leNat_leBytes]

/-! ## The low and the high bytes of a unit -/

/-- The `n` least significant of the bytes of a unit at ascending addresses. -/
def lowBytes {α : Type} (bigEndian : Bool) (n : Nat) (bs : List α) : List α :=
  if bigEndian then bs.drop (bs.length - n) else bs.take n

/-- The `n` most significant ones. -/
def highBytes {α : Type} (bigEndian : Bool) (n : Nat) (bs : List α) : List α :=
  if bigEndian then bs.take n else bs.drop (bs.length - n)

section Parts
variable {α : Type} (bigEndian : Bool) {n : Nat}

theorem lowBytes_sublist (n : Nat) (bs : List α) : (lowBytes bigEndian n bs).Sublist bs := by
  cases bigEndian
  · exact List.take_sublist _ _
  · exact List.drop_sublist _ _

theorem highBytes_sublist (n : Nat) (bs : List α) : (highBytes bigEndian n bs).Sublist bs := by
  cases bigEndian
  · exact List.drop_sublist _ _
  · exact List.take_sublist _ _

theorem map_lowBytes {β : Type} (f : α → β) (n : Nat) (bs : List α) :
    (lowBytes bigEndian n bs).map f = lowBytes bigEndian n (bs.map f) := by
  cases bigEndian <;> simp [lowBytes]

theorem map_highBytes {β : Type} (f : α → β) (n : Nat) (bs : List α) :
    (highBytes bigEndian n bs).map f = highBytes bigEndian n (bs.map f) := by
  cases bigEndian <;> simp [highBytes]

theorem nodup_disjoint_of_append {as bs : List α} (h : (as ++ bs).Nodup) : ∀ a ∈ as, a ∉ bs :=
  fun _ ha hb => List.disjoint_of_nodup_append h ha hb

/-- A byte of a unit without repeats is a low one or a high one. -/
theorem not_mem_lowBytes_of_mem_highBytes {m : Nat} {bs : List α} (hn : bs.Nodup) (h : n + m = bs.length) :
    ∀ a ∈ highBytes bigEndian m bs, a ∉ lowBytes bigEndian n bs := by
  have hm : bs.length - m = n := by omega
  have hn' : bs.length - n = m := by omega
  cases bigEndian
  · change ∀ a ∈ bs.drop (bs.length - m), a ∉ bs.take n
    rw [hm]
    exact fun a ha hb => nodup_disjoint_of_append (by rwa [List.take_append_drop]) a hb ha
  · change ∀ a ∈ bs.take m, a ∉ bs.drop (bs.length - n)
    rw [hn']
    exact nodup_disjoint_of_append (by rwa [List.take_append_drop])

theorem fromBytes_lowBytes (bs : List Byte) (h : n ≤ bs.length) :
    fromBytes bigEndian (lowBytes bigEndian n bs) = fromBytes bigEndian bs % 256 ^ n := by
  cases bigEndian
  · exact leNat_take bs h
  · change leNat (bs.drop _).reverse = leNat bs.reverse % _
    rw [List.reverse_drop, Nat.sub_sub_self h, leNat_take _ (by simpa using h)]

theorem fromBytes_highBytes (bs : List Byte) :
    fromBytes bigEndian (highBytes bigEndian n bs) = fromBytes bigEndian bs / 256 ^ (bs.length - n) := by
  cases bigEndian
  · exact leNat_drop bs (Nat.sub_le _ _)
  · change leNat (bs.take n).reverse = leNat bs.reverse / _
    rw [List.reverse_take, leNat_drop _ (by simp)]

/-- A unit is its low bytes and its high ones. -/
theorem fromBytes_eq_low_add_high {m : Nat} (bs : List Byte) (h : n + m = bs.length) :
    fromBytes bigEndian bs =
      fromBytes bigEndian (lowBytes bigEndian n bs) + 256 ^ n * fromBytes bigEndian (highBytes bigEndian m bs) := by
  rw [fromBytes_lowBytes _ _ (by omega), fromBytes_highBytes, show bs.length - m = n by omega,
    Nat.mod_add_div]

end Parts

/-! ## The addresses of the bytes of a datum -/

theorem datum_eq (read : Nat → Byte) (s : State) (pa : Word) (n : Nat) :
    datum read s pa n = fromBytes s.bigEndianCpu ((byteAddrs s pa n).map read) := (fromBytes_eq _ _).symm

theorem byteAddrs_length (s : State) (pa : Word) (n : Nat) : (byteAddrs s pa n).length = n := by simp [byteAddrs]

/-- A datum of the size of an access, at an address aligned to that size. -/
def AlignedTo (pa : Word) (n : Nat) : Prop := (n = 1 ∨ n = 2 ∨ n = 4 ∨ n = 8) ∧ pa.toNat % n = 0

theorem AlignedTo.add_toNat {pa : Word} {n k : Nat} (h : AlignedTo pa n) (hk : k < n) :
    (pa + BitVec.ofNat 32 k).toNat = pa.toNat + k := by
  have hpa := pa.isLt
  obtain ⟨hn, ha⟩ := h
  rw [BitVec.toNat_add, BitVec.toNat_ofNat]
  rcases hn with rfl | rfl | rfl | rfl <;> omega

theorem xor_low_div (v : Word) (b : Bool) : (v ^^^ (if b then 7 else 0)).toNat / 8 = v.toNat / 8 := by
  cases b
  · simp
  · rw [if_pos rfl, BitVec.toNat_xor, show (8 : Nat) = 2 ^ 3 by rfl, Nat.xor_div_two_pow]
    simp

/-- The bytes of an aligned datum lie in the doubleword of its address (20_memory R156). -/
theorem byteAddr_div {s : State} {pa : Word} {n k : Nat} (h : AlignedTo pa n) (hk : k < n) :
    byteAddr s pa k / 8 = pa.toNat / 8 := by
  rw [byteAddr, xor_low_div, h.add_toNat hk]
  obtain ⟨hn, ha⟩ := h
  rcases hn with rfl | rfl | rfl | rfl <;> omega

theorem mem_byteAddrs_div {s : State} {pa : Word} {n x : Nat} (h : AlignedTo pa n) (hx : x ∈ byteAddrs s pa n) :
    x / 8 = pa.toNat / 8 := by
  obtain ⟨k, hk, rfl⟩ := List.mem_map.mp hx
  exact byteAddr_div h (List.mem_range.mp hk)

theorem byteAddrs_nodup {s : State} {pa : Word} {n : Nat} (h : AlignedTo pa n) : (byteAddrs s pa n).Nodup := by
  refine List.Nodup.map_on (fun k hk j hj e => ?_) List.nodup_range
  have hxor := BitVec.eq_of_toNat_eq e
  rw [BitVec.xor_left_inj] at hxor
  have hsum := congrArg BitVec.toNat hxor
  rw [h.add_toNat (List.mem_range.mp hk), h.add_toNat (List.mem_range.mp hj)] at hsum
  omega

/-! ## Translation keeps the offset in a page (20_memory R148) -/

theorem append_extract_mod (x : BitVec 20) (y : BitVec 12) : (x ++ y).toNat % 4096 = y.toNat := by
  rw [BitVec.toNat_append, ← Nat.shiftLeft_add_eq_or_of_lt y.isLt, Nat.shiftLeft_eq]
  have := y.isLt
  omega

theorem translate_offset {user : Bool} {base : BitVec 20} {bound : BitVec 19} {calg va pa : Word} {alg : BitVec 3}
    (h : translate user base bound calg va = .ok pa alg) : pa.toNat % 4096 = va.toNat % 4096 := by
  unfold translate at h
  dsimp only at h
  split at h
  · split at h
    · cases h
    · cases h
      rw [BitVec.toNat_append, BitVec.extractLsb'_toNat]
      simp only [BitVec.toNat_ofNat, Nat.zero_mod, Nat.zero_shiftLeft, Nat.zero_or, Nat.shiftRight_zero]
      omega
  · split at h
    · cases h
    · cases h
      rw [append_extract_mod, BitVec.extractLsb'_toNat]
      simp

theorem low32_toNat (va : DWord) : (low32 va).toNat = va.toNat % 2 ^ 32 := by simp [low32]

theorem MapsTo.offset {s : State} {va : DWord} {pa : Word} {alg : BitVec 3} (h : MapsTo s va pa alg) :
    pa.toNat % 4096 = va.toNat % 4096 := by
  have := translate_offset h
  rw [low32_toNat] at this
  omega

theorem MapsTo.mod {s : State} {va : DWord} {pa : Word} {alg : BitVec 3} (h : MapsTo s va pa alg) {n : Nat}
    (hn : n = 1 ∨ n = 2 ∨ n = 4 ∨ n = 8) : pa.toNat % n = va.toNat % n := by
  have := h.offset
  rcases hn with rfl | rfl | rfl | rfl <;> omega

theorem MapsTo.alignedTo {s : State} {va : DWord} {pa : Word} {alg : BitVec 3} (h : MapsTo s va pa alg) {n : Nat}
    (hn : n = 1 ∨ n = 2 ∨ n = 4 ∨ n = 8) (ha : va.toNat % n = 0) : AlignedTo pa n := ⟨hn, (h.mod hn).trans ha⟩

/-! ## The bytes of an unaligned access -/

/-- The address of the unit of `size` bytes that holds `pa`. -/
def unitOf (pa : Word) (size : Nat) : Word := pa - BitVec.ofNat 32 (pa.toNat % size)

theorem unitOf_toNat (pa : Word) {size : Nat} (h : size = 4 ∨ size = 8) :
    (unitOf pa size).toNat = pa.toNat - pa.toNat % size := by
  have hpa := pa.isLt
  rw [unitOf, BitVec.toNat_sub, BitVec.toNat_ofNat]
  rcases h with rfl | rfl <;> omega

theorem unitOf_alignedTo (pa : Word) {size : Nat} (h : size = 4 ∨ size = 8) : AlignedTo (unitOf pa size) size := by
  refine ⟨by omega, ?_⟩
  rw [unitOf_toNat pa h]
  rcases h with rfl | rfl <;> omega

theorem unitOf_div (pa : Word) {size : Nat} (h : size = 4 ∨ size = 8) : (unitOf pa size).toNat / 8 = pa.toNat / 8 := by
  rw [unitOf_toNat pa h]
  rcases h with rfl | rfl <;> omega

theorem unitOf_add (pa : Word) (size k : Nat) :
    unitOf pa size + BitVec.ofNat 32 (pa.toNat % size + k) = pa + BitVec.ofNat 32 k := by
  rw [unitOf, BitVec.ofNat_add, ← BitVec.add_assoc, BitVec.sub_add_cancel]

/-- The span of an access from the address `va` to the last byte of its unit. -/
theorem physical_forward {s : State} {va : DWord} {pa : Word} {size align : Nat} :
    Span.physical { va := va, back := 0, n := size - pa.toNat % size, align := align } s.cp0.status.reverseEndian pa =
      (byteAddrs s (unitOf pa size) size).drop (pa.toNat % size) := by
  refine List.ext_getElem (by simp [Span.physical, byteAddrs]) fun k h1 h2 => ?_
  simp only [Span.physical, byteAddrs, List.getElem_map, List.getElem_drop, List.getElem_range, byteAddr, unitOf_add]
  simp [Status.reverseEndian, State.userMode]

/-- The span of an access from the first byte of its unit to the address `va`. -/
theorem physical_backward {s : State} {va : DWord} {pa : Word} {size align : Nat} (h : size = 4 ∨ size = 8) :
    Span.physical { va := va, back := pa.toNat % size, n := pa.toNat % size + 1, align := align }
      s.cp0.status.reverseEndian pa = (byteAddrs s (unitOf pa size) size).take (pa.toNat % size + 1) := by
  have hlt : pa.toNat % size < size := Nat.mod_lt _ (by omega)
  refine List.ext_getElem (by simp [Span.physical, byteAddrs]; omega) fun k h1 h2 => ?_
  simp only [Span.physical, byteAddrs, List.getElem_map, List.getElem_take, List.getElem_range, byteAddr, unitOf]
  simp [Status.reverseEndian, State.userMode]

/-- The span of a left or right access. -/
def partSpan (bigEndian left : Bool) (size : Nat) (va : DWord) : Span :=
  if left then leftSpan bigEndian size va else rightSpan bigEndian size va

/-- The bytes of the unit before the address, as the program orders them from the most significant on. -/
def bytesBefore (bigEndian : Bool) (size offset : Nat) : Nat := if bigEndian then offset else size - 1 - offset

/-- The bytes of a left access are the low ones of the unit from the address on, those of a right one the high ones up to it
(R310 to R323). -/
def partBytes {α : Type} (bigEndian left : Bool) (size o : Nat) (bs : List α) : List α :=
  if left then lowBytes bigEndian (size - o) bs else highBytes bigEndian (o + 1) bs

theorem partBytes_sublist {α : Type} (bigEndian left : Bool) (size o : Nat) (bs : List α) :
    (partBytes bigEndian left size o bs).Sublist bs := by
  cases left
  · exact highBytes_sublist _ _ _
  · exact lowBytes_sublist _ _ _

section PartSpan
variable {s : State} {va : DWord} {pa : Word} {size : Nat} (hsize : size = 4 ∨ size = 8)
  (hoff : pa.toNat % size = va.toNat % size) (left : Bool)
include hsize hoff

theorem bytesBefore_lt : bytesBefore s.bigEndianCpu size (pa.toNat % size) < size := by
  have hlt : pa.toNat % size < size := Nat.mod_lt _ (by omega)
  cases hb : s.bigEndianCpu <;> simp [bytesBefore] <;> omega

theorem partSpan_n : (partSpan s.bigEndianCpu left size va).n =
    if left then size - bytesBefore s.bigEndianCpu size (pa.toNat % size)
    else bytesBefore s.bigEndianCpu size (pa.toNat % size) + 1 := by
  have hlt : pa.toNat % size < size := Nat.mod_lt _ (by omega)
  cases hb : s.bigEndianCpu <;> cases left <;>
    simp [partSpan, leftSpan, rightSpan, bytesBefore, ← hoff] <;> omega

theorem physical_partSpan : (partSpan s.bigEndianCpu left size va).physical s.cp0.status.reverseEndian pa =
    partBytes s.bigEndianCpu left size (bytesBefore s.bigEndianCpu size (pa.toNat % size))
      (byteAddrs s (unitOf pa size) size) := by
  have hlt : pa.toNat % size < size := Nat.mod_lt _ (by omega)
  have hlen := byteAddrs_length s (unitOf pa size) size
  have hback : size - (size - 1 - pa.toNat % size) = pa.toNat % size + 1 := by omega
  have hforward : size - (size - 1 - pa.toNat % size + 1) = pa.toNat % size := by omega
  have hself : size - (size - pa.toNat % size) = pa.toNat % size := by omega
  cases hb : s.bigEndianCpu <;> cases left <;>
    simp only [partSpan, leftSpan, rightSpan, partBytes, lowBytes, highBytes, bytesBefore, hlen, ← hoff, if_true,
      Bool.false_eq_true, if_false, hback, hforward, hself, physical_forward, physical_backward hsize]

end PartSpan

/-- The bytes that a part stores, as Safety.lean lists them. -/
theorem partAddrs_eq (s : State) (left : Bool) (unit : Word) {size n : Nat} (hsize : size = 4 ∨ size = 8) (hn : n < size) :
    partAddrs s left unit size n =
      partBytes s.bigEndianCpu left size (bytesBefore s.bigEndianCpu size n) (byteAddrs s unit size) := by
  have upper : ∀ size, size = 4 ∨ size = 8 → ∀ n < size,
      (List.range size).filter (fun k => decide (n ≤ k)) = (List.range size).drop n := by
    rintro _ (rfl | rfl) <;> decide
  have lower : ∀ size, size = 4 ∨ size = 8 → ∀ n < size,
      (List.range size).filter (fun k => decide (k ≤ n)) = (List.range size).take (n + 1) := by
    rintro _ (rfl | rfl) <;> decide
  have hlen := byteAddrs_length s unit size
  have hback : size - (size - 1 - n) = n + 1 := by omega
  have hforward : size - (size - 1 - n + 1) = n := by omega
  have hself : size - (size - n) = n := by omega
  cases hb : s.bigEndianCpu <;> cases left <;>
    simp only [partAddrs, hb, partBytes, lowBytes, highBytes, bytesBefore, hlen, hback, hforward, hself, if_true, reduceCtorEq,
      Bool.false_eq_true, if_false, upper size hsize n hn, lower size hsize n hn] <;>
    simp only [byteAddrs, List.map_take, List.map_drop]

/-! ## The registers and units behind an unaligned access -/

theorem pow_eq_256 (n : Nat) : 2 ^ (8 * n) = 256 ^ n := by rw [Nat.pow_mul]

section Merge
variable {size o : Nat} (h : o < size) (v r : Nat)
include h

theorem mergeLeft_eq_loadedLeft : mergeLeft (8 * size) (size - o) r (v % 256 ^ (size - o)) = loadedLeft size o v r := by
  have hpow : 8 * size - 8 * (size - o) = 8 * o := by omega
  have hsplit : 2 ^ (8 * size) = 256 ^ (size - o) * 2 ^ (8 * o) := by
    rw [← pow_eq_256, ← Nat.pow_add]
    congr 1
    omega
  rw [mergeLeft, loadedLeft, hpow, hsplit, Nat.mul_mod_mul_right]

omit h in
theorem mergeRight_eq_loadedRight (hr : r < 2 ^ (8 * size)) :
    mergeRight (8 * size) (o + 1) r (v / 256 ^ (size - (o + 1))) = loadedRight size o v r := by
  rw [mergeRight, loadedRight, Nat.mod_eq_of_lt hr, ← pow_eq_256, Nat.add_comm o 1, Nat.sub_add_eq]

theorem low_add_high_eq_storedLeft (hr : r < 2 ^ (8 * size)) :
    r / 2 ^ (8 * (size - (size - o))) % 256 ^ (size - o) + 256 ^ (size - o) * (v / 256 ^ (size - o)) =
      storedLeft size o v r := by
  have hself : size - (size - o) = o := by omega
  have hlt : r / 2 ^ (8 * o) < 256 ^ (size - o) := by
    rw [Nat.div_lt_iff_lt_mul (by positivity), ← pow_eq_256, ← Nat.pow_add]
    exact lt_of_lt_of_eq hr (by congr 1; omega)
  rw [storedLeft, hself, Nat.mod_eq_of_lt hlt, ← pow_eq_256, Nat.add_comm, Nat.mul_comm]

theorem low_add_high_eq_storedRight :
    v % 256 ^ (size - (o + 1)) + 256 ^ (size - (o + 1)) * (r % 256 ^ (o + 1)) = storedRight size o v r := by
  have hsplit : 2 ^ (8 * size) = 256 ^ (o + 1) * 2 ^ (8 * (size - 1 - o)) := by
    rw [← pow_eq_256, ← Nat.pow_add]
    congr 1
    omega
  have hm : size - (o + 1) = size - 1 - o := by omega
  rw [storedRight, hsplit, Nat.mul_mod_mul_right, ← pow_eq_256, hm, Nat.add_comm, Nat.mul_comm]

end Merge

end Sys2Proof.Machine
end

section
/-!
PROOF. Sys2Proof/Proofs/CachedLoads.lean: loads through the data cache, hit or miss (21_caches R211 to R214, R230, R247;
40_load_store R303 to R309).
-/

namespace Sys2Proof.Machine

/-! ## The bytes that the cache holds -/

theorem State.cachedByte_of_hit {s : State} {pa : Word} {w : Way} (h : s.dcache.lookup pa = .hit w) (x : Nat) :
    s.cachedByte pa x = (s.dcache.line w (lineIndex pa)).data[x % 32] := by
  simp [State.cachedByte, h]

theorem State.cachedByte_of_miss {s : State} {pa : Word} (h : s.dcache.lookup pa = .miss) (x : Nat) :
    s.cachedByte pa x = s.mem.get x := by
  simp [State.cachedByte, h]

/-- A refilled line holds what memory held. -/
theorem State.cachedByte_dRefill {s : State} {pa : Word} (hram : s.platform = []) (hmiss : s.dcache.lookup pa = .miss)
    {x : Nat} (hx : x / 32 = pa.toNat / 32) : (s.dRefill pa).cachedByte pa x = s.cachedByte pa x := by
  obtain ⟨_, _, _, _, _, _, hdata⟩ := State.dRefill_refilledD (pa := pa) hram
  rw [State.cachedByte_of_hit (State.dRefill_lookup hmiss), State.cachedByte_of_miss hmiss]
  have h := (hdata ⟨x % 32, Nat.mod_lt _ (by decide)⟩).1
  rwa [lineBaseOf_add_mod hx] at h

/-! ## The state behind a load -/

/-- The state behind the refill that a cached load needs on a miss. -/
def State.loaded (s : State) (pa : Word) : State := if s.dcache.lookup pa = .miss then s.dRefill pa else s

section Loaded
variable (s : State) (pa : Word)

theorem State.loaded_of_miss {s : State} {pa : Word} (h : s.dcache.lookup pa = .miss) : s.loaded pa = s.dRefill pa := if_pos h

theorem State.loaded_of_hit {s : State} {pa : Word} {w : Way} (h : s.dcache.lookup pa = .hit w) : s.loaded pa = s :=
  if_neg (by simp [h])

theorem State.loaded_sameOuter : SameOuter s (s.loaded pa) := by
  unfold State.loaded
  split
  · exact s.dRefill_sameOuter pa
  · exact SameOuter.refl s

theorem State.loaded_cp0 : (s.loaded pa).cp0 = s.cp0 := by
  unfold State.loaded
  split
  · exact s.dRefill_cp0 pa
  · rfl

theorem State.loaded_icache : (s.loaded pa).icache = s.icache := by
  unfold State.loaded
  split
  · exact s.dRefill_icache pa
  · rfl

theorem State.loaded_bigEndianCpu : (s.loaded pa).bigEndianCpu = s.bigEndianCpu := by
  simp only [State.bigEndianCpu, s.loaded_cp0 pa, (s.loaded_sameOuter pa).boot]

theorem State.loaded_reg (r : Reg) : (s.loaded pa).reg r = s.reg r := (s.loaded_sameOuter pa).sameGpr r

end Loaded

/-- The frame of a cached load, from what stands behind its refill. -/
theorem cachedLoadFrame_of_sameOuter {pa : Word} {s u : State} (houter : SameOuter s u) (hcp0 : u.cp0 = s.cp0)
    (hicache : u.icache = s.icache)
    (hhit : (∃ w, s.dcache.lookup pa = .hit w) → SameBytes s u ∧ u.dcache = s.dcache ∧ LinkKept False s u)
    (hmiss : s.dcache.lookup pa = .miss →
      ∀ (i : BitVec 7) (w : Way) (old : DLine), i = lineIndex pa → w = s.dVictim i → old = s.dcache.line w i →
        Replaces s i w ∧ WrittenBack old i s u ∧ RefillsD w i s u ∧ u.dcache.lookup pa = .hit w ∧
        RefilledD pa (u.dcache.line w i) s ∧ LinkKept (LinkedLine s i old) s u) : CachedLoadFrame pa s u.memEnd :=
  ⟨houter.sameHiLo, hcp0, hicache, houter.sameOutside, houter.advanced, houter.recordsMem, hhit, hmiss⟩

theorem State.loaded_frame {s : State} (hram : s.platform = []) (pa : Word) :
    CachedLoadFrame pa s (s.loaded pa).memEnd := by
  refine cachedLoadFrame_of_sameOuter (s.loaded_sameOuter pa) (s.loaded_cp0 pa) (s.loaded_icache pa) ?hit ?miss
  case hit =>
    rintro ⟨w, hhit⟩
    rw [State.loaded_of_hit hhit]
    exact ⟨fun _ => rfl, rfl, LinkKept.of_same rfl rfl rfl⟩
  case miss =>
    rintro hmiss i w old hi hw hold
    rw [State.loaded_of_miss hmiss]
    subst hw
    refine ⟨s.dVictim_replaces i, State.dRefill_writtenBack hram hi hold, ?_, ?_, ?_, State.dRefill_link hmiss hi hold⟩
    all_goals subst hi
    · exact s.dRefill_refillsD pa
    · exact State.dRefill_lookup hmiss
    · exact State.dRefill_refilledD hram

theorem CachedLoadFrame.setReg {pa : Word} {s t : State} (h : CachedLoadFrame pa s t) (r : Reg) (v : DWord) :
    CachedLoadFrame pa s (t.setReg r v) := by
  unfold State.setReg
  split
  · exact h
  · exact h

/-! ## Loads -/

/-- A plain cached load reads the bytes that the cache or, on a miss, memory holds. -/
theorem State.load_cached {s : State} {sp : Span} {pa : Word} {alg : BitVec 3} {xs : List Nat}
    (h : CachedRam s sp.va pa alg false) (ha : sp.va.toNat % sp.align = 0)
    (hxs : sp.physical s.cp0.status.reverseEndian pa = xs) (hline : ∀ x ∈ xs, x / 32 = pa.toNat / 32) :
    s.load sp = .ok (xs.map (s.cachedByte pa), pa, alg) (s.loaded pa) := by
  have hready := State.dataReady_cached xs h
  obtain ⟨hmap, halg, ⟨htrans, hwindow, _, hram, _⟩, _⟩ := h
  have htwo : alg ≠ 2#3 := ne_two_of_cached halg
  have hcached : ¬alg = 2 := htwo
  have hrefill : (if s.needsRefill pa alg false then s.dRefill pa else s) = s.loaded pa := by
    cases hlook : s.dcache.lookup pa <;> simp [State.needsRefill, State.loaded, hlook, htwo]
  have hbytes : (s.loaded pa).readBytes pa alg xs = xs.map (s.cachedByte pa) := by
    refine List.map_congr_left fun x hx => ?_
    rw [if_neg hcached]
    unfold State.loaded
    split
    · exact State.cachedByte_dRefill hram ‹_› (hline x hx)
    · rfl
  rw [State.load, State.dataAddress_of false ⟨htrans, hwindow⟩ hmap ha, Access.bind_of_ok]
  simp only [hxs, hready, hrefill, hbytes, Access.bind_of_ok, State.afterRead]
  rw [if_neg hcached]

/-- The end of a cached load that writes a general register. -/
theorem gprLoad_cached {s : State} (hram : s.platform = []) (pa : Word) (rt : Reg) (d : DWord) :
    ∃ t, ((s.loaded pa).setReg rt d).doneMem = .next t ∧ WritesGpr rt d s t ∧ t.fpu = s.fpu ∧
      CachedLoadFrame pa s t := by
  have houter := s.loaded_sameOuter pa
  rw [State.doneMem_eq, State.memEnd_setReg]
  refine ⟨_, rfl, ⟨State.reg_setReg_self _ _ _, fun r hr => ?_⟩, ?_, (State.loaded_frame hram pa).setReg _ _⟩
  · exact (State.reg_setReg_ne _ _ hr).trans (houter.sameGpr r)
  · exact (State.setReg_fpu _ _ _).trans houter.fpu

/-- The end of a cached load that writes a floating-point register. -/
theorem fgrLoad_cached {s u : State} {pa : Word} (houter : SameOuter s u) (hframe : CachedLoadFrame pa s u.memEnd)
    (ft : Reg) (v : Word) :
    ∃ t, (u.setFgr ft v).doneMem = .next t ∧ SameGpr s t ∧ t.fgr ft = v ∧ (∀ g, g ≠ ft → t.fgr g = s.fgr g) ∧
      t.fpu.fcr31 = s.fpu.fcr31 ∧ CachedLoadFrame pa s t := by
  have hfgr : ∀ g, u.fgr g = s.fgr g := fun g => by simp only [State.fgr, houter.fpu]
  refine ⟨_, u.setFgr ft v |>.doneMem_eq, houter.sameGpr, ?_, fun g hg => ?_,
    (u.setFgr_fcr31 ft v).trans (congrArg Fpu.fcr31 houter.fpu), hframe⟩
  · exact (u.fgr_setFgr ft ft v).trans (if_pos rfl)
  · exact ((u.fgr_setFgr ft g v).trans (if_neg hg)).trans (hfgr g)

section Aligned
variable {s : State} {base rt : Reg} {offset : BitVec 16} {pa : Word} {alg : BitVec 3}
  (h : CachedRam s (s.ea base offset) pa alg false)
include h

theorem load_aligned_cached {n : Nat} (hn : n = 1 ∨ n = 2 ∨ n = 4 ∨ n = 8)
    (ha : (s.ea base offset).toNat % n = 0) :
    s.load (aligned (s.ea base offset) n) =
      .ok ((byteAddrs s pa n).map (s.cachedByte pa), pa, alg) (s.loaded pa) := by
  have haligned := h.1.alignedTo hn ha
  refine State.load_cached h ha (physical_aligned s _ n pa) fun x hx => ?_
  have := mem_byteAddrs_div haligned hx
  omega

theorem loadAligned_cached {n : Nat} (hn : n = 1 ∨ n = 2 ∨ n = 4 ∨ n = 8) (ha : (s.ea base offset).toNat % n = 0)
    (signed : Bool) :
    ∃ t, s.loadAligned n signed base rt offset = .next t ∧
      WritesGpr rt (if signed then (BitVec.ofNat (8 * n) (datum (s.cachedByte pa) s pa n)).signExtend 64
        else BitVec.ofNat 64 (datum (s.cachedByte pa) s pa n)) s t ∧ t.fpu = s.fpu ∧ CachedLoadFrame pa s t := by
  obtain ⟨_, _, ⟨_, _, _, hram, _⟩, _⟩ := id h
  rw [State.loadAligned, load_aligned_cached h hn ha, Access.finish_of_ok]
  dsimp only
  rw [State.loaded_bigEndianCpu, extendBytes, ← datum_eq]
  exact gprLoad_cached hram pa rt _

/-- LWC1 through the data cache (49_fpu_instructions R640). -/
theorem execLwc1_cached (ha : (s.ea base offset).toNat % 4 = 0) (hcp1 : Cp1Usable s) :
    ∃ t, execLwc1 base rt offset s = .next t ∧ SameGpr s t ∧
      t.fgr rt = BitVec.ofNat 32 (datum (s.cachedByte pa) s pa 4) ∧ (∀ g, g ≠ rt → t.fgr g = s.fgr g) ∧
      t.fpu.fcr31 = s.fpu.fcr31 ∧ CachedLoadFrame pa s t := by
  obtain ⟨_, _, ⟨_, _, _, hram, _⟩, _⟩ := id h
  rw [execLwc1, State.needCp1_of_usable hcp1, load_aligned_cached h (by decide) ha, Access.finish_of_ok]
  dsimp only
  rw [State.loaded_bigEndianCpu, ← datum_eq]
  exact fgrLoad_cached (s.loaded_sameOuter pa) (State.loaded_frame hram pa) rt _

end Aligned

end Sys2Proof.Machine

open Sys2Proof Sys2Proof.Machine

/-- Settles O48: each form is a load of its size (`loadAligned_cached`, `execLwc1_cached`), and what it leaves besides its
register is the state behind the refill (`State.loaded_frame`). -/
theorem cachedLoads : Obligations.CachedLoads := by
  intro s base rt offset pa alg h
  refine ⟨?gpr, fun ha hcp1 => execLwc1_cached h ha hcp1⟩
  simp only [List.forall_mem_cons]
  refine ⟨?lb, ?lbu, ?lh, ?lhu, ?lw, ?lwu, ?ld, List.forall_mem_nil _⟩
  case lb | lh | lw => exact fun ha _ => loadAligned_cached h (by decide) ha true
  case lbu | lhu => exact fun ha _ => loadAligned_cached h (by decide) ha false
  case lwu | ld =>
    intro ha may
    obtain ⟨t, ht, hrest⟩ := loadAligned_cached (rt := rt) h (by decide) ha false
    exact ⟨t, (State.need64_of_allowed may _).trans ht, hrest⟩

end

section
/-!
PROOF. Sys2Proof/Proofs/CachedStores.lean: stores through the data cache under every algorithm, hit or miss (21_caches R211 to
R214, R230, R247; 40_load_store R315 to R318; 80_system_interface R845).
-/

namespace Sys2Proof.Machine

/-! ## Bytes put into a line (R213, R230) -/

theorem DLine.putBytes_frame (par : Nat → Byte → Bool) (ws : List (Nat × Byte)) : ∀ l : DLine,
    l.putBytes par ws = { l with data := (l.putBytes par ws).data, par := (l.putBytes par ws).par } := by
  induction ws with
  | nil => exact fun _ => rfl
  | cons w ws ih =>
    obtain ⟨x, b⟩ := w
    exact fun l => ih { l with data := l.data.set (x % 32) b, par := l.par.set (x % 32) (par x b) }

section PutBytes
variable (par : Nat → Byte → Bool) {k : Nat} (hk : k < 32)

theorem DLine.putBytes_of_not_mem {ws : List (Nat × Byte)} (h : ∀ w ∈ ws, w.1 % 32 ≠ k) : ∀ l : DLine,
    (l.putBytes par ws).data[k] = l.data[k] ∧ (l.putBytes par ws).par[k] = l.par[k] := by
  induction ws with
  | nil => exact fun _ => ⟨rfl, rfl⟩
  | cons w ws ih =>
    obtain ⟨x, b⟩ := w
    intro l
    have hx : x % 32 ≠ k := h (x, b) (by simp)
    obtain ⟨hdata, hpar⟩ := ih (fun w hw => h w (by simp [hw]))
      { l with data := l.data.set (x % 32) b, par := l.par.set (x % 32) (par x b) }
    exact ⟨hdata.trans (Vector.getElem_set_ne (Nat.mod_lt _ (by decide)) hk hx),
      hpar.trans (Vector.getElem_set_ne (Nat.mod_lt _ (by decide)) hk hx)⟩

theorem DLine.putBytes_of_mem {x : Nat} {b : Byte} {ws : List (Nat × Byte)} (hx : x % 32 = k)
    (hn : (ws.map (·.1 % 32)).Nodup) (h : (x, b) ∈ ws) : ∀ l : DLine,
    (l.putBytes par ws).data[k] = b ∧ (l.putBytes par ws).par[k] = par x b := by
  induction ws with
  | nil => simp at h
  | cons w ws ih =>
    obtain ⟨y, c⟩ := w
    simp only [List.map_cons, List.nodup_cons] at hn
    obtain ⟨hy, hn⟩ := hn
    intro l
    rcases List.mem_cons.mp h with he | ht
    · cases he
      subst hx
      have later : ∀ w ∈ ws, w.1 % 32 ≠ x % 32 := fun w hw e => hy (List.mem_map.mpr ⟨w, hw, e⟩)
      obtain ⟨hdata, hpar⟩ := DLine.putBytes_of_not_mem par hk later
        { l with data := l.data.set (x % 32) b, par := l.par.set (x % 32) (par x b) }
      exact ⟨hdata.trans (Vector.getElem_set_self _), hpar.trans (Vector.getElem_set_self _)⟩
    · exact ih hn ht _

end PutBytes

/-! ## The line that a store leaves -/

/-- The line `l` behind a store of the bytes `ws` that hits it. -/
def State.storedLine (s : State) (alg : BitVec 3) (l : DLine) (ws : List (Nat × Byte)) : DLine :=
  if alg = 3 then (l.putBytes s.storeParity ws).stored else l.putBytes s.storeParity ws

section StoredLine
variable (s : State) (alg : BitVec 3) (l : DLine) (ws : List (Nat × Byte))

theorem State.storedLine_data : (s.storedLine alg l ws).data = (l.putBytes s.storeParity ws).data := by
  unfold State.storedLine
  split <;> rfl

theorem State.storedLine_par : (s.storedLine alg l ws).par = (l.putBytes s.storeParity ws).par := by
  unfold State.storedLine
  split <;> rfl

theorem State.storedLine_state : StoredState alg l (s.storedLine alg l ws) := by
  unfold State.storedLine StoredState
  rw [DLine.putBytes_frame]
  split
  · exact ⟨rfl, rfl, rfl, rfl, rfl, rfl, rfl⟩
  · exact ⟨rfl, rfl, rfl, rfl, rfl, rfl, rfl⟩

end StoredLine

theorem StoredState.holds {alg : BitVec 3} {o l : DLine} {pa : Word} (h : StoredState alg o l) (ho : o.Holds pa) :
    l.Holds pa := by
  obtain ⟨tag, _, _, hstate⟩ := h
  refine ⟨?_, tag.trans ho.2⟩
  split at hstate
  · simp [DLine.valid, hstate.1]
  · rw [DLine.valid, hstate.1]
    exact ho.1

/-- The store of some distinct bytes of the line containing `pa`. -/
structure StoreBytes (pa : Word) (xs : List Nat) (bs : List Byte) : Prop where
  line : ∀ x ∈ xs, x / 32 = pa.toNat / 32
  nodup : xs.Nodup
  length : bs.length = xs.length

section Bytes
variable {pa : Word} {xs : List Nat} {bs : List Byte} (h : StoreBytes pa xs bs) (s : State) (alg : BitVec 3) (o : DLine)
include h

theorem StoreBytes.offsets_nodup : ((xs.zip bs).map (·.1 % 32)).Nodup := by
  have hmap : (xs.zip bs).map (·.1 % 32) = xs.map (· % 32) := by
    conv_rhs => rw [← map_fst_zip_of_length h.length, List.map_map]
    rfl
  rw [hmap]
  refine List.Nodup.map_on (fun x hx y hy e => ?_) h.nodup
  have hx := h.line x hx
  have hy := h.line y hy
  omega

/-- The bytes of the line behind the store: those stored, with their parity, and the others as before. -/
theorem StoreBytes.storedLine_mem {x : Nat} {b : Byte} (hx : (x, b) ∈ xs.zip bs) {k : Nat} (hk : k < 32)
    (hxk : x % 32 = k) : (s.storedLine alg o (xs.zip bs)).data[k] = b ∧
      (s.storedLine alg o (xs.zip bs)).par[k] = s.storeParity x b := by
  simp only [State.storedLine_data, State.storedLine_par]
  exact DLine.putBytes_of_mem s.storeParity hk hxk h.offsets_nodup hx o

theorem StoreBytes.storedLine_not_mem {k : Nat} (hk : k < 32) (hxs : lineBaseOf pa + k ∉ xs) :
    (s.storedLine alg o (xs.zip bs)).data[k] = o.data[k] ∧ (s.storedLine alg o (xs.zip bs)).par[k] = o.par[k] := by
  simp only [State.storedLine_data, State.storedLine_par]
  refine DLine.putBytes_of_not_mem s.storeParity hk (fun w hw e => hxs ?_) o
  have hmem := (List.of_mem_zip hw).1
  rwa [← e, lineBaseOf_add_mod (h.line _ hmem)]

theorem StoreBytes.exists_mem_zip {x : Nat} (hx : x ∈ xs) : ∃ b, (x, b) ∈ xs.zip bs := by
  rw [← map_fst_zip_of_length h.length] at hx
  obtain ⟨⟨y, b⟩, hw, rfl⟩ := List.mem_map.mp hx
  exact ⟨b, hw⟩

/-- Reading the stored addresses off the line gives the stored bytes back. -/
theorem StoreBytes.map_storedLine : xs.map (fun x => (s.storedLine alg o (xs.zip bs)).data[x % 32]) = bs := by
  calc xs.map (fun x => (s.storedLine alg o (xs.zip bs)).data[x % 32])
      = ((xs.zip bs).map Prod.fst).map (fun x => (s.storedLine alg o (xs.zip bs)).data[x % 32]) := by
        rw [map_fst_zip_of_length h.length]
    _ = (xs.zip bs).map Prod.snd := by
        rw [List.map_map]
        refine List.map_congr_left fun w hw => ?_
        exact (h.storedLine_mem s alg o hw (Nat.mod_lt _ (by decide)) rfl).1
    _ = bs := List.map_snd_zip (Nat.le_of_eq h.length)

theorem StoreBytes.storesParity : StoresParity pa xs o.par (s.storedLine alg o (xs.zip bs)) s := by
  intro k
  have hoffset := lineBaseOf_add_mod_fin pa k
  split
  case isTrue hx =>
    obtain ⟨b, hb⟩ := h.exists_mem_zip hx
    obtain ⟨hdata, hpar⟩ := h.storedLine_mem s alg o hb k.isLt hoffset
    have hecc : (lineBaseOf pa + k) % 8 = k % 8 := by omega
    have hdata : (s.storedLine alg o (xs.zip bs)).data[k] = b := hdata
    rw [hdata]
    refine hpar.trans ?_
    simp only [State.storeParity, eccBit, eccByte, hecc]
  case isFalse hx => exact (h.storedLine_not_mem s alg o k.isLt hx).2

end Bytes

/-! ## The store itself -/

section WriteStore
variable (s : State) (va : DWord) (pa : Word) {alg : BitVec 3} (ws : List (Nat × Byte))

theorem State.writeStore_mem :
    (s.writeStore va pa alg ws).mem = if alg = 3 then s.mem else writeBytes s.platform s.mem ws := by
  unfold State.writeStore
  dsimp only
  split
  · split
    · rfl
    · split <;> rfl
  · rfl

variable {pa}

/-- A store that hits replaces its line, and does nothing else to the cache and the link. -/
theorem State.writeStore_of_hit (halg : alg ≠ 2#3) {w : Way} (hhit : s.dcache.lookup pa = .hit w) :
    let t := s.setDLine w (lineIndex pa) (s.storedLine alg (s.dcache.line w (lineIndex pa)) ws)
    (s.writeStore va pa alg ws).dcache = t.dcache ∧ (s.writeStore va pa alg ws).llBit = t.llBit := by
  have hcached : ¬alg = 2 := halg
  intro t
  unfold State.writeStore
  simp only [if_neg hcached, hhit]
  by_cases h3 : alg = 3
  · simp only [t, State.storedLine, if_pos h3, and_self]
  · simp only [t, State.storedLine, if_neg h3]
    exact ⟨rfl, rfl⟩

theorem State.writeStore_of_miss (hmiss : s.dcache.lookup pa = .miss) :
    (s.writeStore va pa alg ws).dcache = s.dcache ∧ (s.writeStore va pa alg ws).llBit = s.llBit := by
  unfold State.writeStore
  simp only [hmiss]
  split <;> split <;> exact ⟨rfl, rfl⟩

end WriteStore

section StoreHit
variable {s : State} {pa : Word} {w : Way} {alg : BitVec 3} {xs : List Nat} {bs : List Byte} (va : DWord)
  (halg : alg ≠ 2#3) (hhit : s.dcache.lookup pa = .hit w)
include halg hhit

theorem State.writeStore_line (ws : List (Nat × Byte)) :
    (s.writeStore va pa alg ws).dcache.line w (lineIndex pa) =
      s.storedLine alg (s.dcache.line w (lineIndex pa)) ws := by
  rw [(s.writeStore_of_hit va ws halg hhit).1, State.setDLine_line]

theorem State.writeStore_sameDLinesBut (ws : List (Nat × Byte)) :
    SameDLinesBut w (lineIndex pa) s (s.writeStore va pa alg ws) := by
  intro v j hvj
  rw [(s.writeStore_of_hit va ws halg hhit).1]
  exact s.setDLine_sameDLinesBut w (lineIndex pa) _ v j hvj

theorem State.writeStore_lookup (ws : List (Nat × Byte)) :
    (s.writeStore va pa alg ws).dcache.lookup pa = .hit w := by
  refine DCache.lookup_hit_of_sameDLinesBut hhit ?_ (State.writeStore_sameDLinesBut va halg hhit ws)
  rw [State.writeStore_line va halg hhit]
  exact (s.storedLine_state alg _ ws).holds ((DCache.lookup_eq_hit _ _ _).1 hhit).1

/-- A store breaks the link when it makes the linked line Dirty Exclusive (log 39). -/
theorem State.writeStore_link (ws : List (Nat × Byte)) {o : DLine} (ho : o = s.dcache.line w (lineIndex pa)) :
    LinkKept (alg = 3 ∧ o.cs ≠ 3 ∧ LinkedLine s (lineIndex pa) o) s (s.writeStore va pa alg ws) := by
  subst ho
  have houter := s.writeStore_sameOuter va pa alg ws
  have hbit := (s.writeStore_of_hit va ws halg hhit).2
  obtain ⟨tag, _, _, hstate⟩ := s.storedLine_state alg (s.dcache.line w (lineIndex pa)) ws
  split at hstate
  case isTrue h3 =>
    obtain ⟨_, _, h⟩ := State.setDLine_link_of_exclusive tag hstate.1
    refine ⟨houter.llAddr, houter.llSeen, hbit ▸ h.trans ?_⟩
    simp only [h3, true_and, and_comm]
  case isFalse h3 =>
    obtain ⟨_, _, h⟩ := State.setDLine_link_of_same tag hstate.1
    refine ⟨houter.llAddr, houter.llSeen, hbit ▸ h.trans ?_⟩
    simp only [h3, false_and]

variable (hbytes : StoreBytes pa xs bs)
include hbytes

theorem State.map_cachedByte_writeStore :
    xs.map ((s.writeStore va pa alg (xs.zip bs)).cachedByte pa) = bs := by
  have hread : (s.writeStore va pa alg (xs.zip bs)).cachedByte pa =
      fun x => (s.storedLine alg (s.dcache.line w (lineIndex pa)) (xs.zip bs)).data[x % 32] := by
    funext x
    rw [State.cachedByte_of_hit (State.writeStore_lookup va halg hhit _), State.writeStore_line va halg hhit]
  rw [hread]
  exact hbytes.map_storedLine s alg _

theorem State.cachedByte_writeStore {x : Nat} (hx : x ∈ lineBytes (lineBaseOf pa)) (hxs : x ∉ xs) :
    (s.writeStore va pa alg (xs.zip bs)).cachedByte pa x = s.cachedByte pa x := by
  rw [State.cachedByte_of_hit (State.writeStore_lookup va halg hhit _), State.cachedByte_of_hit hhit,
    State.writeStore_line va halg hhit]
  refine (hbytes.storedLine_not_mem s alg _ (Nat.mod_lt _ (by decide)) ?_).1
  rwa [lineBaseOf_add_mod (mem_lineBytes_lineBaseOf.1 hx)]

end StoreHit

/-! ## Memory behind a store -/

section StoreMemory
variable {s : State} (hram : s.platform = []) (va : DWord) {pa : Word} {alg : BitVec 3} {xs : List Nat} {bs : List Byte}

theorem State.writeStore_sameBytesBut :
    SameBytesBut (if alg = 3 then [] else xs) s (s.writeStore va pa alg (xs.zip bs)) := by
  intro a ha
  rw [State.writeStore_mem]
  split
  · rfl
  · next h3 =>
    rw [if_neg h3] at ha
    exact get_writeBytes_of_not_mem _ _ _ (ne_of_mem_zip ha)

include hram

theorem State.map_mem_writeStore (hbytes : StoreBytes pa xs bs) (h3 : alg ≠ 3) :
    xs.map (s.writeStore va pa alg (xs.zip bs)).mem.get = bs := by
  rw [State.writeStore_mem, if_neg h3, hram]
  exact map_get_writeBytes s.mem hbytes.nodup hbytes.length

end StoreMemory

/-! ## The three ways of a store -/

/-- What a store of the bytes `bs` at `xs` does to the data cache, memory and the link (`CachedStoreFrame` has the rest). -/
structure CacheStored (pa : Word) (alg : BitVec 3) (xs : List Nat) (bs : List Byte) (s t : State) : Prop where
  cached : xs.map (t.cachedByte pa) = bs
  memory : alg ≠ 3 → xs.map t.mem.get = bs
  others : ∀ x ∈ lineBytes (lineBaseOf pa), x ∉ xs → t.cachedByte pa x = s.cachedByte pa x
  written : alg = 3 → ∃ w, t.dcache.lookup pa = .hit w ∧ (t.dcache.line w (lineIndex pa)).w = true ∧
    (t.dcache.line w (lineIndex pa)).cs = 3
  hit : ∀ (w : Way) (o l : DLine), s.dcache.lookup pa = .hit w → o = s.dcache.line w (lineIndex pa) →
    l = t.dcache.line w (lineIndex pa) →
    SameDLinesBut w (lineIndex pa) s t ∧ SameBytesBut (if alg = 3 then [] else xs) s t ∧ StoredState alg o l ∧
    StoresParity pa xs o.par l s ∧ LinkKept (alg = 3 ∧ o.cs ≠ 3 ∧ LinkedLine s (lineIndex pa) o) s t
  passed : s.dcache.lookup pa = .miss → alg = 0 → t.dcache = s.dcache ∧ SameBytesBut xs s t ∧ LinkKept False s t
  refilled : s.dcache.lookup pa = .miss → alg ≠ 0 → ∀ (i : BitVec 7) (v : Way) (old : DLine), i = lineIndex pa →
    v = s.dVictim i → old = s.dcache.line v i →
    Replaces s i v ∧ t.dcache.lookup pa = .hit v ∧ RefillsD v i s t ∧
    SameBytesBut ((if alg = 3 then [] else xs) ++ (if old.dirty then lineBytes (lineBase old.tag i) else [])) s t ∧
    (old.dirty → ∀ k : Fin 32, t.mem.get (lineBase old.tag i + k) = old.data[k]) ∧ LinkKept (LinkedLine s i old) s t ∧
    ∀ l : DLine, l = t.dcache.line v i →
      l.tag = lineTag pa ∧ l.tagHi = 0 ∧ l.cs = 3 ∧ l.tagPar = parity (l.tag ++ l.cs) ∧ l.w = decide (alg = 3) ∧
      l.wPar = l.w ∧ StoresParity pa xs (l.data.map parity) l s

theorem CacheStored.frame {pa : Word} {alg : BitVec 3} {xs : List Nat} {bs : List Byte} {s t : State}
    (h : CacheStored pa alg xs bs s t) (houter : SameOuter s t) (hcp0 : t.cp0 = s.cp0) (hicache : t.icache = s.icache) :
    CachedStoreFrame pa alg xs s t.memEnd := by
  refine ⟨houter.sameGpr, houter.sameHiLo, houter.fpu, hcp0, hicache, houter.sameOutside, houter.advanced,
    houter.recordsMem, ?_⟩
  rintro i v old rfl hv hold
  exact ⟨h.others, h.written, h.hit, fun hmiss => ⟨h.passed hmiss, fun h0 => h.refilled hmiss h0 _ v old rfl hv hold⟩⟩

theorem CacheStored.memEnd {pa : Word} {alg : BitVec 3} {xs : List Nat} {bs : List Byte} {s t : State}
    (h : CacheStored pa alg xs bs s t) : CacheStored pa alg xs bs s t.memEnd :=
  ⟨h.cached, h.memory, h.others, h.written, h.hit, h.passed, h.refilled⟩

theorem StoredState.written {alg : BitVec 3} {o l : DLine} (h : StoredState alg o l) (h3 : alg = 3) :
    l.w = true ∧ l.cs = 3 := by
  obtain ⟨_, _, _, hstate⟩ := h
  rw [if_pos h3] at hstate
  exact ⟨hstate.2.2.1, hstate.1⟩

/-- The line of a refill behind the store that hits it: Dirty Exclusive, and marked written under algorithm 3 (R213, R214). -/
theorem refilled_then_stored {pa : Word} {alg : BitVec 3} {xs : List Nat} {o l : DLine} {s u : State}
    (ho : RefilledD pa o s) (hstate : StoredState alg o l) (hpar : StoresParity pa xs o.par l u)
    (hkept : ∀ k : Fin 32, lineBaseOf pa + k ∉ xs → l.data[k] = o.data[k]) (hcp0 : u.cp0 = s.cp0)
    (hboot : u.boot = s.boot) :
    l.tag = lineTag pa ∧ l.tagHi = 0 ∧ l.cs = 3 ∧ l.tagPar = parity (l.tag ++ l.cs) ∧ l.w = decide (alg = 3) ∧
      l.wPar = l.w ∧ StoresParity pa xs (l.data.map parity) l s := by
  obtain ⟨tag, tagHi, cs, tagPar, w, wPar, bytes⟩ := ho
  obtain ⟨tag', tagHi', _, hstate⟩ := hstate
  refine ⟨tag'.trans tag, tagHi'.trans tagHi, ?_⟩
  have hparity : StoresParity pa xs (l.data.map parity) l s := by
    intro k
    have hk := hpar k
    simp only [eccByte, hcp0, hboot] at hk
    rw [hk]
    split
    · rfl
    · next hx =>
      rw [(bytes k).2, ← hkept k hx]
      exact (Vector.getElem_map parity k.isLt).symm
  split at hstate
  case isTrue h3 =>
    obtain ⟨cs', tagPar', w', wPar'⟩ := hstate
    exact ⟨cs', tagPar', by simp [w', h3], wPar'.trans w'.symm, hparity⟩
  case isFalse h3 =>
    obtain ⟨cs', tagPar', w', wPar'⟩ := hstate
    refine ⟨cs'.trans cs, ?_, by simpa [w', w] using h3, by rw [wPar', w', wPar, w], hparity⟩
    rw [tagPar', tagPar, tag', cs']

section Ways
variable {s : State} (hram : s.platform = []) (va : DWord) {pa : Word} {alg : BitVec 3} (halg : alg ≠ 2#3)
  {xs : List Nat} {bs : List Byte} (hbytes : StoreBytes pa xs bs)
include hram halg hbytes

theorem cacheStored_of_hit {w : Way} (hhit : s.dcache.lookup pa = .hit w) :
    CacheStored pa alg xs bs s (s.writeStore va pa alg (xs.zip bs)) where
  cached := State.map_cachedByte_writeStore va halg hhit hbytes
  memory := State.map_mem_writeStore hram va hbytes
  others _ hx hxs := State.cachedByte_writeStore va halg hhit hbytes hx hxs
  written h3 := by
    refine ⟨w, State.writeStore_lookup va halg hhit _, ?_⟩
    rw [State.writeStore_line va halg hhit]
    exact (s.storedLine_state alg _ _).written h3
  hit v o l hv ho hl := by
    obtain rfl : w = v := by simpa [hhit] using hv
    rw [State.writeStore_line va halg hhit, ← ho] at hl
    subst hl
    exact ⟨State.writeStore_sameDLinesBut va halg hhit _, State.writeStore_sameBytesBut va, s.storedLine_state alg o _,
      hbytes.storesParity s alg o, State.writeStore_link va halg hhit _ ho⟩
  passed hmiss := by simp [hhit] at hmiss
  refilled hmiss := by simp [hhit] at hmiss

omit halg in
/-- A store that misses under algorithm 0 goes past the cache (R211). -/
theorem cacheStored_of_pass (hmiss : s.dcache.lookup pa = .miss) (h0 : alg = 0) :
    CacheStored pa alg xs bs s (s.writeStore va pa alg (xs.zip bs)) := by
  have h3 : alg ≠ 3 := by simp [h0]
  obtain ⟨hdcache, hbit⟩ := s.writeStore_of_miss va (alg := alg) (xs.zip bs) hmiss
  have hmiss' : (s.writeStore va pa alg (xs.zip bs)).dcache.lookup pa = .miss := hdcache ▸ hmiss
  have hread : (s.writeStore va pa alg (xs.zip bs)).cachedByte pa = (s.writeStore va pa alg (xs.zip bs)).mem.get :=
    funext fun x => State.cachedByte_of_miss hmiss' x
  have hbut : SameBytesBut xs s (s.writeStore va pa alg (xs.zip bs)) := by
    simpa only [if_neg h3] using State.writeStore_sameBytesBut (s := s) (pa := pa) (alg := alg) (xs := xs) (bs := bs) va
  have houter := s.writeStore_sameOuter va pa alg (xs.zip bs)
  exact {
    cached := hread ▸ State.map_mem_writeStore hram va hbytes h3
    memory := State.map_mem_writeStore hram va hbytes
    others := fun x _ hxs => by rw [hread, State.cachedByte_of_miss hmiss, hbut x hxs]
    written := fun h => absurd h h3
    hit := fun w o l hhit => by simp [hmiss] at hhit
    passed := fun _ _ => ⟨hdcache, hbut, LinkKept.of_same hbit houter.llAddr houter.llSeen⟩
    refilled := fun _ h => absurd h0 h }

/-- A store that misses under another algorithm hits the line that its refill brings (R213, R214). -/
theorem cacheStored_of_refill (hmiss : s.dcache.lookup pa = .miss) (h0 : alg ≠ 0) :
    CacheStored pa alg xs bs s ((s.dRefill pa).writeStore va pa alg (xs.zip bs)) := by
  have houter := s.dRefill_sameOuter pa
  have hhit := State.dRefill_lookup hmiss
  have stored := cacheStored_of_hit (houter.platform.trans hram) va halg hbytes hhit
  refine
    { cached := stored.cached, memory := stored.memory, others := fun x hx hxs => ?others, written := stored.written,
      hit := fun w o l h => by simp [hmiss] at h, passed := fun _ h => absurd h h0, refilled := ?refilled }
  case others =>
    exact (stored.others x hx hxs).trans (State.cachedByte_dRefill hram hmiss (mem_lineBytes_lineBaseOf.1 hx))
  case refilled =>
    rintro _ _ _ v old rfl hv hold
    subst hv
    obtain ⟨hlines, hbut, hstate, hparity, hlink⟩ := stored.hit _ _ _ hhit rfl rfl
    obtain ⟨tag, tagHi, f, hcs⟩ := id hstate
    obtain ⟨rtag, rtagHi, rcs, rtagPar, rw', rwPar, rdata⟩ := State.dRefill_refilledD (s := s) (pa := pa) hram
    obtain ⟨rothers, rf, rsame⟩ := s.dRefill_refillsD pa
    have hvictim := s.dRefill_sameBytesBut pa rfl hold
    refine ⟨s.dVictim_replaces _, State.writeStore_lookup va halg hhit _, ⟨?_, ?_, ?_⟩, ?_, ?_, ?_, ?_⟩
    · exact fun w j hj => (hlines w j fun e => hj e.2).trans (rothers w j hj)
    · by_cases ha : Way.a = s.dVictim (lineIndex pa)
      · rw [ha] at rf ⊢
        exact f.trans rf
      · rw [hlines _ _ fun e => ha e.1]
        exact rf
    · intro w hw
      rw [hlines w _ fun e => hw e.1]
      exact rsame w hw
    · intro a ha
      rw [List.mem_append, not_or] at ha
      exact (hbut a ha.1).trans (hvictim a ha.2)
    · intro hdirty k
      have hvalid : old.valid = true := by
        simp only [DLine.dirty, Bool.and_eq_true] at hdirty
        exact hdirty.1
      have hback := State.dRefill_writtenBack hram rfl hold
      rw [WrittenBack, if_pos hdirty] at hback
      refine (hbut _ fun hmem => ?_).trans (hback.1 k)
      have hxs : lineBase old.tag (lineIndex pa) + k ∈ xs := by
        split at hmem
        · cases hmem
        · exact hmem
      subst hold
      exact not_mem_lineBytes_of_tag_ne (tag_ne_of_miss hmiss hvalid) (hbytes.line _ hxs) (mem_lineBytes_of_fin _ k)
    · refine ((State.dRefill_link hmiss rfl hold).trans hlink).of_iff ?_
      simp [rcs]
    · rintro _ rfl
      refine refilled_then_stored (State.dRefill_refilledD hram) hstate hparity (fun k hk => ?_) (s.dRefill_cp0 pa)
        houter.boot
      rw [State.writeStore_line va halg hhit]
      exact (hbytes.storedLine_not_mem _ alg _ k.isLt hk).1

end Ways

/-! ## Stores -/

/-- The state behind the refill that a cached store needs. -/
def State.storeBegun (s : State) (pa : Word) (alg : BitVec 3) : State :=
  if s.needsRefill pa alg true then s.dRefill pa else s

section Begun
variable (s : State) (pa : Word) (alg : BitVec 3)

theorem State.storeBegun_sameOuter : SameOuter s (s.storeBegun pa alg) := by
  unfold State.storeBegun
  split
  · exact s.dRefill_sameOuter pa
  · exact SameOuter.refl s

theorem State.storeBegun_cp0 : (s.storeBegun pa alg).cp0 = s.cp0 := by
  unfold State.storeBegun
  split
  · exact s.dRefill_cp0 pa
  · rfl

theorem State.storeBegun_icache : (s.storeBegun pa alg).icache = s.icache := by
  unfold State.storeBegun
  split
  · exact s.dRefill_icache pa
  · rfl

end Begun

section Store
variable {s : State} {sp : Span} {pa : Word} {alg : BitVec 3} (h : CachedRam s sp.va pa alg true)
include h

theorem cacheStored_of_store {xs : List Nat} {bs : List Byte} (hbytes : StoreBytes pa xs bs) :
    CacheStored pa alg xs bs s ((s.storeBegun pa alg).writeStore sp.va pa alg (xs.zip bs)) := by
  obtain ⟨_, halg, ⟨_, _, _, hram, _⟩, _, hboth⟩ := h
  have htwo : alg ≠ 2#3 := ne_two_of_cached halg
  unfold State.storeBegun
  cases hlook : s.dcache.lookup pa with
  | both => exact absurd hlook hboth
  | hit w =>
    rw [if_neg (by simp [State.needsRefill, hlook])]
    exact cacheStored_of_hit hram sp.va htwo hbytes hlook
  | miss =>
    by_cases h0 : alg = 0
    · rw [if_neg (by simp [State.needsRefill, h0])]
      exact cacheStored_of_pass hram sp.va hbytes hlook h0
    · have hrefill : s.needsRefill pa alg true = true := by
        simpa [State.needsRefill, hlook, htwo] using h0
      rw [if_pos hrefill]
      exact cacheStored_of_refill hram sp.va htwo hbytes hlook h0

/-- A plain cached store writes its bytes, behind a refill where it needs one. -/
theorem State.store_cached (ha : sp.va.toNat % sp.align = 0) (bs : List Byte) :
    s.store sp bs = .ok () ((s.storeBegun pa alg).writeStore sp.va pa alg
      ((sp.physical s.cp0.status.reverseEndian pa).zip bs)) := by
  have hready := State.dataReady_cached (sp.physical s.cp0.status.reverseEndian pa) h
  obtain ⟨hmap, _, ⟨htrans, hwindow, _, hram, _⟩, _⟩ := h
  have hplatform : (s.storeBegun pa alg).platform = [] := (s.storeBegun_sameOuter pa alg).platform.trans hram
  rw [State.store, State.storeReady, State.dataAddress_of true ⟨htrans, hwindow⟩ hmap ha, Access.bind_of_ok]
  dsimp only
  rw [hready, Access.bind_of_ok, Access.bind_of_ok, ← State.storeBegun]
  dsimp only
  rw [if_neg (by simp [hplatform])]

/-- The end of a cached store. -/
theorem store_cached_ends (ha : sp.va.toNat % sp.align = 0) {xs : List Nat} {bs : List Byte}
    (hxs : sp.physical s.cp0.status.reverseEndian pa = xs) (hbytes : StoreBytes pa xs bs) :
    ∃ t, (s.store sp bs).finish (fun _ s => s.doneMem) = .next t ∧ CacheStored pa alg xs bs s t ∧
      CachedStoreFrame pa alg xs s t := by
  have stored := cacheStored_of_store h hbytes
  have begun := s.storeBegun_sameOuter pa alg
  have wrote := (s.storeBegun pa alg).writeStore_sameOuter sp.va pa alg (xs.zip bs)
  have hcp0 := ((s.storeBegun pa alg).writeStore_cp0 sp.va pa alg (xs.zip bs)).trans (s.storeBegun_cp0 pa alg)
  have hicache := ((s.storeBegun pa alg).writeStore_icache sp.va pa alg (xs.zip bs)).trans (s.storeBegun_icache pa alg)
  rw [State.store_cached h ha, hxs, Access.finish_of_ok]
  exact ⟨_, State.doneMem_eq _, stored.memEnd, stored.frame (begun.trans wrote) hcp0 hicache⟩

end Store

section Aligned
variable {s : State} {base rt : Reg} {offset : BitVec 16} {pa : Word} {alg : BitVec 3}
  (h : CachedRam s (s.ea base offset) pa alg true)
include h

theorem storeAligned_cached {n : Nat} (hn : n = 1 ∨ n = 2 ∨ n = 4 ∨ n = 8) (v : Nat)
    (ha : (s.ea base offset).toNat % n = 0) :
    ∃ t, s.storeAligned n v base offset = .next t ∧ datum (t.cachedByte pa) s pa n = v % 256 ^ n ∧
      (alg ≠ 3 → datum t.mem.get s pa n = v % 256 ^ n) ∧ CachedStoreFrame pa alg (byteAddrs s pa n) s t := by
  have haligned := h.1.alignedTo hn ha
  have hbytes : StoreBytes pa (byteAddrs s pa n) (toBytes s.bigEndianCpu n v) := by
    refine ⟨fun x hx => ?_, byteAddrs_nodup haligned, ?_⟩
    · have := mem_byteAddrs_div haligned hx
      omega
    · rw [toBytes_length, byteAddrs_length]
  obtain ⟨t, ht, stored, frame⟩ := store_cached_ends (sp := aligned (s.ea base offset) n) h ha
    (physical_aligned s _ n pa) hbytes
  refine ⟨t, ht, ?_, fun h3 => ?_, frame⟩
  · rw [datum_eq, stored.cached, fromBytes_toBytes]
  · rw [datum_eq, stored.memory h3, fromBytes_toBytes]

end Aligned

end Sys2Proof.Machine

open Sys2Proof Sys2Proof.Machine

/-- Settles O49: each form is a store of its size (`storeAligned_cached`), which hits, goes past the cache or hits the line of
its refill (`cacheStored_of_hit`, `cacheStored_of_pass`, `cacheStored_of_refill`). -/
theorem cachedStores : Obligations.CachedStores := by
  intro s base rt offset pa alg h
  simp only [List.forall_mem_cons]
  refine ⟨?sb, ?sh, ?sw, ?sd, ?swc1, List.forall_mem_nil _⟩
  case sb | sh | sw => exact fun ha _ => storeAligned_cached h (by decide) _ ha
  case sd =>
    intro ha may
    obtain ⟨t, ht, hrest⟩ := storeAligned_cached h (by decide) (s.reg rt).toNat ha
    exact ⟨t, (State.need64_of_allowed may _).trans ht, hrest⟩
  case swc1 =>
    intro ha may
    obtain ⟨t, ht, hrest⟩ := storeAligned_cached h (by decide) (s.fgr rt).toNat ha
    exact ⟨t, (State.needCp1_of_usable may _).trans ht, hrest⟩

end

section
/-!
PROOF. Sys2Proof/Proofs/CachedParts.lean: the unaligned loads and stores through the data cache, hit or miss (40_load_store
R310 to R323; 21_caches R211 to R214, R230, R247).
-/

namespace Sys2Proof.Machine

/-! ## The number that a part of a unit stands for -/

section Numbers
variable (bigEndian left : Bool) {size o : Nat} (ho : o < size)
include ho

theorem fromBytes_partBytes {bs : List Byte} (hlen : bs.length = size) :
    fromBytes bigEndian (partBytes bigEndian left size o bs) =
      if left then fromBytes bigEndian bs % 256 ^ (size - o) else fromBytes bigEndian bs / 256 ^ (size - (o + 1)) := by
  subst hlen
  cases left
  · exact fromBytes_highBytes bigEndian bs
  · exact fromBytes_lowBytes bigEndian bs (Nat.sub_le _ _)

/-- The register behind a load of a part of a unit. -/
theorem mergePart_eq {bs : List Byte} (hlen : bs.length = size) {r : Nat} (hr : r < 2 ^ (8 * size)) {n : Nat}
    (hn : n = if left then size - o else o + 1) :
    (if left then mergeLeft (8 * size) n r (fromBytes bigEndian (partBytes bigEndian left size o bs))
      else mergeRight (8 * size) n r (fromBytes bigEndian (partBytes bigEndian left size o bs))) =
    if left then loadedLeft size o (fromBytes bigEndian bs) r else loadedRight size o (fromBytes bigEndian bs) r := by
  rw [fromBytes_partBytes bigEndian left ho hlen, hn]
  cases left
  · exact mergeRight_eq_loadedRight _ r hr
  · exact mergeLeft_eq_loadedLeft ho _ r

/-- The unit behind a store of a part of it. -/
theorem fromBytes_storedPart {units : List Nat} (hlen : units.length = size) (hnodup : units.Nodup)
    {read read' : Nat → Byte} {r : Nat} (hr : r < 2 ^ (8 * size)) {n : Nat} (hn : n = if left then size - o else o + 1)
    (hstored : (partBytes bigEndian left size o units).map read' =
      toBytes bigEndian n (if left then r / 2 ^ (8 * (size - n)) else r))
    (hkept : ∀ x ∈ units, x ∉ partBytes bigEndian left size o units → read' x = read x) :
    fromBytes bigEndian (units.map read') =
      if left then storedLeft size o (fromBytes bigEndian (units.map read)) r
      else storedRight size o (fromBytes bigEndian (units.map read)) r := by
  cases left
  case false =>
    obtain rfl : n = o + 1 := hn
    have hlow : (lowBytes bigEndian (size - (o + 1)) units).map read' =
        (lowBytes bigEndian (size - (o + 1)) units).map read :=
      List.map_congr_left fun x hx => hkept x ((lowBytes_sublist _ _ _).subset hx) fun hmem =>
        not_mem_lowBytes_of_mem_highBytes bigEndian hnodup (by omega) x hmem hx
    have hhigh : (highBytes bigEndian (o + 1) units).map read' = toBytes bigEndian (o + 1) r := hstored
    rw [fromBytes_eq_low_add_high bigEndian (n := size - (o + 1)) (m := o + 1) (units.map read') (by simp [hlen]; omega),
      ← map_lowBytes, ← map_highBytes, hlow, hhigh, fromBytes_toBytes, map_lowBytes,
      fromBytes_lowBytes _ _ (by simp [hlen])]
    exact low_add_high_eq_storedRight ho _ r
  case true =>
    obtain rfl : n = size - o := hn
    have hhigh : (highBytes bigEndian o units).map read' = (highBytes bigEndian o units).map read :=
      List.map_congr_left fun x hx => hkept x ((highBytes_sublist _ _ _).subset hx)
        (not_mem_lowBytes_of_mem_highBytes bigEndian hnodup (by omega) x hx)
    have hlow : (lowBytes bigEndian (size - o) units).map read' =
        toBytes bigEndian (size - o) (r / 2 ^ (8 * (size - (size - o)))) := hstored
    rw [fromBytes_eq_low_add_high bigEndian (n := size - o) (m := o) (units.map read') (by simp [hlen]; omega),
      ← map_lowBytes, ← map_highBytes, hlow, hhigh, fromBytes_toBytes, map_highBytes, fromBytes_highBytes,
      List.length_map, hlen]
    exact low_add_high_eq_storedLeft ho _ r hr

end Numbers

/-! ## The span of a part -/

theorem partSpan_va (bigEndian left : Bool) (size : Nat) (va : DWord) : (partSpan bigEndian left size va).va = va := by
  cases bigEndian <;> cases left <;> rfl

theorem partSpan_align (bigEndian left : Bool) (size : Nat) (va : DWord) :
    (partSpan bigEndian left size va).align = 1 := by
  cases bigEndian <;> cases left <;> rfl

/-- The address of a part is aligned as its access asks, to one byte. -/
theorem partSpan_aligned (bigEndian left : Bool) (size : Nat) (va : DWord) :
    (partSpan bigEndian left size va).va.toNat % (partSpan bigEndian left size va).align = 0 := by
  rw [partSpan_align, Nat.mod_one]

theorem low32_eq_mod (v : DWord) : (low32 v).toNat = v.toNat % 2 ^ (8 * 4) := low32_toNat v

section Parts
variable {s : State} {va : DWord} {pa : Word} {alg : BitVec 3} {size : Nat} (hsize : size = 4 ∨ size = 8)
include hsize

/-- The bytes of the unit lie in the line of the address. -/
theorem mem_unit_line {x : Nat} (hx : x ∈ byteAddrs s (unitOf pa size) size) : x / 32 = pa.toNat / 32 := by
  have h8 := mem_byteAddrs_div (unitOf_alignedTo pa hsize) hx
  rw [unitOf_div pa hsize] at h8
  omega

/-! ## Loads -/

theorem load_part_cached (left : Bool) (h : CachedRam s va pa alg false) :
    s.load (partSpan s.bigEndianCpu left size va) =
      .ok (partBytes s.bigEndianCpu left size (bytesBefore s.bigEndianCpu size (pa.toNat % size))
        ((byteAddrs s (unitOf pa size) size).map (s.cachedByte pa)), pa, alg) (s.loaded pa) := by
  have hoff : pa.toNat % size = va.toNat % size := h.1.mod (by omega)
  have hbytes : ∀ bs : List Nat, (partBytes s.bigEndianCpu left size
      (bytesBefore s.bigEndianCpu size (pa.toNat % size)) bs).map (s.cachedByte pa) =
      partBytes s.bigEndianCpu left size (bytesBefore s.bigEndianCpu size (pa.toNat % size))
        (bs.map (s.cachedByte pa)) := by
    cases left
    · exact map_highBytes _ _ _
    · exact map_lowBytes _ _ _
  rw [← hbytes]
  refine State.load_cached (by rwa [partSpan_va]) (partSpan_aligned _ _ _ _) (physical_partSpan hsize hoff left)
    fun x hx => mem_unit_line hsize ((partBytes_sublist _ _ _ _ _).subset hx)

/-! ## Stores -/

theorem partStoreBytes (left : Bool) (hoff : pa.toNat % size = va.toNat % size) (v : Nat) :
    StoreBytes pa (partBytes s.bigEndianCpu left size (bytesBefore s.bigEndianCpu size (pa.toNat % size))
      (byteAddrs s (unitOf pa size) size)) (toBytes s.bigEndianCpu (partSpan s.bigEndianCpu left size va).n v) := by
  refine ⟨fun x hx => mem_unit_line hsize ((partBytes_sublist _ _ _ _ _).subset hx),
    (byteAddrs_nodup (unitOf_alignedTo pa hsize)).sublist (partBytes_sublist _ _ _ _ _), ?_⟩
  rw [← physical_partSpan hsize hoff left, toBytes_length]
  simp [Span.physical]

end Parts

/-- Where a store writes memory, no other byte of its line changes there. -/
theorem CacheStored.memory_others {pa : Word} {alg : BitVec 3} {xs : List Nat} {bs : List Byte} {s t : State}
    (h : CacheStored pa alg xs bs s t) (hboth : s.dcache.lookup pa ≠ .both) (h3 : alg ≠ 3) {x : Nat}
    (hline : x / 32 = pa.toNat / 32) (hx : x ∉ xs) : t.mem.get x = s.mem.get x := by
  cases hlook : s.dcache.lookup pa with
  | both => exact absurd hlook hboth
  | hit w =>
    obtain ⟨_, hbut, _⟩ := h.hit w _ _ hlook rfl rfl
    rw [if_neg h3] at hbut
    exact hbut x hx
  | miss =>
    by_cases h0 : alg = 0
    · exact (h.passed hlook h0).2.1 x hx
    · obtain ⟨_, _, _, hbut, _⟩ := h.refilled hlook h0 _ _ _ rfl rfl rfl
      rw [if_neg h3] at hbut
      refine hbut x fun hmem => (List.mem_append.mp hmem).elim hx fun hvictim => ?_
      split at hvictim
      · next hdirty =>
        simp only [DLine.dirty, Bool.and_eq_true] at hdirty
        exact not_mem_lineBytes_of_tag_ne (tag_ne_of_miss hlook hdirty.1) hline hvictim
      · cases hvictim

section Ends
variable {s : State} {base rt : Reg} {offset : BitVec 16} {pa : Word} {alg : BitVec 3} {size o v r : Nat} (left : Bool)
  (hsize : size = 4 ∨ size = 8) (ho : o = bytesBefore s.bigEndianCpu size (pa.toNat % size))
  (hr : r = (s.reg rt).toNat % 2 ^ (8 * size))

include hsize ho hr in
/-- What an unaligned load reads, and the number that it merges into its register. -/
theorem load_part_merges (h : CachedRam s (s.ea base offset) pa alg false)
    (hv : v = datum (s.cachedByte pa) s (unitOf pa size) size) :
    ∃ bs, s.load (partSpan s.bigEndianCpu left size (s.ea base offset)) = .ok (bs, pa, alg) (s.loaded pa) ∧
      (if left then mergeLeft (8 * size) (partSpan s.bigEndianCpu left size (s.ea base offset)).n r
          (fromBytes s.bigEndianCpu bs)
        else mergeRight (8 * size) (partSpan s.bigEndianCpu left size (s.ea base offset)).n r
          (fromBytes s.bigEndianCpu bs)) =
      if left then loadedLeft size o v r else loadedRight size o v r := by
  have hoff : pa.toNat % size = (s.ea base offset).toNat % size := h.1.mod (by omega)
  refine ⟨_, load_part_cached hsize left h, ?_⟩
  rw [← ho, hv, datum_eq]
  exact mergePart_eq s.bigEndianCpu left (ho ▸ bytesBefore_lt hsize hoff) (by simp [byteAddrs_length])
    (hr ▸ Nat.mod_lt _ (by positivity)) (ho ▸ partSpan_n hsize hoff left)

theorem loadWordPart_cached (h : CachedRam s (s.ea base offset) pa alg false)
    (ho : o = bytesBefore s.bigEndianCpu 4 (pa.toNat % 4)) (hr : r = (s.reg rt).toNat % 2 ^ (8 * 4))
    (hv : v = datum (s.cachedByte pa) s (unitOf pa 4) 4) :
    ∃ t, s.loadWordPart left base rt offset = .next t ∧
      WritesGpr rt (sext32 (BitVec.ofNat 32 (if left then loadedLeft 4 o v r else loadedRight 4 o v r))) s t ∧
      t.fpu = s.fpu ∧ CachedLoadFrame pa s t := by
  obtain ⟨_, _, ⟨_, _, _, hram, _⟩, _⟩ := id h
  obtain ⟨bs, hload, hmerge⟩ := load_part_merges left (.inl rfl) ho hr h hv
  unfold State.loadWordPart
  dsimp only
  rw [← partSpan, hload, Access.finish_of_ok]
  dsimp only
  rw [State.loaded_bigEndianCpu, State.loaded_reg, low32_eq_mod, ← hr, hmerge]
  exact gprLoad_cached hram pa rt _

theorem loadDoublePart_cached (h : CachedRam s (s.ea base offset) pa alg false)
    (ho : o = bytesBefore s.bigEndianCpu 8 (pa.toNat % 8)) (hr : r = (s.reg rt).toNat % 2 ^ (8 * 8))
    (hv : v = datum (s.cachedByte pa) s (unitOf pa 8) 8) :
    ∃ t, s.loadDoublePart left base rt offset = .next t ∧
      WritesGpr rt (BitVec.ofNat 64 (if left then loadedLeft 8 o v r else loadedRight 8 o v r)) s t ∧
      t.fpu = s.fpu ∧ CachedLoadFrame pa s t := by
  obtain ⟨_, _, ⟨_, _, _, hram, _⟩, _⟩ := id h
  obtain ⟨bs, hload, hmerge⟩ := load_part_merges left (.inr rfl) ho hr h hv
  rw [Nat.mod_eq_of_lt (s.reg rt).isLt] at hr
  unfold State.loadDoublePart
  dsimp only
  rw [← partSpan, hload, Access.finish_of_ok]
  dsimp only
  rw [State.loaded_bigEndianCpu, State.loaded_reg, ← hr, hmerge]
  exact gprLoad_cached hram pa rt _

include hsize ho hr in
/-- A store of a part of the register's value makes the unit that 40_load_store R319 to R323 print, in the cache and, where it
writes memory, there. -/
theorem storePart_cached (h : CachedRam s (s.ea base offset) pa alg true) :
    ∃ t, s.storePart size left r base offset = .next t ∧
      (∀ v, v = datum (s.cachedByte pa) s (unitOf pa size) size →
        datum (t.cachedByte pa) s (unitOf pa size) size = if left then storedLeft size o v r else storedRight size o v r) ∧
      (alg ≠ 3 → ∀ m, m = datum s.mem.get s (unitOf pa size) size →
        datum t.mem.get s (unitOf pa size) size = if left then storedLeft size o m r else storedRight size o m r) ∧
      CachedStoreFrame pa alg (partAddrs s left (unitOf pa size) size (pa.toNat % size)) s t := by
  obtain ⟨hmap, _, _, _, hboth⟩ := id h
  have hoff : pa.toNat % size = (s.ea base offset).toNat % size := hmap.mod (by omega)
  have hlt : o < size := ho ▸ bytesBefore_lt hsize hoff
  have hn := ho ▸ partSpan_n (s := s) hsize hoff left
  obtain ⟨t, ht, stored, frame⟩ := store_cached_ends (sp := partSpan s.bigEndianCpu left size (s.ea base offset))
    (by rwa [partSpan_va]) (partSpan_aligned _ _ _ _) (physical_partSpan hsize hoff left)
    (partStoreBytes hsize left hoff
      (if left then r / 2 ^ (8 * (size - (partSpan s.bigEndianCpu left size (s.ea base offset)).n)) else r))
  rw [← ho] at stored frame
  have hunit := fun {read read'} => fromBytes_storedPart s.bigEndianCpu left hlt (byteAddrs_length s (unitOf pa size) size)
    (byteAddrs_nodup (unitOf_alignedTo pa hsize)) (read := read) (read' := read') (hr ▸ Nat.mod_lt _ (by positivity)) hn
  refine ⟨t, ht, fun v hv => ?_, fun h3 m hm => ?_, ?_⟩
  · rw [hv, datum_eq, datum_eq]
    exact hunit stored.cached fun x hx => stored.others x (mem_lineBytes_lineBaseOf.2 (mem_unit_line hsize hx))
  · rw [hm, datum_eq, datum_eq]
    exact hunit (stored.memory h3) fun x hx => stored.memory_others hboth h3 (mem_unit_line hsize hx)
  · rwa [partAddrs_eq s left _ hsize (Nat.mod_lt _ (by omega)), ← ho]

end Ends

end Sys2Proof.Machine

open Sys2Proof Sys2Proof.Machine

/-- Settles O50: an unaligned access is one of the low or high bytes of its unit (`physical_partSpan`), and the unit is its
low bytes and its high ones (`load_part_merges`, `storePart_cached`). -/
theorem cachedParts : Obligations.CachedParts := by
  intro s base rt offset pa unit alg size v m r o hforms hunit hv hm hr ho
  have hsize : size = 4 ∨ size = 8 := hforms.imp_right And.left
  have may : size = 8 → Allows64 s := fun h8 => (hforms.resolve_left (by omega)).2
  obtain rfl : unit = unitOf pa size := hunit
  refine ⟨fun h => ?loads, fun h => ?stores⟩
  case loads =>
    simp only [List.forall_mem_cons]
    refine ⟨?lwl, ?lwr, ?ldl, ?ldr, List.forall_mem_nil _⟩
    all_goals rintro rfl
    case lwl => exact loadWordPart_cached true h ho hr hv
    case lwr => exact loadWordPart_cached false h ho hr hv
    case ldl =>
      obtain ⟨t, ht, hrest⟩ := loadDoublePart_cached true h ho hr hv
      exact ⟨t, (State.need64_of_allowed (may rfl) _).trans ht, hrest⟩
    case ldr =>
      obtain ⟨t, ht, hrest⟩ := loadDoublePart_cached false h ho hr hv
      exact ⟨t, (State.need64_of_allowed (may rfl) _).trans ht, hrest⟩
  case stores =>
    have stores := fun left => storePart_cached left hsize ho hr h
    simp only [List.forall_mem_cons]
    refine ⟨?swl, ?swr, ?sdl, ?sdr, List.forall_mem_nil _⟩
    all_goals rintro rfl
    case swl | swr =>
      obtain ⟨t, ht, hcached, hmem, frame⟩ := stores _
      rw [hr, ← low32_eq_mod] at ht
      exact ⟨t, ht, hcached v hv, fun h3 => hmem h3 m hm, frame⟩
    case sdl | sdr =>
      obtain ⟨t, ht, hcached, hmem, frame⟩ := stores _
      rw [hr, Nat.mod_eq_of_lt (s.reg rt).isLt] at ht
      exact ⟨t, (State.need64_of_allowed (may rfl) _).trans ht, hcached v hv, fun h3 => hmem h3 m hm, frame⟩

end

section
/-!
PROOF. Sys2Proof/Proofs/CacheTags.lean: the CACHE instruction up to its operation, and the operations on tags (21_caches R234
to R241, R247).
-/

namespace Sys2Proof.Machine

/-! ## The CACHE instruction up to its operation (R234, R235) -/

section Cache
variable {s : State} {base : Reg} {op : BitVec 5} {offset : BitVec 16} {pa : Word} {alg : BitVec 3}
  (hcp0 : Cp0Usable s) (hhazard : NoMemHazard s) (hmap : MapsTo s (s.ea base offset) pa alg)
include hcp0 hhazard hmap

theorem exec_cache_uncached (halg : alg = 2) : exec (.cache base op offset) s = .refused .cacheOpUncached := by
  change execCache base op offset s = _
  rw [execCache, State.needCp0_of_usable hcp0]
  dsimp only
  rw [State.dataAddress_of false hhazard hmap (Nat.mod_one _)]
  exact if_pos halg

variable (halg : alg = 0 ∨ alg = 1 ∨ alg = 3)
include halg

theorem exec_cache_undefined (hop : cacheOperation op = none) :
    exec (.cache base op offset) s = .refused .cacheOpUndefined := by
  have htwo : ¬alg = 2 := ne_two_of_cached halg
  change execCache base op offset s = _
  rw [execCache, State.needCp0_of_usable hcp0]
  dsimp only
  rw [State.dataAddress_of false hhazard hmap (Nat.mod_one _), Access.finish_of_ok]
  dsimp only
  rw [if_neg htwo, calgReserved_of_cached halg, if_neg Bool.false_ne_true, hop]

section Defined
variable {o : CacheOperation} {u : State} (hop : cacheOperation op = some o)
include hop

/-- CACHE is its operation behind the drained write buffer. -/
theorem exec_cache_defined :
    exec (.cache base op offset) s = (s.drained.cacheOp o (s.ea base offset) pa).finish fun _ s => s.doneMem := by
  have htwo : ¬alg = 2 := ne_two_of_cached halg
  change execCache base op offset s = _
  rw [execCache, State.needCp0_of_usable hcp0]
  dsimp only
  rw [State.dataAddress_of false hhazard hmap (Nat.mod_one _), Access.finish_of_ok]
  dsimp only
  rw [if_neg htwo, calgReserved_of_cached halg, if_neg Bool.false_ne_true, hop]

/-- A CACHE operation that completes ends as a load does. -/
theorem exec_cache_ends (hu : s.drained.cacheOp o (s.ea base offset) pa = .ok () u) :
    exec (.cache base op offset) s = .next u.memEnd := by
  rw [exec_cache_defined hcp0 hhazard hmap halg hop, hu, Access.finish_of_ok, State.doneMem_eq]

theorem exec_cache_traps (hu : s.drained.cacheOp o (s.ea base offset) pa = .trap u) :
    exec (.cache base op offset) s = .next u := by
  rw [exec_cache_defined hcp0 hhazard hmap halg hop, hu, Access.finish_of_trap]

end Defined

end Cache

/-! ## The Hit operations (R235, R240) -/

section Hit
variable {s u : State} {pa : Word} {v : Way}

theorem State.hitD_of_miss (h : s.dcache.lookup pa = .miss) (f : Way → DLine → State → Access Unit) :
    s.hitD pa f = .ok () (s.setCh false) := by
  rw [State.hitD, h]

theorem State.hitI_of_miss (h : s.icache.lookup pa = .miss) (f : Way → ILine → State → Access Unit) :
    s.hitI pa f = .ok () (s.setCh false) := by
  rw [State.hitI, h]

theorem State.hitD_of_hit (h : s.dcache.lookup pa = .hit v) {f : Way → DLine → State → Access Unit}
    (hf : f v (s.dcache.line v (lineIndex pa)) s = .ok () u) : s.hitD pa f = .ok () (u.setCh true) := by
  rw [State.hitD, h]
  dsimp only
  rw [hf, Access.bind_of_ok]

theorem State.hitI_of_hit (h : s.icache.lookup pa = .hit v) {f : Way → ILine → State → Access Unit}
    (hf : f v (s.icache.line v (lineIndex pa)) s = .ok () u) : s.hitI pa f = .ok () (u.setCh true) := by
  rw [State.hitI, h]
  dsimp only
  rw [hf, Access.bind_of_ok]

end Hit

section HitOperations
variable (s : State) (va : DWord) (pa : Word)

theorem State.cacheOp_hitInvalidateD : s.cacheOp .hitInvalidateD va pa =
    s.hitD pa fun w l s => .ok () (s.setDLine w (lineIndex pa) (l.withState 0)) := rfl

theorem State.cacheOp_hitInvalidateI : s.cacheOp .hitInvalidateI va pa =
    s.hitI pa fun w l s => .ok () (s.setILine w (lineIndex pa) l.invalidated) := rfl

end HitOperations

/-! ## Tags and check bits -/

theorem State.setILine_sameOuter (s : State) (w : Way) (i : BitVec 7) (l : ILine) : SameOuter s (s.setILine w i l) := by
  constructor <;> rfl

theorem State.setTag_sameOuter (s : State) (t : TagLo) (ecc : BitVec 8) : SameOuter s (s.setTag t ecc) := by
  constructor <;> rfl

theorem packEcc_getLsbD (par : Nat → Bool) {k : Nat} (hk : k < 8) : (packEcc par).getLsbD k = par k := by
  have hbit : ∀ b : Bool, (bit b).getLsbD 0 = b := by decide
  interval_cases k <;>
    simp only [packEcc, BitVec.getLsbD_append, hbit, Nat.reduceLT, Nat.reduceSub, if_true, if_false]

theorem truncate_tag (x : BitVec 24) : x.truncate 20 = x.extractLsb' 0 20 := by
  ext k hk
  simp

theorem tagHi_append_tag (hi : BitVec 4) (tag : BitVec 20) :
    (hi ++ tag).extractLsb' 0 20 = tag ∧ (hi ++ tag).extractLsb' 20 4 = hi := by
  constructor
  · ext k hk
    rw [BitVec.getElem_extractLsb']
    exact BitVec.getLsbD_append.trans (by simp [hk])
  · ext k hk
    rw [BitVec.getElem_extractLsb']
    exact BitVec.getLsbD_append.trans (by simp [hk])

theorem doubleOffset_eq (va : DWord) : doubleOffset va = 8 * (va.toNat / 8 % 4) := by
  rw [doubleOffset]
  omega

theorem DLine.ecc_getLsbD (l : DLine) (bigEndian : Bool) (va : DWord) {k : Nat} (hk : k < 8) :
    (l.ecc bigEndian (doubleOffset va)).getLsbD k =
      l.par[(8 * (va.toNat / 8 % 4) + if bigEndian then 7 - k else k) % 32] := by
  rw [DLine.ecc, packEcc_getLsbD _ hk]
  simp only [doubleOffset_eq]

theorem ILine.ecc_bits (l : ILine) (bigEndian : Bool) (va : DWord) :
    (l.ecc bigEndian (doubleOffset va)).getLsbD (if bigEndian then 1 else 0) = l.par[2 * (va.toNat / 8 % 4) % 8] ∧
    (l.ecc bigEndian (doubleOffset va)).getLsbD (if bigEndian then 0 else 1) =
      l.par[(2 * (va.toNat / 8 % 4) + 1) % 8] ∧
    (l.ecc bigEndian (doubleOffset va)).extractLsb' 2 6 = 0#6 := by
  have hlow : doubleOffset va / 4 = 2 * (va.toNat / 8 % 4) := by
    rw [doubleOffset_eq]
    omega
  refine ⟨?_, ?_, ?_⟩
  · rw [ILine.ecc, packEcc_getLsbD _ (by split <;> omega)]
    cases bigEndian <;> simp [hlow]
  · rw [ILine.ecc, packEcc_getLsbD _ (by split <;> omega)]
    cases bigEndian <;> simp [hlow]
  · ext k hk
    have hk' : 2 + k ≠ 1 := by omega
    rw [BitVec.getElem_extractLsb', ILine.ecc, packEcc_getLsbD _ (by omega)]
    simp [hk']

/-! ## What changes memory alone -/

/-- Nothing but memory, the record of the bus and the counter of free values changed. -/
structure OnlyMemory (s t : State) : Prop where
  outer : SameOuter s t
  cp0 : t.cp0 = s.cp0
  llBit : t.llBit = s.llBit
  icache : t.icache = s.icache
  dcache : t.dcache = s.dcache

theorem OnlyMemory.trans {s t u : State} (h : OnlyMemory s t) (k : OnlyMemory t u) : OnlyMemory s u :=
  ⟨h.outer.trans k.outer, k.cp0.trans h.cp0, k.llBit.trans h.llBit, k.icache.trans h.icache, k.dcache.trans h.dcache⟩

theorem State.drained_onlyMemory (s : State) : OnlyMemory s s.drained := ⟨s.drained_sameOuter, rfl, rfl, rfl, rfl⟩

/-- What comes behind it breaks the link as it would from the first state. -/
theorem OnlyMemory.link {broken : Prop} {s u t : State} (h : OnlyMemory s u) (k : LinkKept broken u t) :
    LinkKept broken s t := k.of_fields h.llBit h.outer.llAddr h.outer.llSeen

/-! ## What the operations on tags leave -/

section Ends
variable (s : State) (w : Way) (i : BitVec 7)

/-- A line of the instruction cache replaced, behind the drained write buffer. -/
theorem setILine_ends (l : ILine) {t : State} (ht : t = (s.drained.setILine w i l).memEnd) :
    t.icache.line w i = l ∧ SameILinesBut w i s t ∧ t.dcache = s.dcache ∧ t.cp0 = s.cp0 ∧ SameBytes s t ∧
      CacheFrame False s t := by
  subst ht
  exact ⟨s.drained.setILine_line w i l, s.drained.setILine_sameILinesBut w i l, rfl, rfl, fun _ => rfl,
    CacheFrame.of_sameOuter (s.drained_sameOuter.trans (s.drained.setILine_sameOuter w i l)) (LinkKept.of_same rfl rfl rfl)⟩

/-- A line of the data cache replaced, behind what changes memory alone. -/
theorem setDLine_ends {u : State} (h : OnlyMemory s u) (l : DLine) {broken : Prop}
    (hlink : LinkKept broken u (u.setDLine w i l)) {t : State} (ht : t = (u.setDLine w i l).memEnd) :
    t.dcache.line w i = l ∧ SameDLinesBut w i s t ∧ t.icache = s.icache ∧ t.cp0 = s.cp0 ∧ t.mem = u.mem ∧
      CacheFrame broken s t := by
  subst ht
  refine ⟨u.setDLine_line w i l, ?_, h.icache, h.cp0, rfl,
    CacheFrame.of_sameOuter (h.outer.trans (u.setDLine_sameOuter w i l)) (h.link hlink)⟩
  intro v j hvj
  rw [← h.dcache]
  exact u.setDLine_sameDLinesBut w i l v j hvj

/-- A Hit operation that misses clears Status.CH, and does no more (R240). -/
theorem setCh_ends (hit : Bool) {t : State} (ht : t = (s.drained.setCh hit).memEnd) :
    t.cp0 = { s.cp0 with status := { s.cp0.status with ch := hit } } ∧ SameCaches s t ∧ SameBytes s t ∧
      CacheFrame False s t := by
  subst ht
  exact ⟨rfl, ⟨rfl, rfl⟩, fun _ => rfl,
    CacheFrame.of_sameOuter (s.drained_sameOuter.trans (s.drained.setCh_sameOuter hit)) (LinkKept.of_same rfl rfl rfl)⟩

/-- Index Load Tag writes TagLo and ECC, and no more (R236). -/
theorem setTag_ends (tag : TagLo) (ecc : BitVec 8) {t : State} (ht : t = (s.drained.setTag tag ecc).memEnd) :
    t.cp0.tagLo = tag ∧ t.cp0.ecc = ecc ∧ t.cp0 = { s.cp0 with tagLo := t.cp0.tagLo, ecc := t.cp0.ecc } ∧
      SameCaches s t ∧ SameBytes s t ∧ CacheFrame False s t := by
  subst ht
  exact ⟨rfl, rfl, rfl, ⟨rfl, rfl⟩, fun _ => rfl,
    CacheFrame.of_sameOuter (s.drained_sameOuter.trans (s.drained.setTag_sameOuter tag ecc)) (LinkKept.of_same rfl rfl rfl)⟩

end Ends

theorem pstate_ne_zero_iff (valid : Bool) : (if valid then 3#2 else 0#2) ≠ 0 ↔ valid = true := by
  cases valid <;> decide

theorem DLine.not_holds_of_invalid {o l : DLine} {pa : Word} (h : l = o.withState 0) : ¬l.Holds pa := by
  simp [DLine.Holds, DLine.valid, DLine.withState, h]

theorem ILine.not_holds_of_invalid {o l : ILine} {pa : Word} (h : l = o.invalidated) : ¬l.Holds pa := by
  simp [ILine.Holds, ILine.invalidated, h]

end Sys2Proof.Machine

open Sys2Proof Sys2Proof.Machine

/-- Settles O51: each operation replaces one line or one register behind the drained write buffer (`setILine_ends`,
`setDLine_ends`, `setCh_ends`, `setTag_ends`). -/
theorem cacheTags : Obligations.CacheTags := by
  rintro s base offset _ pa alg hcp0 hhazard rfl hmap halg _ _ _ rfl rfl rfl
  have ends := fun {op o u} => exec_cache_ends (op := op) (o := o) (u := u) hcp0 hhazard hmap halg
  refine ⟨?hitDMiss, ?hitIMiss, ?hitD, ?hitI, ?invalidateI, ?storeTagI, ?storeTagD, ?loadTagI, ?loadTagD⟩
  case hitDMiss =>
    exact fun hmiss => ⟨_, ends rfl ((s.drained.cacheOp_hitInvalidateD _ pa).trans (State.hitD_of_miss (s := s.drained) hmiss _)),
      setCh_ends s false rfl⟩
  case hitIMiss =>
    exact fun hmiss => ⟨_, ends rfl ((s.drained.cacheOp_hitInvalidateI _ pa).trans (State.hitI_of_miss (s := s.drained) hmiss _)),
      setCh_ends s false rfl⟩
  case hitD =>
    intro v hhit
    obtain ⟨line, others, hicache, -, -, frame⟩ := setDLine_ends s v (lineIndex pa) s.drained_onlyMemory
      ((s.dcache.line v (lineIndex pa)).withState 0) (State.setDLine_link_of_invalid rfl) rfl
    have hop : s.drained.cacheOp .hitInvalidateD (s.ea base offset) pa =
        .ok () ((s.drained.setDLine v (lineIndex pa) ((s.dcache.line v (lineIndex pa)).withState 0)).setCh true) :=
      (s.drained.cacheOp_hitInvalidateD _ pa).trans (State.hitD_of_hit (s := s.drained) hhit rfl)
    refine ⟨_, ends rfl hop, ?_, ?_, line, others, hicache, fun _ => rfl, frame⟩
    · rfl
    · exact DCache.lookup_miss_of_sameDLinesBut hhit (DLine.not_holds_of_invalid line) others
  case hitI =>
    intro v hhit
    obtain ⟨line, others, hdcache, hstate, bytes, frame⟩ := setILine_ends s v (lineIndex pa)
      (s.icache.line v (lineIndex pa)).invalidated rfl
    have hop : s.drained.cacheOp .hitInvalidateI (s.ea base offset) pa =
        .ok () ((s.drained.setILine v (lineIndex pa) (s.icache.line v (lineIndex pa)).invalidated).setCh true) :=
      (s.drained.cacheOp_hitInvalidateI _ pa).trans (State.hitI_of_hit (s := s.drained) hhit rfl)
    refine ⟨_, ends rfl hop, ?_, ?_, others, hdcache, bytes, frame⟩
    · rfl
    · exact ICache.lookup_miss_of_sameILinesBut hhit (ILine.not_holds_of_invalid line) others
  case invalidateI =>
    obtain ⟨line, others, hdcache, hstate, bytes, frame⟩ := setILine_ends s _ (lineIndex pa) _ rfl
    refine ⟨_, ends rfl rfl, ?_, ?_, ?_, others, hdcache, hstate, bytes, frame⟩ <;> rw [line]
  case storeTagI =>
    obtain ⟨line, others, hdcache, hstate, bytes, frame⟩ := setILine_ends s _ (lineIndex pa) _ rfl
    refine ⟨_, ends rfl rfl, ?_, others, hdcache, hstate, bytes, frame⟩
    rintro _ rfl
    rw [line]
    exact ⟨truncate_tag _, rfl, bne_iff_ne, rfl, rfl, rfl, rfl⟩
  case storeTagD =>
    obtain ⟨line, others, hicache, hstate, -, frame⟩ := setDLine_ends s _ (lineIndex pa) s.drained_onlyMemory _
      (State.setDLine_link _ _ _ _ _ rfl) rfl
    refine ⟨_, ends rfl rfl, ?_, others, hicache, hstate, fun _ => rfl⟩
    rintro _ _ rfl rfl
    rw [line]
    exact ⟨truncate_tag _, rfl, rfl, rfl, rfl, rfl, rfl, rfl, rfl, frame⟩
  case loadTagI =>
    obtain ⟨tagLo, ecc, hstate, caches, bytes, frame⟩ := setTag_ends s _ _
      (t := (s.drained.loadTagI (s.drained.icache.line (wayOf (s.ea base offset)) (lineIndex pa)) (s.ea base offset)).memEnd)
      rfl
    refine ⟨_, ends rfl rfl, ?_, hstate, caches, bytes, frame⟩
    rintro _ rfl
    rw [tagLo, ecc]
    obtain ⟨tag, tagHi⟩ := tagHi_append_tag (s.icache.line (wayOf (s.ea base offset)) (lineIndex pa)).tagHi _
    exact ⟨tag, tagHi, pstate_ne_zero_iff _, rfl, rfl, ILine.ecc_bits _ _ _⟩
  case loadTagD =>
    obtain ⟨tagLo, ecc, hstate, caches, bytes, frame⟩ := setTag_ends s _ _
      (t := (s.drained.loadTagD (s.drained.dcache.line (wayOf (s.ea base offset)) (lineIndex pa)) (s.ea base offset)).memEnd)
      rfl
    refine ⟨_, ends rfl rfl, ?_, hstate, caches, bytes, frame⟩
    rintro _ rfl
    rw [tagLo, ecc]
    obtain ⟨tag, tagHi⟩ := tagHi_append_tag (s.dcache.line (wayOf (s.ea base offset)) (lineIndex pa)).tagHi _
    exact ⟨tag, tagHi, rfl, rfl, rfl, fun k hk => DLine.ecc_getLsbD _ _ _ hk⟩

end

section
/-!
PROOF. Sys2Proof/Proofs/InstrRefills.lean: refills of the instruction cache, those that fail and those of Fill among them
(21_caches R208, R214, R220, R230, R245).
-/

namespace Sys2Proof.Machine

/-! ## What a refill of the instruction cache leaves alone -/

/-- Nothing but the instruction cache, the record of the bus and the counter of free values changed. -/
structure OnlyICache (s t : State) : Prop where
  outer : SameOuter s t
  cp0 : t.cp0 = s.cp0
  llBit : t.llBit = s.llBit
  dcache : t.dcache = s.dcache
  mem : t.mem = s.mem

theorem OnlyICache.sameBytes {s t : State} (h : OnlyICache s t) : SameBytes s t := fun a => congrArg (Memory.get · a) h.mem

theorem OnlyICache.sameLink {s t : State} (h : OnlyICache s t) : SameLink s t := ⟨h.llBit, h.outer.llAddr, h.outer.llSeen⟩

theorem OnlyICache.linkKept {s t : State} (h : OnlyICache s t) : LinkKept False s t :=
  LinkKept.of_same h.llBit h.outer.llAddr h.outer.llSeen

section Install
variable (s : State) (w : Way) (pa : Word)

theorem State.iInstall_onlyICache (l : ILine) : OnlyICache s (s.iInstall w pa l) := by
  obtain ⟨gpr, hi, lo, pc, nextPc, slot, llBit, llAddr, llSeen, standby, cp0, fpu, dcache, mem, events, boot, part, platform,
    inputs, hazards⟩ := s.iInstall_frame w pa l
  exact ⟨⟨gpr, hi, lo, pc, nextPc, slot, llAddr, llSeen, standby, fpu, events, boot, part, platform, inputs, hazards⟩,
    cp0, llBit, dcache, mem⟩

theorem State.iFailed_onlyICache : OnlyICache s (s.iFailed w pa) := by
  obtain ⟨gpr, hi, lo, pc, nextPc, slot, llBit, llAddr, llSeen, standby, cp0, fpu, dcache, mem, events, boot, part, platform,
    inputs, hazards⟩ := s.iFailed_frame w pa
  exact ⟨⟨gpr, hi, lo, pc, nextPc, slot, llAddr, llSeen, standby, fpu, events, boot, part, platform, inputs, hazards⟩,
    cp0, llBit, dcache, mem⟩

/-! ## The line installed, or left invalid -/

theorem State.iInstall_line (l : ILine) :
    (s.iInstall w pa l).icache.line w (lineIndex pa) = { l with f := w == .a || l.f } :=
  State.installI_line w (lineIndex pa) l

theorem State.iInstall_refillsI (l : ILine) : RefillsI w (lineIndex pa) s (s.iInstall w pa l) :=
  State.installI_refillsI w (lineIndex pa) rfl l

theorem State.iFailed_invalid : ((s.iFailed w pa).icache.line w (lineIndex pa)).valid = false :=
  congrArg ILine.valid (State.setILine_line _ w (lineIndex pa) _)

theorem State.iFailed_sameILinesBut : SameILinesBut w (lineIndex pa) s (s.iFailed w pa) :=
  State.setILine_sameILinesBut (s.iRefillBegun w (lineIndex pa)) w (lineIndex pa) _

end Install

/-! ## The line that RAM brings -/

theorem wordParity_eq (l : ILine) (k : Fin 8) : wordParity l k =
    xor (xor (parity l.data[4 * k.val]) (parity l.data[4 * k.val + 1]))
      (xor (parity l.data[4 * k.val + 2]) (parity l.data[4 * k.val + 3])) := by
  have hk : ∀ j < 4, (4 * k.val + j) % 32 = 4 * k.val + j := fun j hj => Nat.mod_eq_of_lt (by omega)
  have h0 : 4 * k.val % 32 = 4 * k.val := hk 0 (by omega)
  simp [wordParity, List.range_succ, hk, h0]

section Refilled
variable {s : State} (hram : s.platform = []) (pa : Word) (f : Bool)
include hram

/-- The line of a refill, whatever its F bit and data parity. -/
theorem State.iRefilled_refilledI {l : ILine} (hl : l = { s.iRefilled pa f with f := l.f, par := l.par }) :
    RefilledI pa l s := by
  obtain ⟨hbyte, _⟩ := State.bus_ram hram
  rw [hl]
  refine ⟨rfl, rfl, rfl, rfl, fun k => ?_⟩
  simp [State.iRefilled, State.busLine, hbyte]

theorem State.iRefilled_wordParity (k : Fin 8) : (s.iRefilled pa f).par[k] = wordParity (s.iRefilled pa f) k := by
  obtain ⟨_, hbad, _⟩ := State.bus_ram hram
  have hword : s.busBadWord pa (4 * k.val) = false := by simp [State.busBadWord, hbad]
  rw [wordParity_eq, ← Bool.xor_false (xor _ _), ← hword]
  exact Vector.getElem_ofFn k.isLt

end Refilled

/-! ## The parity of a filled line (R245) -/

theorem State.fillParity_data (s : State) (l : ILine) (va : DWord) :
    s.fillParity l va = { l with par := (s.fillParity l va).par } := by
  unfold State.fillParity
  split <;> rfl

theorem State.fillParity_par (s : State) (l : ILine) (va : DWord) (k : Fin 8) :
    (s.fillParity l va).par[k] =
      if s.cp0.status.ce = true ∧ k.val / 2 = va.toNat / 8 % 4 then
        s.cp0.ecc.getLsbD (if s.boot.bigEndian then 1 - k.val % 2 else k.val % 2)
      else l.par[k] := by
  have hk := k.isLt
  have hlow : doubleOffset va / 4 = 2 * (va.toNat / 8 % 4) := by
    rw [doubleOffset_eq]
    omega
  unfold State.fillParity
  by_cases hce : s.cp0.status.ce = true
  · have hq : va.toNat / 8 % 4 < 4 := Nat.mod_lt _ (by decide)
    have h0 : 2 * (va.toNat / 8 % 4) % 8 = 2 * (va.toNat / 8 % 4) := Nat.mod_eq_of_lt (by omega)
    have h1 : (2 * (va.toNat / 8 % 4) + 1) % 8 = 2 * (va.toNat / 8 % 4) + 1 := Nat.mod_eq_of_lt (by omega)
    simp only [hce, if_true, true_and, hlow, h0, h1, Fin.getElem_fin, Vector.getElem_set]
    rcases Nat.mod_two_eq_zero_or_one k.val with heven | hodd
    · have hodd : 2 * (va.toNat / 8 % 4) + 1 ≠ k.val := by omega
      have hhalf : 2 * (va.toNat / 8 % 4) = k.val ↔ k.val / 2 = va.toNat / 8 % 4 := by omega
      simp only [if_neg hodd, hhalf, heven, Nat.sub_zero]
    · have heven : 2 * (va.toNat / 8 % 4) ≠ k.val := by omega
      have hhalf : 2 * (va.toNat / 8 % 4) + 1 = k.val ↔ k.val / 2 = va.toNat / 8 % 4 := by omega
      simp only [if_neg heven, hhalf, hodd, Nat.sub_self]
  · simp [hce]

end Sys2Proof.Machine
end

section
/-!
PROOF. Sys2Proof/Proofs/CacheMoves.lean: the operations of CACHE that move a line (21_caches R230, R235, R238 to R245, R247).
-/

namespace Sys2Proof.Machine

/-! ## Lines sent to memory for CACHE (R215, R230) -/

theorem State.drawn_onlyMemory (s : State) : OnlyMemory s s.drawn := by
  refine ⟨?_, rfl, rfl, rfl, rfl⟩
  constructor <;> rfl

theorem State.writeLine_onlyMemory (s : State) (base : Nat) (data : Vector Byte 32) : OnlyMemory s (s.writeLine base data) := by
  refine ⟨?_, rfl, rfl, rfl, rfl⟩
  constructor <;> rfl

theorem State.inTransit_onlyMemory (s : State) (line : LineRef) : OnlyMemory s (s.inTransit line) := by
  refine ⟨?_, rfl, rfl, rfl, rfl⟩
  constructor <;> rfl

theorem LineWritten.of_mem {base : Nat} {data : Vector Byte 32} {s t s' t' : State} (h : LineWritten base data s t)
    (hs : s'.mem = s.mem) (ht : t'.mem = t.mem) : LineWritten base data s' t' := by
  simpa only [LineWritten, SameBytesBut, hs, ht] using h

theorem SentBack.of_mem {l : DLine} {i : BitVec 7} {s t s' t' : State} (h : SentBack l i s t) (hs : s'.mem = s.mem)
    (ht : t'.mem = t.mem) (hcp0 : s'.cp0 = s.cp0) : SentBack l i s' t' := by
  simpa only [SentBack, LineWritten, SameBytesBut, SameBytes, hs, ht, hcp0] using h

section Send
variable {s : State} (hram : s.platform = []) (hde : s.cp0.status.de = true) (va : DWord) (pa : Word)
include hram hde

/-- Where all is RAM and Status.DE = 1, a line sent for CACHE reaches memory, and no more happens. -/
theorem State.sendChecked_writes (line : LineRef) (base : Nat) (data : Vector Byte 32) (ed et : Bool) :
    ∃ u, s.sendChecked va pa line base data ed et = .ok () u ∧ LineWritten base data s u ∧ OnlyMemory s u := by
  refine ⟨(s.writeLine base data).inTransit line, ?_, (State.writeLine_lineWritten hram base data).of_mem rfl rfl,
    (s.writeLine_onlyMemory base data).trans (State.inTransit_onlyMemory _ line)⟩
  simp [State.sendChecked, hram, hde]

variable (w : Way) (i : BitVec 7) (l : DLine)

theorem State.sendIfDirty_writes :
    ∃ u, s.sendIfDirty va pa w i l = .ok () u ∧ WrittenBack l i s u ∧ OnlyMemory s u := by
  unfold State.sendIfDirty WrittenBack
  split
  · exact State.sendChecked_writes hram hde va pa _ _ _ _ _
  · exact ⟨s, rfl, fun _ => rfl, ⟨SameOuter.refl s, rfl, rfl, rfl, rfl⟩⟩

end Send

section Ecc
variable (s : State) (va : DWord) (l : DLine)

theorem State.eccLine_data : s.eccLine va l = { l with par := (s.eccLine va l).par } := by
  unfold State.eccLine
  split <;> rfl

theorem State.eccLine_par (k : Fin 32) :
    (s.eccLine va l).par[k] =
      if s.cp0.status.ce = true ∧ k.val / 8 = va.toNat / 8 % 4 then eccByte s k else l.par[k] := by
  have hdouble : k.val / 8 * 8 = doubleOffset va ↔ k.val / 8 = va.toNat / 8 % 4 := by
    rw [doubleOffset_eq]
    omega
  unfold State.eccLine
  split
  · next hce => simp [hce, hdouble, eccByte, eccBit]
  · next hce => simp [hce]

end Ecc

theorem State.writeBack_sends {s : State} (hram : s.platform = []) (hde : s.cp0.status.de = true) (va : DWord) (pa : Word)
    (w : Way) (i : BitVec 7) (l : DLine) :
    ∃ u, s.writeBack va pa w i l = .ok () u ∧ SentBack l i s u ∧ OnlyMemory s u := by
  unfold State.writeBack SentBack
  by_cases hsent : l.dirty ∨ s.cp0.status.ce = true ∧ l.valid
  · simp only [if_pos hsent]
    rw [if_pos (by simpa using hsent), State.eccLine_data]
    exact State.sendChecked_writes hram hde va pa _ _ _ _ _
  · simp only [if_neg hsent]
    rw [if_neg (by simpa using hsent)]
    exact ⟨s, rfl, fun _ => rfl, ⟨SameOuter.refl s, rfl, rfl, rfl, rfl⟩⟩

/-! ## The link behind a write-back -/

section Link
variable {s u : State} (h : OnlyMemory s u) {w : Way} {i : BitVec 7} {l : DLine}
include h

theorem OnlyMemory.link_of_invalid (hcs : l.cs = 0) : LinkKept (LinkedLine s i (s.dcache.line w i)) u (u.setDLine w i l) := by
  rw [← h.dcache]
  exact (State.setDLine_link_of_invalid hcs).of_iff (h.outer.linkedLine_iff _ _)

theorem OnlyMemory.link_of_same (htag : l.tag = (s.dcache.line w i).tag) (hcs : l.cs = (s.dcache.line w i).cs) :
    LinkKept False u (u.setDLine w i l) := by
  rw [← h.dcache] at htag hcs
  exact State.setDLine_link_of_same htag hcs

end Link

/-! ## The operations on a line that is there -/

section HitOperations
variable (s : State) (va : DWord) (pa : Word)

theorem State.cacheOp_indexWritebackInvalidateD : s.cacheOp .indexWritebackInvalidateD va pa =
    (s.writeBack va pa (wayOf va) (lineIndex pa) (s.dcache.line (wayOf va) (lineIndex pa))).bind fun _ u =>
      .ok () (u.setDLine (wayOf va) (lineIndex pa) ((s.dcache.line (wayOf va) (lineIndex pa)).withState 0)) := rfl

theorem State.cacheOp_hitWritebackInvalidateD : s.cacheOp .hitWritebackInvalidateD va pa =
    s.hitD pa fun w l s => (s.writeBack va pa w (lineIndex pa) l).bind fun _ s =>
      .ok () (s.setDLine w (lineIndex pa) (l.withState 0)) := rfl

theorem State.cacheOp_hitWritebackI : s.cacheOp .hitWritebackI va pa =
    s.hitI pa fun w l s => s.sendILine va pa w (lineIndex pa) l := rfl

theorem State.cacheOp_hitWritebackD : s.cacheOp .hitWritebackD va pa =
    s.hitD pa fun w l s => (s.writeBack va pa w (lineIndex pa) l).bind fun _ s =>
      .ok () (s.setDLine w (lineIndex pa)
        (if l.dirty then { s.eccLine va l with w := false, wPar := false } else s.eccLine va l)) := rfl

/-- A valid line behind Hit Writeback: W clear, and its other bits but for the parity of its data as before (R230, R242). -/
theorem State.eccLine_written (l : DLine) (hvalid : l.valid = true) :
    (if l.dirty then { s.eccLine va l with w := false, wPar := false } else s.eccLine va l) =
      { l with w := false, wPar := if l.w then false else l.wPar, par := (s.eccLine va l).par } := by
  rw [State.eccLine_data]
  cases hw : l.w
  · rw [if_neg (by simp [DLine.dirty, hw])]
    simp [← hw]
  · rw [if_pos (by simp [DLine.dirty, hw, hvalid])]
    simp

end HitOperations

theorem State.claimed_sameOuter (u : State) (w : Way) (i : BitVec 7) (l : DLine) (n : Nat) :
    SameOuter u { (u.setDLine w i l).setDFifo w i with fresh := n } := by
  constructor <;> rfl

/-- Status.CH set behind an operation that left coprocessor 0 alone (R240). -/
theorem setCh_cp0 {s t : State} {hit : Bool} (h : t.memEnd.cp0 = s.cp0) :
    (t.setCh hit).memEnd.cp0 = { s.cp0 with status := { s.cp0.status with ch := hit } } := by
  rw [← h]
  rfl

theorem State.memEnd_setCh_dcache (t : State) (hit : Bool) : (t.setCh hit).memEnd.dcache = t.memEnd.dcache := rfl

theorem wordParity_congr {l o : ILine} (h : l.data = o.data) (k : Nat) : wordParity l k = wordParity o k := by
  simp only [wordParity, h]

section Moves
variable {s : State} {base : Reg} {offset : BitVec 16} {pa : Word} {alg : BitVec 3} (hcp0 : Cp0Usable s)
  (hhazard : NoMemHazard s) (hmap : MapsTo s (s.ea base offset) pa alg) (halg : alg = 0 ∨ alg = 1 ∨ alg = 3)
include hcp0 hhazard hmap halg

/-- A Hit Writeback that misses clears Status.CH, and does no more (R240). -/
theorem hitWriteback_miss (hmiss : s.dcache.lookup pa = .miss) :
    ∀ o ∈ [0x15#5, 0x19#5], ∃ t, exec (.cache base o offset) s = .next t ∧
      t.cp0 = { s.cp0 with status := { s.cp0.status with ch := false } } ∧ SameCaches s t ∧ SameBytes s t ∧
      CacheFrame False s t := by
  have ends := fun {op o u} => exec_cache_ends (op := op) (o := o) (u := u) hcp0 hhazard hmap halg
  simp only [List.forall_mem_cons]
  refine ⟨⟨_, ends rfl ?_, setCh_ends s false rfl⟩, ⟨_, ends rfl ?_, setCh_ends s false rfl⟩, List.forall_mem_nil _⟩
  · exact (s.drained.cacheOp_hitWritebackInvalidateD _ pa).trans (State.hitD_of_miss (s := s.drained) hmiss _)
  · exact (s.drained.cacheOp_hitWritebackD _ pa).trans (State.hitD_of_miss (s := s.drained) hmiss _)

/-- Hit Writeback I that misses (R240). -/
theorem hitWritebackI_miss (hmiss : s.icache.lookup pa = .miss) :
    ∃ t, exec (.cache base 0x18 offset) s = .next t ∧ SameBytes s t ∧ SameCaches s t ∧
      t.cp0 = { s.cp0 with status := { s.cp0.status with ch := false } } ∧ CacheFrame False s t := by
  obtain ⟨hstate, caches, bytes, frame⟩ := setCh_ends s false rfl
  exact ⟨_, exec_cache_ends hcp0 hhazard hmap halg (op := 0x18) (o := .hitWritebackI) rfl
    ((s.drained.cacheOp_hitWritebackI _ pa).trans (State.hitI_of_miss (s := s.drained) hmiss _)), bytes, caches, hstate,
    frame⟩

/-- Create Dirty Exclusive that hits (R243). -/
theorem createDirtyExclusive_hit {v : Way} {o : DLine} (hhit : s.dcache.lookup pa = .hit v)
    (ho : o = s.dcache.line v (lineIndex pa)) :
    ∃ t, exec (.cache base 0x0D offset) s = .next t ∧ t.dcache.lookup pa = .hit v ∧
      t.dcache.line v (lineIndex pa) = { o with cs := 3, tagHi := 0, tagPar := parity (o.tag ++ 3#2) } ∧
      SameDLinesBut v (lineIndex pa) s t ∧ SameBytes s t ∧ t.icache = s.icache ∧ t.cp0 = s.cp0 ∧
      CacheFrame (LinkedLine s (lineIndex pa) o ∧ o.cs ≠ 3) s t := by
  subst ho
  have holds := ((DCache.lookup_eq_hit _ _ _).1 hhit).1
  obtain ⟨line, others, hicache, hstate, -, frame⟩ := setDLine_ends s v (lineIndex pa) s.drained_onlyMemory
    { (s.dcache.line v (lineIndex pa)).withState 3 with tagHi := 0 } (State.setDLine_link_of_exclusive rfl rfl) rfl
  have hop : s.drained.createDirtyExclusive (s.ea base offset) pa =
      .ok () (s.drained.setDLine v (lineIndex pa) { (s.dcache.line v (lineIndex pa)).withState 3 with tagHi := 0 }) := by
    rw [State.createDirtyExclusive, show s.drained.dcache.lookup pa = .hit v from hhit]
    rfl
  refine ⟨_, exec_cache_ends hcp0 hhazard hmap halg (op := 0x0D) (o := .createDirtyExclusiveD) rfl hop, ?_, line, others,
    fun _ => rfl, hicache, hstate, frame⟩
  refine DCache.lookup_hit_of_sameDLinesBut hhit ?_ others
  rw [line]
  exact ⟨rfl, holds.2⟩

variable (hram : s.platform = []) (hde : s.cp0.status.de = true)
include hram hde

theorem indexWritebackInvalidateD_ends {w : Way} (hw : w = wayOf (s.ea base offset)) :
    ∃ t, exec (.cache base 0x01 offset) s = .next t ∧
      t.dcache.line w (lineIndex pa) = invalidD (s.dcache.line w (lineIndex pa)) ∧
      SentBack (s.dcache.line w (lineIndex pa)) (lineIndex pa) s t ∧ SameDLinesBut w (lineIndex pa) s t ∧
      t.icache = s.icache ∧ t.cp0 = s.cp0 ∧
      CacheFrame (LinkedLine s (lineIndex pa) (s.dcache.line w (lineIndex pa))) s t := by
  subst hw
  obtain ⟨u, hu, sent, only⟩ := State.writeBack_sends (s := s.drained) hram hde (s.ea base offset) pa
    (wayOf (s.ea base offset)) (lineIndex pa) (s.drained.dcache.line (wayOf (s.ea base offset)) (lineIndex pa))
  have only := s.drained_onlyMemory.trans only
  obtain ⟨line, others, hicache, hstate, hmem, frame⟩ := setDLine_ends s _ (lineIndex pa) only
    ((s.dcache.line (wayOf (s.ea base offset)) (lineIndex pa)).withState 0) (only.link_of_invalid rfl) rfl
  refine ⟨_, exec_cache_ends hcp0 hhazard hmap halg (op := 0x01) (o := .indexWritebackInvalidateD) rfl ?_, line,
    sent.of_mem rfl hmem rfl, others, hicache, hstate, frame⟩
  rw [State.cacheOp_indexWritebackInvalidateD, hu, Access.bind_of_ok]
  rfl

/-- Hit Writeback Invalidate D (R242). -/
theorem hitWritebackInvalidateD_hit {v : Way} {o : DLine} (hhit : s.dcache.lookup pa = .hit v)
    (ho : o = s.dcache.line v (lineIndex pa)) :
    ∃ t, exec (.cache base 0x15 offset) s = .next t ∧ t.dcache.lookup pa = .miss ∧
      t.dcache.line v (lineIndex pa) = invalidD o ∧ SentBack o (lineIndex pa) s t ∧ SameDLinesBut v (lineIndex pa) s t ∧
      t.icache = s.icache ∧ t.cp0 = { s.cp0 with status := { s.cp0.status with ch := true } } ∧
      CacheFrame (LinkedLine s (lineIndex pa) o) s t := by
  subst ho
  obtain ⟨u, hu, sent, only⟩ := State.writeBack_sends (s := s.drained) hram hde (s.ea base offset) pa v (lineIndex pa)
    (s.drained.dcache.line v (lineIndex pa))
  have only := s.drained_onlyMemory.trans only
  obtain ⟨line, others, hicache, hstate, hmem, frame⟩ := setDLine_ends s v (lineIndex pa) only
    ((s.dcache.line v (lineIndex pa)).withState 0) (only.link_of_invalid rfl) rfl
  have hop : s.drained.cacheOp .hitWritebackInvalidateD (s.ea base offset) pa =
      .ok () ((u.setDLine v (lineIndex pa) ((s.dcache.line v (lineIndex pa)).withState 0)).setCh true) := by
    refine (s.drained.cacheOp_hitWritebackInvalidateD _ pa).trans (State.hitD_of_hit (s := s.drained) hhit ?_)
    rw [hu]
    rfl
  refine ⟨_, exec_cache_ends hcp0 hhazard hmap halg (op := 0x15) rfl hop, ?_, line, sent.of_mem rfl hmem rfl, others,
    hicache, setCh_cp0 hstate, frame⟩
  exact DCache.lookup_miss_of_sameDLinesBut hhit (DLine.not_holds_of_invalid line) others

/-- Hit Writeback D (R244). -/
theorem hitWritebackD_hit {v : Way} {o : DLine} (hhit : s.dcache.lookup pa = .hit v)
    (ho : o = s.dcache.line v (lineIndex pa)) :
    ∃ t, exec (.cache base 0x19 offset) s = .next t ∧ t.dcache.lookup pa = .hit v ∧
      (∀ l, l = t.dcache.line v (lineIndex pa) →
        l = { o with w := false, wPar := if o.w then false else o.wPar, par := l.par } ∧
        ∀ k : Fin 32, l.par[k] =
          if s.cp0.status.ce = true ∧ k.val / 8 = (s.ea base offset).toNat / 8 % 4 then eccByte s k else o.par[k]) ∧
      SentBack o (lineIndex pa) s t ∧ SameDLinesBut v (lineIndex pa) s t ∧ t.icache = s.icache ∧
      t.cp0 = { s.cp0 with status := { s.cp0.status with ch := true } } ∧ CacheFrame False s t := by
  subst ho
  have holds := ((DCache.lookup_eq_hit _ _ _).1 hhit).1
  obtain ⟨u, hu, sent, only⟩ := State.writeBack_sends (s := s.drained) hram hde (s.ea base offset) pa v (lineIndex pa)
    (s.drained.dcache.line v (lineIndex pa))
  have only := s.drained_onlyMemory.trans only
  have hpar := u.eccLine_par (s.ea base offset) (s.dcache.line v (lineIndex pa))
  simp only [eccByte, only.cp0, only.outer.boot] at hpar
  have hline := u.eccLine_written (s.ea base offset) (s.dcache.line v (lineIndex pa)) holds.1
  obtain ⟨line, others, hicache, hstate, hmem, frame⟩ := setDLine_ends s v (lineIndex pa) only
    { s.dcache.line v (lineIndex pa) with
      w := false
      wPar := if (s.dcache.line v (lineIndex pa)).w then false else (s.dcache.line v (lineIndex pa)).wPar
      par := (u.eccLine (s.ea base offset) (s.dcache.line v (lineIndex pa))).par } (only.link_of_same rfl rfl) rfl
  rw [← hline] at line others hicache hstate hmem frame
  have hop : s.drained.cacheOp .hitWritebackD (s.ea base offset) pa = .ok () ((u.setDLine v (lineIndex pa)
      (if (s.dcache.line v (lineIndex pa)).dirty then
        { u.eccLine (s.ea base offset) (s.dcache.line v (lineIndex pa)) with w := false, wPar := false }
      else u.eccLine (s.ea base offset) (s.dcache.line v (lineIndex pa)))).setCh true) := by
    refine (s.drained.cacheOp_hitWritebackD _ pa).trans (State.hitD_of_hit (s := s.drained) hhit ?_)
    dsimp only
    rw [hu]
    rfl
  refine ⟨_, exec_cache_ends hcp0 hhazard hmap halg (op := 0x19) rfl hop, ?_, ?_, sent.of_mem rfl hmem rfl, others,
    hicache, setCh_cp0 hstate, frame⟩
  · refine DCache.lookup_hit_of_sameDLinesBut hhit ?_ others
    rw [State.memEnd_setCh_dcache, line, hline]
    exact holds
  · rintro l hl
    rw [State.memEnd_setCh_dcache, line, hline] at hl
    subst hl
    exact ⟨rfl, hpar⟩

/-- Create Dirty Exclusive that misses (R243): the victim goes out when it is dirty, and the line is claimed without a read. -/
theorem createDirtyExclusive_miss (hmiss : s.dcache.lookup pa = .miss) :
    ∃ t v, exec (.cache base 0x0D offset) s = .next t ∧ v = s.dVictim (lineIndex pa) ∧ Replaces s (lineIndex pa) v ∧
      t.dcache.lookup pa = .hit v ∧
      (∀ l, l = t.dcache.line v (lineIndex pa) → l.tag = lineTag pa ∧ l.tagHi = 0 ∧ l.cs = 3 ∧
        l.tagPar = parity (l.tag ++ l.cs) ∧ l.w = false ∧ l.wPar = false) ∧
      WrittenBack (s.dcache.line v (lineIndex pa)) (lineIndex pa) s t ∧ RefillsD v (lineIndex pa) s t ∧
      t.icache = s.icache ∧ t.cp0 = s.cp0 ∧
      CacheFrame (LinkedLine s (lineIndex pa) (s.dcache.line v (lineIndex pa))) s t := by
  obtain ⟨v, hv⟩ : ∃ v, v = s.dVictim (lineIndex pa) := ⟨_, rfl⟩
  obtain ⟨u, hu, written, only⟩ := State.sendIfDirty_writes (s := s.drained.drawn) hram hde (s.ea base offset) pa v
    (lineIndex pa) (s.dcache.line v (lineIndex pa))
  have only := (s.drained_onlyMemory.trans s.drained.drawn_onlyMemory).trans only
  obtain ⟨l, hl⟩ : ∃ l, l = u.claimedLine pa (!(s.dcache.line v (lineIndex pa)).f) := ⟨_, rfl⟩
  have hop : s.drained.createDirtyExclusive (s.ea base offset) pa =
      .ok () { (u.setDLine v (lineIndex pa) l).setDFifo v (lineIndex pa) with fresh := u.fresh + 2 } := by
    rw [State.createDirtyExclusive, show s.drained.dcache.lookup pa = .miss from hmiss]
    subst hl hv
    exact congrArg (Access.bind · _) hu
  have hline : ((u.setDLine v (lineIndex pa) l).setDFifo v (lineIndex pa)).dcache.line v (lineIndex pa) =
      { l with f := v == .a || l.f } := State.installD_line _ _ _
  have hrefills : RefillsD v (lineIndex pa) s ((u.setDLine v (lineIndex pa) l).setDFifo v (lineIndex pa)) :=
    State.installD_refillsD _ _ only.dcache _
  have hmiss' : u.dcache.lookup pa = .miss := only.dcache ▸ hmiss
  have hlink := (State.setDLine_link_of_miss (w := v) (l := l) hmiss' (hl ▸ rfl)).of_iff (only.outer.linkedLine_iff _ _)
  rw [only.dcache] at hlink
  refine ⟨_, v, exec_cache_ends hcp0 hhazard hmap halg (op := 0x0D) (o := .createDirtyExclusiveD) rfl hop, hv,
    hv ▸ s.dVictim_replaces _, ?_, ?_, written.of_mem rfl rfl, hrefills, only.icache, only.cp0, ?_⟩
  · exact DCache.lookup_hit_of_refillsD hmiss (hline ▸ hl ▸ ⟨rfl, rfl⟩) hrefills
  · rintro _ rfl
    refine hline ▸ hl ▸ ⟨rfl, rfl, rfl, rfl, rfl, rfl⟩
  · exact CacheFrame.of_sameOuter (only.outer.trans (u.claimed_sameOuter v (lineIndex pa) l _))
      (only.link (hlink.setDFifo v (lineIndex pa)))

/-- Hit Writeback I (R238; log 24). -/
theorem hitWritebackI_hit {v : Way} (hhit : s.icache.lookup pa = .hit v) :
    ∃ t, exec (.cache base 0x18 offset) s = .next t ∧
      LineWritten (lineBase (s.icache.line v (lineIndex pa)).tag (lineIndex pa)) (s.icache.line v (lineIndex pa)).data s t ∧
      SameCaches s t ∧ t.cp0 = { s.cp0 with status := { s.cp0.status with ch := true } } ∧ CacheFrame False s t := by
  obtain ⟨u, hu, written, only⟩ := State.sendChecked_writes (s := s.drained) hram hde (s.ea base offset) pa _ _ _ _ _
  have only := s.drained_onlyMemory.trans only
  have hop : s.drained.cacheOp .hitWritebackI (s.ea base offset) pa = .ok () (u.setCh true) :=
    (s.drained.cacheOp_hitWritebackI _ pa).trans (State.hitI_of_hit (s := s.drained) hhit hu)
  exact ⟨_, exec_cache_ends hcp0 hhazard hmap halg (op := 0x18) rfl hop, written.of_mem rfl rfl,
    ⟨only.icache, only.dcache⟩, setCh_cp0 only.cp0, CacheFrame.of_sameOuter (only.outer.trans (u.setCh_sameOuter true))
      (LinkKept.of_same only.llBit only.outer.llAddr only.outer.llSeen)⟩

/-- Fill (R245). -/
theorem fill_ends {w : Way} (hw : w = wayOf (s.ea base offset)) :
    ∃ t, exec (.cache base 0x14 offset) s = .next t ∧ RefilledI pa (t.icache.line w (lineIndex pa)) s ∧
      (∀ k : Fin 8, (t.icache.line w (lineIndex pa)).par[k] =
        if s.cp0.status.ce = true ∧ k.val / 2 = (s.ea base offset).toNat / 8 % 4 then
          s.cp0.ecc.getLsbD (if s.boot.bigEndian then 1 - k.val % 2 else k.val % 2)
        else wordParity (t.icache.line w (lineIndex pa)) k) ∧
      RefillsI w (lineIndex pa) s t ∧ t.dcache = s.dcache ∧ t.cp0 = s.cp0 ∧ SameBytes s t ∧ CacheFrame False s t := by
  obtain ⟨f, hf⟩ : ∃ f, f = !(s.icache.line w (lineIndex pa)).f := ⟨_, rfl⟩
  obtain ⟨l, hl⟩ : ∃ l, l = s.drained.fillParity (s.drained.iRefilled pa f) (s.ea base offset) := ⟨_, rfl⟩
  have hop : s.drained.fill (s.ea base offset) pa = .ok () (s.drained.iInstall w pa l) := by
    have herror := (State.bus_ram (s := s.drained) hram).2.2
    have hmasked : s.drained.cp0.status.de = true := hde
    have hplatform : s.drained.platform = [] := hram
    subst hl hf hw
    simp only [State.fill, hplatform, anyOf_ram, hmasked, herror, Bool.false_eq_true, if_false, Bool.not_true, Bool.false_and]
    rfl
  have only := s.drained.iInstall_onlyICache w pa l
  have outer := s.drained_sameOuter.trans only.outer
  have hline : (s.drained.iInstall w pa l).memEnd.icache.line w (lineIndex pa) = { l with f := w == .a || l.f } :=
    s.drained.iInstall_line w pa l
  have hdata := s.drained.fillParity_data (s.drained.iRefilled pa f) (s.ea base offset)
  have hpar := s.drained.fillParity_par (s.drained.iRefilled pa f) (s.ea base offset)
  simp only [State.iRefilled_wordParity (s := s.drained) hram] at hpar
  rw [← hl] at hdata hpar
  refine ⟨_, exec_cache_ends hcp0 hhazard hmap halg (op := 0x14) (o := .fillI) rfl hop, ?_, ?_,
    s.drained.iInstall_refillsI w pa l, only.dcache, only.cp0, only.sameBytes,
    CacheFrame.of_sameOuter outer only.linkKept⟩
  · rw [hline, hdata]
    exact State.iRefilled_refilledI (s := s.drained) hram pa f rfl
  · intro k
    have hsame : wordParity { l with f := w == .a || l.f } k = wordParity (s.drained.iRefilled pa f) k :=
      wordParity_congr (by rw [hdata]) k
    rw [hline, hsame]
    exact hpar k

end Moves

theorem cacheOperation_none (op : BitVec 5)
    (h : op ∉ [0x00#5, 0x01#5, 0x04#5, 0x05#5, 0x08#5, 0x09#5, 0x0D#5, 0x10#5, 0x11#5, 0x14#5, 0x15#5, 0x18#5, 0x19#5]) :
    cacheOperation op = none := by
  revert op
  decide

end Sys2Proof.Machine

open Sys2Proof Sys2Proof.Machine

/-- Settles O52: where all is RAM and Status.DE = 1 each line that CACHE sends reaches memory and changes nothing else
(`State.sendChecked_writes`), and each operation has its lemma above. -/
theorem cacheMoves : Obligations.CacheMoves := by
  intro s base op offset pa alg hcp0 hhazard hmap
  refine ⟨exec_cache_uncached hcp0 hhazard hmap,
    fun halg hop => exec_cache_undefined hcp0 hhazard hmap halg (cacheOperation_none op hop), ?_⟩
  rintro halg hram hde _ w _ rfl hw rfl
  exact ⟨indexWritebackInvalidateD_ends hcp0 hhazard hmap halg hram hde hw,
    fun v o hhit ho => ⟨hitWritebackInvalidateD_hit hcp0 hhazard hmap halg hram hde hhit ho,
      hitWritebackD_hit hcp0 hhazard hmap halg hram hde hhit ho, createDirtyExclusive_hit hcp0 hhazard hmap halg hhit ho⟩,
    fun hmiss => ⟨hitWriteback_miss hcp0 hhazard hmap halg hmiss,
      createDirtyExclusive_miss hcp0 hhazard hmap halg hram hde hmiss⟩,
    fun v hhit => hitWritebackI_hit hcp0 hhazard hmap halg hram hde hhit,
    fun hmiss => hitWritebackI_miss hcp0 hhazard hmap halg hmiss,
    fill_ends hcp0 hhazard hmap halg hram hde hw⟩

end

section
/-!
PROOF. Sys2Proof/Proofs/BusAnswers.lean: the bus words of an access, the answers of a platform that is of one kind throughout,
and the exceptions behind a refill of the instruction cache (80_system_interface R822, R855, R856, R868; 60_exceptions R685,
R687).
-/

namespace Sys2Proof.Machine

/-! ## Bus words -/

theorem State.busWidth_cases (s : State) : s.busWidth = 4 ∨ s.busWidth = 8 := by
  unfold State.busWidth
  split
  · exact .inl rfl
  · exact .inr rfl

/-- A bus word lies in one doubleword. -/
theorem mem_busWord_div {s : State} {x a : Nat} (h : a ∈ s.busWord x) : a / 8 = x / 8 := by
  simp only [State.busWord, List.mem_map, List.mem_range] at h
  obtain ⟨k, hk, rfl⟩ := h
  rcases s.busWidth_cases with hw | hw <;> rw [hw] at hk ⊢ <;> omega

theorem self_mem_busWord (s : State) (x : Nat) : x ∈ s.busWord x := by
  simp only [State.busWord, List.mem_map, List.mem_range]
  refine ⟨x % s.busWidth, Nat.mod_lt _ ?_, Nat.div_add_mod' _ _⟩
  rcases s.busWidth_cases with hw | hw <;> omega

theorem lowest_mem : ∀ {xs : List Nat}, xs ≠ [] → lowest xs ∈ xs
  | [], h => absurd rfl h
  | [x], _ => List.mem_singleton.mpr rfl
  | x :: y :: ys, _ => by
    have ih : lowest (y :: ys) ∈ y :: ys := lowest_mem (List.cons_ne_nil y ys)
    rw [lowest]
    · rcases Nat.le_total x (lowest (y :: ys)) with hx | hy
      · rw [Nat.min_eq_left hx]
        exact List.mem_cons_self
      · rw [Nat.min_eq_right hy]
        exact List.mem_cons_of_mem _ ih
    · exact List.cons_ne_nil y ys

theorem mem_doubleOf {pa : Word} {a : Nat} : a ∈ doubleOf pa ↔ a / 8 = pa.toNat / 8 := by
  simp only [doubleOf, List.mem_map, List.mem_range]
  constructor
  · rintro ⟨k, hk, rfl⟩
    omega
  · exact fun h => ⟨a % 8, Nat.mod_lt _ (by decide), by omega⟩

/-! ## The bytes of an access in its doubleword -/

/-- The bytes `xs` are some of those of the doubleword that holds `pa`. -/
structure InDouble (pa : Word) (xs : List Nat) : Prop where
  nonempty : xs ≠ []
  double : ∀ x ∈ xs, x / 8 = pa.toNat / 8

section InDouble
variable {pa : Word} {xs : List Nat} (h : InDouble pa xs) (s : State)
include h

theorem InDouble.subset : xs ⊆ doubleOf pa := fun x hx => mem_doubleOf.2 (h.double x hx)

theorem InDouble.busWords : InDouble pa (s.busWords xs) := by
  constructor
  · obtain ⟨x, hx⟩ := List.exists_mem_of_ne_nil xs h.nonempty
    exact List.ne_nil_of_mem (List.mem_flatMap.mpr ⟨x, hx, self_mem_busWord s x⟩)
  · intro a ha
    obtain ⟨x, hx, hax⟩ := List.mem_flatMap.mp ha
    exact (mem_busWord_div hax).trans (h.double x hx)

theorem InDouble.firstElement : InDouble pa (s.firstElement xs) :=
  ⟨List.ne_nil_of_mem (self_mem_busWord s _),
    fun _ ha => (mem_busWord_div ha).trans (h.double _ (lowest_mem h.nonempty))⟩

theorem InDouble.subset_line : xs ⊆ lineBytes (lineBaseOf pa) := fun x hx => by
  have := h.double x hx
  exact mem_lineBytes_lineBaseOf.2 (by omega)

end InDouble

/-! ## A platform of one kind (R868) -/

/-- The region `kind` answers for all of the addresses `xs`. -/
structure State.Answers (s : State) (kind : RegionKind) (xs : List Nat) : Prop where
  nonempty : xs ≠ []
  kind : ∀ x ∈ xs, kindAt s.platform x = some kind

section Answers
variable {s : State} {kind : RegionKind} {xs : List Nat} (h : s.Answers kind xs)
include h

theorem State.Answers.anyOf : anyOf kind s.platform xs = true := by
  obtain ⟨x, hx⟩ := List.exists_mem_of_ne_nil xs h.nonempty
  exact List.any_eq_true.mpr ⟨x, hx, by simp [h.kind x hx]⟩

theorem State.Answers.anyOf_ne {k : RegionKind} (hk : kind ≠ k) : Machine.anyOf k s.platform xs = false := by
  refine List.any_eq_false.mpr fun x hx => ?_
  simp [h.kind x hx, hk]

end Answers

section Kinds
variable {s : State} {xs : List Nat}

/-- Where nothing is, the answer is marked erroneous, and its parity is good. -/
theorem State.Answers.nothing (h : s.Answers .nothing xs) : s.busError xs = true ∧ xs.any s.busBad = false := by
  refine ⟨by rw [State.busError, h.anyOf, Bool.true_or], List.any_eq_false.mpr fun x hx => ?_⟩
  simp [State.busBad, h.kind x hx]

/-- An answer of bad parity is not marked erroneous. -/
theorem State.Answers.badParity (h : s.Answers .badParity xs) : s.busError xs = false ∧ xs.any s.busBad = true := by
  obtain ⟨x, hx⟩ := List.exists_mem_of_ne_nil xs h.nonempty
  refine ⟨?_, List.any_eq_true.mpr ⟨x, hx, by simp [State.busBad, h.kind x hx]⟩⟩
  rw [State.busError, h.anyOf_ne (by decide), h.anyOf_ne (by decide)]
  rfl

theorem State.Answers.notSilent {kind : RegionKind} (h : s.Answers kind xs) (hkind : kind ≠ .silent) :
    Machine.anyOf .silent s.platform xs = false := h.anyOf_ne hkind

/-- A line of one kind answers as that kind, and so does each doubleword of it. -/
theorem State.answers_of_line {kind : RegionKind} {pa : Word}
    (h : ∀ y ∈ lineBytes (lineBaseOf pa), kindAt s.platform y = some kind) : s.Answers kind (lineBytes (lineBaseOf pa)) :=
  ⟨List.ne_nil_of_mem (mem_lineBytes_lineBaseOf.2 rfl), h⟩

theorem InDouble.answers_of_line {kind : RegionKind} {pa : Word} (hxs : InDouble pa xs)
    (h : ∀ y ∈ lineBytes (lineBaseOf pa), kindAt s.platform y = some kind) : s.Answers kind xs :=
  ⟨hxs.nonempty, fun x hx => h x (hxs.subset_line hx)⟩

theorem InDouble.answers {kind : RegionKind} {pa : Word} (hxs : InDouble pa xs)
    (h : ∀ y ∈ doubleOf pa, kindAt s.platform y = some kind) : s.Answers kind xs :=
  ⟨hxs.nonempty, fun x hx => h x (hxs.subset hx)⟩

end Kinds

/-! ## Exceptions of an instruction that was executed -/

section Raised
variable {s t : State} (h : SameOuter s t) (hcp0 : t.cp0 = s.cp0)
include h hcp0

theorem SameOuter.exceptionRegisters_raised {e : Exc} (he : e.isInt = false) (bad : Option DWord) :
    ExceptionRegisters e.code e.unit bad s (t.raised e bad) := h.exceptionRegisters hcp0 he bad

theorem SameOuter.cacheErrorTaken_aged (p : ParityError) :
    CacheErrorTaken (cacheErrWord p.data p.ed p.et p.ee p.pa p.va) s (t.aged.takeCacheError p) :=
  h.cacheErrorTaken hcp0 p

end Raised

/-! ## Exceptions behind a refill of the instruction cache -/

section Behind
variable {s u t : State} (h : OnlyICache s u)
include h

theorem OnlyICache.takeException {e : Exc} (he : e.isInt = false) (bad : Option DWord) (ht : t = u.takeException e bad) :
    ExceptionRegisters e.code e.unit bad s t ∧ t.icache = u.icache ∧ t.dcache = s.dcache ∧ SameBytes s t ∧ SameLink s t ∧
      t.fpu = s.fpu ∧ SameOutside s t := by
  subst ht
  exact ⟨h.outer.exceptionRegisters h.cp0 he bad, rfl, h.dcache, h.sameBytes, h.sameLink, h.outer.fpu, h.outer.sameOutside⟩

theorem OnlyICache.raised {e : Exc} (he : e.isInt = false) (bad : Option DWord) (ht : t = u.raised e bad) :
    ExceptionRegisters e.code e.unit bad s t ∧ t.icache = u.icache ∧ t.dcache = s.dcache ∧ SameBytes s t ∧ SameLink s t ∧
      t.fpu = s.fpu ∧ SameOutside s t := by
  subst ht
  exact ⟨h.outer.exceptionRegisters_raised h.cp0 he bad, rfl, h.dcache, h.sameBytes, h.sameLink, h.outer.fpu,
    h.outer.sameOutside⟩

theorem OnlyICache.takeCacheError (p : ParityError) (ht : t = u.takeCacheError p ∨ t = u.aged.takeCacheError p) :
    CacheErrorTaken (cacheErrWord p.data p.ed p.et p.ee p.pa p.va) s t ∧ t.icache = u.icache ∧ t.dcache = s.dcache ∧
      SameBytes s t ∧ SameLink s t := by
  rcases ht with rfl | rfl
  · exact ⟨h.outer.cacheErrorTaken h.cp0 p, rfl, h.dcache, h.sameBytes, h.sameLink⟩
  · exact ⟨h.outer.cacheErrorTaken_aged h.cp0 p, rfl, h.dcache, h.sameBytes, h.sameLink⟩

theorem OnlyICache.eq : u = { s with icache := u.icache, bus := u.bus, fresh := u.fresh } := by
  obtain ⟨⟨gpr, hi, lo, pc, nextPc, slot, llAddr, llSeen, standby, fpu, events, boot, part, platform, inputs, hazards⟩,
    cp0, llBit, dcache, mem⟩ := h
  cases s
  cases u
  simp only at *
  subst gpr hi lo pc nextPc slot llAddr llSeen standby fpu events boot part platform inputs hazards cp0 llBit dcache mem
  rfl

end Behind

section Refill
variable (s : State) (w : Way) (pa : Word)

theorem State.iInstall_holds {l : ILine} (hvalid : l.valid = true) (htag : l.tag = lineTag pa) :
    ((s.iInstall w pa l).icache.line w (lineIndex pa)).valid = true ∧
      ((s.iInstall w pa l).icache.line w (lineIndex pa)).tag = lineTag pa := by
  rw [State.iInstall_line]
  exact ⟨hvalid, htag⟩

theorem State.iInstall_writes (l : ILine) : (s.iInstall w pa l).bus.writes = [] := by
  simp [State.iInstall, State.iRefillBegun, State.inTransit, State.drained]

end Refill

end Sys2Proof.Machine
end

section
/-!
PROOF. Sys2Proof/Proofs/CachedFetches.lean: the fetch through the instruction cache, and the step that it begins (21_caches
R207, R208, R212, R214, R220, R230; 60_exceptions R685, R687).
-/

namespace Sys2Proof.Machine

/-! ## The word of a fetch -/

/-- The word of an aligned fetch lies in one doubleword. -/
theorem wordBytes_inDouble {pa : Word} (ha : pa.toNat % 4 = 0) : InDouble pa (wordBytes pa) := by
  refine ⟨by simp [wordBytes], fun x hx => ?_⟩
  obtain ⟨k, hk, rfl⟩ := List.mem_map.mp hx
  have hk := List.mem_range.mp hk
  omega

theorem translateFetch_aligned {s : State} {pa : Word} {alg : BitVec 3} (h : s.translateFetch = .ok pa alg)
    (ha : s.pc.toNat % 4 = 0) : pa.toNat % 4 = 0 := by
  have hoff := translate_offset h
  rw [low32_toNat] at hoff
  omega

theorem bne_eq_decide_ne : ∀ a b : Bool, (a != b) = decide (a ≠ b) := by decide

theorem ILine.wordBytes_eq (l : ILine) (pa : Word) :
    l.wordBytes (pa.toNat % 32) = (List.range 4).map fun k => l.data[(pa.toNat + k) % 32] := by
  simp [ILine.wordBytes, List.range_succ]

theorem ILine.badData_eq (l : ILine) (pa : Word) :
    l.badData (pa.toNat % 32) = decide (l.par[pa.toNat / 4 % 8] ≠
      (((List.range 4).map fun k => l.data[(pa.toNat + k) % 32]).map parity).foldl xor false) := by
  have hindex : pa.toNat % 32 / 4 % 8 = pa.toNat / 4 % 8 := by omega
  rw [ILine.badData, ILine.wordBytes_eq]
  simp only [hindex]
  exact bne_eq_decide_ne _ _

theorem ILine.badTag_eq (l : ILine) : l.badTag = decide (l.tagPar ≠ parity (l.tag ++ bit l.valid)) := by
  rw [ILine.badTag, iTagParity]
  exact bne_eq_decide_ne _ _

/-- The word that a line of RAM holds is the word in memory. -/
theorem RefilledI.wordBytes {s : State} {pa : Word} {l : ILine} (h : RefilledI pa l s) (ha : pa.toNat % 4 = 0) :
    l.wordBytes (pa.toNat % 32) = (List.range 4).map fun k => s.mem.get (pa.toNat + k) := by
  obtain ⟨_, _, _, _, hdata⟩ := h
  rw [ILine.wordBytes_eq]
  refine List.map_congr_left fun k hk => ?_
  have hk := List.mem_range.mp hk
  have hbyte := hdata ⟨(pa.toNat + k) % 32, Nat.mod_lt _ (by decide)⟩
  rwa [lineBaseOf_add_mod (by omega)] at hbyte

/-! ## The fetch -/

section Fetch
variable {s : State} {pa : Word} {alg : BitVec 3} (hdue : NothingDue s) (hwindow : s.hazards.mappedWindow = 0)
  (hwatch : s.iwatchMatches = false) (htranslate : s.translateFetch = .ok pa alg) (ha : s.pc.toNat % 4 = 0)
include hwindow hwatch htranslate ha

theorem State.fetch_cached (halg : alg = 0 ∨ alg = 1 ∨ alg = 3) : s.fetch = s.fetchCached pa := by
  have htwo : ¬alg = 2 := ne_two_of_cached halg
  have hcheck : s.iwatchCheck = .ok () s := by simp [State.iwatchCheck, hwatch]
  rw [State.fetch, State.fetchAddress_aligned hwindow htranslate ha, Access.bind_of_ok]
  dsimp only
  rw [hcheck, Access.bind_of_ok, if_neg htwo, calgReserved_of_cached halg, if_neg Bool.false_ne_true]

end Fetch

theorem step_of_fetch_refused {s : State} {r : Refusal} (hdue : NothingDue s) (h : s.fetch = .refused r) :
    step s = .refused r := by
  rw [step_of_nothingDue hdue, h]
  rfl

section Cached
variable {s : State} {pa : Word}

/-- The step of the instruction whose word the fetch gives. -/
theorem stepAnswers_of_fetch {u : State} {bs : List Byte} {i : Instr} (hdue : NothingDue s)
    (hfetch : s.fetch = .ok (BitVec.ofNat 32 (fromBytes s.boot.bigEndian bs)) u) (hwf : i.WellFormed = true)
    (hbytes : memNumber s bs = (encode i).toNat) : StepAnswers s (exec i u) := by
  rw [ofNat_fromBytes_of_memNumber hbytes] at hfetch
  exact stepRunsDecoded s u (encode i) i hdue hfetch (decode_encode i hwf)

theorem State.fetchCached_hit {w : Way} {l : ILine} (hhit : s.icache.lookup pa = .hit w)
    (hl : l = s.icache.line w (lineIndex pa)) :
    s.fetchCached pa =
      if s.cp0.status.de = false ∧ (l.badData (pa.toNat % 32) = true ∨ l.badTag = true) then
        .trap (s.takeCacheError (s.fetchParityError pa (l.badData (pa.toNat % 32)) l.badTag false))
      else .ok (BitVec.ofNat 32 (fromBytes s.boot.bigEndian (l.wordBytes (pa.toNat % 32)))) s := by
  subst hl
  rw [State.fetchCached, hhit]
  simp only [State.fetchHit, State.wordOfLine, Bool.and_eq_true, Bool.not_eq_true', Bool.or_eq_true]

section Miss
variable (hmiss : s.icache.lookup pa = .miss) (ha : pa.toNat % 4 = 0)
include hmiss ha

omit ha in
theorem State.fetchCached_ram (hram : s.platform = []) :
    s.fetchCached pa = .ok ((s.iRefill pa).wordOfLine
      ((s.iRefill pa).icache.line (s.iVictim (lineIndex pa)) (lineIndex pa)) pa) (s.iRefill pa) := by
  obtain ⟨_, hbad, herror⟩ := State.bus_ram hram
  rw [State.fetchCached, hmiss]
  simp [hram, hbad, herror]

theorem State.fetchCached_nothing (h : ∀ y ∈ lineBytes (lineBaseOf pa), kindAt s.platform y = some .nothing) :
    s.fetchCached pa = .trap ((s.iRefillFailed pa).takeException .ibe none) := by
  have hline := State.answers_of_line h
  obtain ⟨herror, hbad⟩ := ((wordBytes_inDouble ha).firstElement s |>.answers_of_line h).nothing
  rw [State.fetchCached, hmiss]
  simp [hline.notSilent, hbad, herror]

theorem State.fetchCached_badParity (h : ∀ y ∈ lineBytes (lineBaseOf pa), kindAt s.platform y = some .badParity)
    (hde : s.cp0.status.de = false) :
    s.fetchCached pa = .trap ((s.iRefill pa).takeCacheError (s.fetchParityError pa true false true)) := by
  have hline := State.answers_of_line h
  obtain ⟨herror, hbad⟩ := ((wordBytes_inDouble ha).firstElement s |>.answers_of_line h).badParity
  rw [State.fetchCached, hmiss]
  simp [hline.notSilent, hbad, herror, hde]

end Miss

end Cached

/-! ## What the refill of a fetch leaves -/

theorem State.iRefill_onlyICache (s : State) (pa : Word) : OnlyICache s (s.iRefill pa) := s.iInstall_onlyICache _ pa _

theorem State.iRefillFailed_onlyICache (s : State) (pa : Word) : OnlyICache s (s.iRefillFailed pa) :=
  s.iFailed_onlyICache _ pa

section Refilled
variable {s : State} {pa : Word} {x : BitVec 7} (hx : x = lineIndex pa) {w : Way} (hw : w = s.iVictim x)
include hx hw

theorem State.iRefill_ram (hram : s.platform = []) :
    RefilledI pa ((s.iRefill pa).icache.line w x) s ∧
      ∀ k : Fin 8, ((s.iRefill pa).icache.line w x).par[k] = wordParity ((s.iRefill pa).icache.line w x) k := by
  subst hx hw
  rw [State.iRefill, State.iInstall_line]
  refine ⟨State.iRefilled_refilledI hram pa _ rfl, fun k => ?_⟩
  exact (State.iRefilled_wordParity hram pa _ k).trans (wordParity_congr rfl k)

theorem State.iRefill_refillsI : RefillsI w x s (s.iRefill pa) := by
  subst hx hw
  exact s.iInstall_refillsI _ pa _

theorem State.iRefill_holds :
    ((s.iRefill pa).icache.line w x).valid = true ∧ ((s.iRefill pa).icache.line w x).tag = lineTag pa := by
  subst hx hw
  exact s.iInstall_holds _ pa rfl rfl

theorem State.iRefillFailed_line :
    ((s.iRefillFailed pa).icache.line w x).valid = false ∧ SameILinesBut w x s (s.iRefillFailed pa) := by
  subst hx hw
  exact ⟨s.iFailed_invalid _ pa, s.iFailed_sameILinesBut _ pa⟩

end Refilled

end Sys2Proof.Machine

open Sys2Proof Sys2Proof.Machine

/-- Settles O7: the fetch is `fetchCached`, whose word on a miss is that of the line which the refill brings
(`RefilledI.wordBytes`). -/
theorem stepFetchesCached : Obligations.StepFetchesCached := by
  intro s pa alg x a b hdue hwindow hlock hwatch htranslate halg halign hx ha hb
  have hfetch := State.fetch_cached hwindow hwatch htranslate halign halg
  have halign := translateFetch_aligned htranslate halign
  refine ⟨fun hboth => step_of_fetch_refused hdue ?_, fun w l word ed et hhit hl hword hed het => ?_,
    fun hmiss w hw => ?_⟩
  case refine_1 =>
    rw [hfetch, State.fetchCached, hboth]
  case refine_2 =>
    have hhit := State.fetchCached_hit hhit (hx ▸ hl)
    rw [ILine.badData_eq, ILine.badTag_eq, ILine.wordBytes_eq, ← hword, ← hed, ← het] at hhit
    rw [hhit] at hfetch
    refine ⟨fun hgood i hwf hbytes => stepAnswers_of_fetch hdue ?_ hwf hbytes, fun hde hbad => ?_⟩
    · have hclean : ¬(s.cp0.status.de = false ∧ (ed = true ∨ et = true)) := by
        rcases hgood with hmasked | ⟨hword, htag⟩
        · simp [hmasked]
        · simp [hword, htag]
      rwa [if_neg hclean] at hfetch
    · rw [if_pos ⟨hde, hbad⟩] at hfetch
      exact ⟨_, step_of_fetch_trap hdue hfetch,
        (SameOuter.refl s).cacheErrorTaken rfl (s.fetchParityError pa ed et false), ⟨rfl, rfl, rfl⟩, ⟨rfl, rfl⟩,
        fun _ => rfl⟩
  case refine_3 =>
    obtain rfl : w = s.iVictim x := by rw [hw, ha, hb, State.iVictim_eq hlock]
    refine ⟨fun hram => ⟨s.iRefill pa, ?_⟩, fun hnothing => ?_, fun hbad hde => ?_⟩
    · obtain ⟨refilled, par⟩ := State.iRefill_ram hx rfl hram
      have only := s.iRefill_onlyICache pa
      refine ⟨fun i hwf hbytes => stepAnswers_of_fetch hdue ?_ hwf hbytes, refilled, par, State.iRefill_refillsI hx rfl,
        only.eq, s.iInstall_writes _ pa _⟩
      rw [hfetch, State.fetchCached_ram hmiss hram, State.wordOfLine, only.outer.boot, ← hx, refilled.wordBytes halign]
    · rw [State.fetchCached_nothing hmiss halign hnothing] at hfetch
      obtain ⟨registers, hicache, hdcache, bytes, link, fpu, outside⟩ :=
        (s.iRefillFailed_onlyICache pa).takeException (e := .ibe) rfl none rfl
      obtain ⟨invalid, others⟩ := State.iRefillFailed_line (s := s) hx rfl
      exact ⟨_, step_of_fetch_trap hdue hfetch, registers, invalid, others, hdcache, bytes, link, fpu,
        outside⟩
    · rw [State.fetchCached_badParity hmiss halign hbad hde] at hfetch
      obtain ⟨registers, hicache, hdcache, bytes, link⟩ := (s.iRefill_onlyICache pa).takeCacheError
        (s.fetchParityError pa true false true) (.inl rfl)
      obtain ⟨valid, tag⟩ := State.iRefill_holds (s := s) hx rfl
      exact ⟨_, step_of_fetch_trap hdue hfetch, registers, valid, tag, State.iRefill_refillsI hx rfl, hdcache, bytes, link⟩

end

section
/-!
PROOF. Sys2Proof/Proofs/AccessForms.lean: every load is a load of some bytes of the doubleword of its address with an end
behind it, and every store that is not conditional a store of some (40_load_store R303 to R328, R335, R337).
-/

namespace Sys2Proof.Machine

/-! ## The end of an uncached load -/

section Uncached
variable (s : State)

theorem State.singleRead_sameOuter : SameOuter s s.singleRead := by constructor <;> rfl

theorem State.singleRead_sameSystem : SameSystem s s.singleRead.memEnd :=
  ⟨rfl, ⟨rfl, rfl, rfl⟩, ⟨rfl, rfl⟩, fun _ => rfl, s.singleRead_sameOuter.sameOutside⟩

theorem gprLoad_uncached (rt : Reg) (d : DWord) :
    ∃ t, (s.singleRead.setReg rt d).doneMem = .next t ∧ WritesGpr rt d s t ∧ FrameGpr s t ∧ Advanced s t := by
  have houter := s.singleRead_sameOuter
  have hframe : FrameGpr s s.singleRead.memEnd := ⟨houter.sameHiLo, houter.fpu, s.singleRead_sameSystem⟩
  have hadvanced : Advanced s s.singleRead.memEnd := houter.advanced
  rw [State.doneMem_eq, State.memEnd_setReg]
  refine ⟨_, rfl, s.singleRead.memEnd.setReg_writesGpr rt d, ?_⟩
  unfold State.setReg
  split
  · exact ⟨hframe, hadvanced⟩
  · exact ⟨hframe, hadvanced⟩

theorem fgrLoad_uncached (ft : Reg) (v : Word) :
    ∃ t, (s.singleRead.setFgr ft v).doneMem = .next t ∧ t.fgr ft = v ∧ (∀ g, g ≠ ft → t.fgr g = s.fgr g) ∧
      t.fpu.fcr31 = s.fpu.fcr31 ∧ FrameFpu s t ∧ Advanced s t := by
  have houter := s.singleRead_sameOuter
  refine ⟨_, State.doneMem_eq _, ?_, fun g hg => ?_, s.singleRead.setFgr_fcr31 ft v, ⟨houter.sameGpr, houter.sameHiLo,
    s.singleRead_sameSystem⟩, houter.advanced⟩
  · exact (s.singleRead.fgr_setFgr ft ft v).trans (if_pos rfl)
  · exact (s.singleRead.fgr_setFgr ft g v).trans (if_neg hg)

end Uncached

/-! ## Loads -/

/-- What the load `i` is when its uncached read brings no error: LWC1 writes FGR[rt], LL and LLD have no meaning (U11), the
others write GPR[rt]. -/
def UncachedLoaded (s : State) (base rt : Reg) (offset : BitVec 16) (i : Instr) : Prop :=
  if i = .lwc1 base rt offset then ∃ v, FgrResult i rt v s.fpu.fcr31 s
  else if i ∈ [Instr.ll base rt offset, .lld base rt offset] then exec i s = .refused .linkUncached
  else ∃ v, GprResult i rt v s

/-- `i` is a load of the span `sp`, with an end behind it. -/
structure LoadOf (s : State) (base rt : Reg) (offset : BitVec 16) (i : Instr) (n : Nat) (sp : Span) : Prop where
  va : sp.va = s.ea base offset
  align : sp.align = n
  traps : ∀ t, s.load sp = .trap t → exec i s = .next t
  uncached : ∀ bs pa, s.load sp = .ok (bs, pa, 2) s.singleRead → UncachedLoaded s base rt offset i
  inDouble : ∀ pa alg, MapsTo s (s.ea base offset) pa alg → (s.ea base offset).toNat % n = 0 →
    InDouble pa (sp.physical s.cp0.status.reverseEndian pa)

section Spans
variable {s : State} {va : DWord} {pa : Word} {alg : BitVec 3} (hmap : MapsTo s va pa alg)
include hmap

theorem aligned_inDouble {n : Nat} (hn : n = 1 ∨ n = 2 ∨ n = 4 ∨ n = 8) (ha : va.toNat % n = 0) :
    InDouble pa ((aligned va n).physical s.cp0.status.reverseEndian pa) := by
  rw [physical_aligned]
  refine ⟨fun hnil => ?_, fun x hx => mem_byteAddrs_div (hmap.alignedTo hn ha) hx⟩
  have hlen := byteAddrs_length s pa n
  rw [hnil] at hlen
  rw [← hlen] at hn
  simp at hn

theorem partSpan_inDouble {size : Nat} (hsize : size = 4 ∨ size = 8) (left : Bool) :
    InDouble pa ((partSpan s.bigEndianCpu left size va).physical s.cp0.status.reverseEndian pa) := by
  have hoff : pa.toNat % size = va.toNat % size := hmap.mod (by omega)
  have hlt := bytesBefore_lt (s := s) hsize hoff
  have hn := partSpan_n (s := s) hsize hoff left
  refine ⟨fun hnil => ?_, fun x hx => ?_⟩
  · have hlen := congrArg List.length hnil
    rw [Span.physical, List.length_map, List.length_range, hn, List.length_nil] at hlen
    split at hlen <;> omega
  · rw [physical_partSpan hsize hoff left] at hx
    rw [mem_byteAddrs_div (unitOf_alignedTo pa hsize) ((partBytes_sublist _ _ _ _ _).subset hx), unitOf_div pa hsize]

end Spans

section Loads
variable {s : State} {base rt : Reg} {offset : BitVec 16} {i : Instr}

/-- A load that ends in `k` traps as its access does. -/
theorem exec_of_load_trap {sp : Span} {k : List Byte × Word × BitVec 3 → State → Result}
    (hexec : exec i s = (s.load sp).finish k) : ∀ t, s.load sp = .trap t → exec i s = .next t := by
  intro t ht
  rw [hexec, ht, Access.finish_of_trap]

theorem UncachedLoaded.of_gpr (hcp1 : i ≠ .lwc1 base rt offset)
    (hlink : i ∉ [Instr.ll base rt offset, .lld base rt offset]) {d : DWord}
    (hexec : exec i s = (s.singleRead.setReg rt d).doneMem) : UncachedLoaded s base rt offset i := by
  obtain ⟨t, ht, hwrites⟩ := gprLoad_uncached s rt d
  rw [UncachedLoaded, if_neg hcp1, if_neg hlink]
  exact ⟨d, t, hexec.trans ht, hwrites⟩

theorem loadOf_aligned {n : Nat} (hn : n = 1 ∨ n = 2 ∨ n = 4 ∨ n = 8) (signed : Bool)
    (hexec : exec i s = s.loadAligned n signed base rt offset) (hcp1 : i ≠ .lwc1 base rt offset)
    (hlink : i ∉ [Instr.ll base rt offset, .lld base rt offset]) :
    LoadOf s base rt offset i n (aligned (s.ea base offset) n) where
  va := rfl
  align := rfl
  traps := exec_of_load_trap hexec
  uncached bs pa h := by
    rw [State.loadAligned, h, Access.finish_of_ok] at hexec
    exact UncachedLoaded.of_gpr hcp1 hlink hexec
  inDouble pa alg hmap ha := aligned_inDouble hmap hn ha

theorem loadOf_wordPart (left : Bool) (hexec : exec i s = s.loadWordPart left base rt offset)
    (hcp1 : i ≠ .lwc1 base rt offset) (hlink : i ∉ [Instr.ll base rt offset, .lld base rt offset]) :
    LoadOf s base rt offset i 1 (partSpan s.bigEndianCpu left 4 (s.ea base offset)) where
  va := partSpan_va _ _ _ _
  align := partSpan_align _ _ _ _
  traps := exec_of_load_trap hexec
  uncached bs pa h := by
    unfold State.loadWordPart at hexec
    dsimp only at hexec
    rw [← partSpan, h, Access.finish_of_ok] at hexec
    exact UncachedLoaded.of_gpr hcp1 hlink hexec
  inDouble pa alg hmap _ := partSpan_inDouble hmap (.inl rfl) left

theorem loadOf_doublePart (left : Bool) (hexec : exec i s = s.loadDoublePart left base rt offset)
    (hcp1 : i ≠ .lwc1 base rt offset) (hlink : i ∉ [Instr.ll base rt offset, .lld base rt offset]) :
    LoadOf s base rt offset i 1 (partSpan s.bigEndianCpu left 8 (s.ea base offset)) where
  va := partSpan_va _ _ _ _
  align := partSpan_align _ _ _ _
  traps := exec_of_load_trap hexec
  uncached bs pa h := by
    unfold State.loadDoublePart at hexec
    dsimp only at hexec
    rw [← partSpan, h, Access.finish_of_ok] at hexec
    exact UncachedLoaded.of_gpr hcp1 hlink hexec
  inDouble pa alg hmap _ := partSpan_inDouble hmap (.inr rfl) left

theorem loadOf_linked {n : Nat} (hn : n = 1 ∨ n = 2 ∨ n = 4 ∨ n = 8)
    (hexec : exec i s = s.loadLinked n base rt offset) (hcp1 : i ≠ .lwc1 base rt offset)
    (hlink : i ∈ [Instr.ll base rt offset, .lld base rt offset]) :
    LoadOf s base rt offset i n (aligned (s.ea base offset) n) where
  va := rfl
  align := rfl
  traps := exec_of_load_trap hexec
  uncached bs pa h := by
    rw [State.loadLinked, h, Access.finish_of_ok] at hexec
    rw [UncachedLoaded, if_neg hcp1, if_pos hlink]
    exact hexec
  inDouble pa alg hmap ha := aligned_inDouble hmap hn ha

theorem loadOf_lwc1 (hcp1 : Cp1Usable s) :
    LoadOf s base rt offset (.lwc1 base rt offset) 4 (aligned (s.ea base offset) 4) := by
  have hexec : exec (.lwc1 base rt offset) s = (s.load (aligned (s.ea base offset) 4)).finish fun (bs, _, _) s =>
      (s.setFgr rt (BitVec.ofNat 32 (fromBytes s.bigEndianCpu bs))).doneMem := State.needCp1_of_usable hcp1 _
  refine ⟨rfl, rfl, exec_of_load_trap hexec, fun bs pa h => ?_, fun pa alg hmap ha => aligned_inDouble hmap (by decide) ha⟩
  rw [h, Access.finish_of_ok] at hexec
  obtain ⟨t, ht, hwrites⟩ := fgrLoad_uncached s rt (BitVec.ofNat 32 (fromBytes s.singleRead.bigEndianCpu bs))
  rw [UncachedLoaded, if_pos rfl]
  exact ⟨_, t, hexec.trans ht, hwrites⟩

end Loads

/-- Every load form is a load; all but the unaligned ones of the bytes from its address on. -/
theorem exists_loadOf (s : State) (base rt : Reg) (offset : BitVec 16) :
    ∀ p ∈ loadForms base rt offset, MayExecute s p.1 → ∃ sp, LoadOf s base rt offset p.1 p.2 sp ∧
      (p.1 ∉ [Instr.lwl base rt offset, .lwr base rt offset, .ldl base rt offset, .ldr base rt offset] →
        sp = aligned (s.ea base offset) p.2) := by
  simp only [loadForms, List.forall_mem_cons]
  refine ⟨?lb, ?lbu, ?lh, ?lhu, ?lw, ?lwu, ?ld, ?lwl, ?lwr, ?ldl, ?ldr, ?ll, ?lld, ?lwc1, List.forall_mem_nil _⟩
  case lb | lh | lw => exact fun _ => ⟨_, loadOf_aligned (by decide) true rfl (by simp) (by simp), fun _ => rfl⟩
  case lbu | lhu => exact fun _ => ⟨_, loadOf_aligned (by decide) false rfl (by simp) (by simp), fun _ => rfl⟩
  case lwu | ld =>
    exact fun may => ⟨_, loadOf_aligned (by decide) false (State.need64_of_allowed may _) (by simp) (by simp), fun _ => rfl⟩
  case lwl => exact fun _ => ⟨_, loadOf_wordPart true rfl (by simp) (by simp), fun h => absurd h (by simp)⟩
  case lwr => exact fun _ => ⟨_, loadOf_wordPart false rfl (by simp) (by simp), fun h => absurd h (by simp)⟩
  case ldl =>
    exact fun may => ⟨_, loadOf_doublePart true (State.need64_of_allowed may _) (by simp) (by simp),
      fun h => absurd h (by simp)⟩
  case ldr =>
    exact fun may => ⟨_, loadOf_doublePart false (State.need64_of_allowed may _) (by simp) (by simp),
      fun h => absurd h (by simp)⟩
  case ll => exact fun _ => ⟨_, loadOf_linked (by decide) rfl (by simp) (by simp), fun _ => rfl⟩
  case lld =>
    exact fun may => ⟨_, loadOf_linked (by decide) (State.need64_of_allowed may _) (by simp) (by simp), fun _ => rfl⟩
  case lwc1 => exact fun may => ⟨_, loadOf_lwc1 may, fun _ => rfl⟩

/-! ## Stores -/

/-- `i` is a store of the bytes `bs` to the span `sp`. -/
structure StoreOf (s : State) (base : Reg) (offset : BitVec 16) (i : Instr) (n : Nat) (sp : Span) (bs : List Byte) :
    Prop where
  va : sp.va = s.ea base offset
  align : sp.align = n
  exec_eq : exec i s = (s.store sp bs).finish fun _ s => s.doneMem
  inDouble : ∀ pa alg, MapsTo s (s.ea base offset) pa alg → (s.ea base offset).toNat % n = 0 →
    InDouble pa (sp.physical s.cp0.status.reverseEndian pa)

section Stores
variable {s : State} {base : Reg} {offset : BitVec 16} {i : Instr}

theorem storeOf_aligned {n v : Nat} (hn : n = 1 ∨ n = 2 ∨ n = 4 ∨ n = 8)
    (hexec : exec i s = s.storeAligned n v base offset) :
    StoreOf s base offset i n (aligned (s.ea base offset) n) (toBytes s.bigEndianCpu n v) :=
  ⟨rfl, rfl, hexec, fun _ _ hmap ha => aligned_inDouble hmap hn ha⟩

theorem storeOf_part {size v : Nat} (hsize : size = 4 ∨ size = 8) {left : Bool}
    (hexec : exec i s = s.storePart size left v base offset) :
    ∃ bs, StoreOf s base offset i 1 (partSpan s.bigEndianCpu left size (s.ea base offset)) bs :=
  ⟨_, partSpan_va _ _ _ _, partSpan_align _ _ _ _, hexec, fun _ _ hmap _ => partSpan_inDouble hmap hsize left⟩

end Stores

theorem exists_storeOf (s : State) (base rt : Reg) (offset : BitVec 16) :
    ∀ p ∈ storeForms base rt offset, MayExecute s p.1 → ∃ sp bs, StoreOf s base offset p.1 p.2 sp bs := by
  simp only [storeForms, List.forall_mem_cons]
  refine ⟨?sb, ?sh, ?sw, ?sd, ?swl, ?swr, ?sdl, ?sdr, ?swc1, List.forall_mem_nil _⟩
  case sb | sh | sw => exact fun _ => ⟨_, _, storeOf_aligned (by decide) rfl⟩
  case sd => exact fun may => ⟨_, _, storeOf_aligned (by decide) (State.need64_of_allowed may _)⟩
  case swl | swr => exact fun _ => ⟨_, storeOf_part (.inl rfl) rfl⟩
  case sdl | sdr => exact fun may => ⟨_, storeOf_part (.inr rfl) (State.need64_of_allowed may _)⟩
  case swc1 => exact fun may => ⟨_, _, storeOf_aligned (by decide) (State.needCp1_of_usable may _)⟩

end Sys2Proof.Machine
end

section
/-!
PROOF. Sys2Proof/Proofs/MemoryErrors.lean: Bus Error and Cache Error of data accesses, of their refills and of Fill
(21_caches R208, R214, R230, R245; 60_exceptions R685 to R688; 80_system_interface R856, R868).
-/

namespace Sys2Proof.Machine

/-! ## Uncached fetches -/

section Fetch
variable {s : State} {pa : Word} (hwindow : s.hazards.mappedWindow = 0) (hwatch : s.iwatchMatches = false)
  (htranslate : s.translateFetch = .ok pa 2) (ha : s.pc.toNat % 4 = 0)
include hwindow hwatch htranslate ha

theorem State.fetch_eq_fetchUncached : s.fetch = s.fetchUncached pa := by
  have hcheck : s.iwatchCheck = .ok () s := by simp [State.iwatchCheck, hwatch]
  rw [State.fetch, State.fetchAddress_aligned hwindow htranslate ha, Access.bind_of_ok]
  dsimp only
  rw [hcheck, Access.bind_of_ok, if_pos rfl]

theorem State.fetch_nothing (h : ∀ x ∈ doubleOf pa, kindAt s.platform x = some .nothing) :
    s.fetch = .trap (s.singleRead.takeException .ibe none) := by
  have hword := wordBytes_inDouble (translateFetch_aligned htranslate ha)
  have hbytes := hword.answers h
  have hbad := ((hword.busWords s).answers h).nothing.2
  rw [State.fetch_eq_fetchUncached hwindow hwatch htranslate ha, State.fetchUncached]
  simp [hbytes.notSilent, hbytes.nothing.1, hbad]

theorem State.fetch_badParity (h : ∀ x ∈ doubleOf pa, kindAt s.platform x = some .badParity)
    (hde : s.cp0.status.de = false) :
    s.fetch = .trap (s.singleRead.takeCacheError (s.fetchParityError pa true false true)) := by
  have hword := wordBytes_inDouble (translateFetch_aligned htranslate ha)
  have hbytes := hword.answers h
  have hbad := ((hword.busWords s).answers h).badParity.2
  rw [State.fetch_eq_fetchUncached hwindow hwatch htranslate ha, State.fetchUncached]
  simp [hbytes.notSilent, hbad, hde]

end Fetch

/-! ## Accesses behind their address -/

/-- What a parity error of a data access records (11_cp0_registers R111). -/
def dataError (pa : Word) (va : DWord) (ed et ee : Bool) : ParityError :=
  { data := true, ed := ed, et := et, ee := ee, pa := pa, va := low32 va }

section Access
variable {s : State} {sp : Span} {pa : Word} {alg : BitVec 3} (hhazard : NoMemHazard s) (hmap : MapsTo s sp.va pa alg)
  (ha : sp.va.toNat % sp.align = 0)
include hhazard hmap ha

theorem State.load_of_dataReady_trap {t : State}
    (h : s.dataReady sp.va pa alg (sp.physical s.cp0.status.reverseEndian pa) false = .trap t) : s.load sp = .trap t := by
  rw [State.load, State.dataAddress_of false hhazard hmap ha, Access.bind_of_ok]
  dsimp only
  rw [h, Access.bind_of_trap]

theorem State.store_of_dataReady_trap {t : State} (bs : List Byte)
    (h : s.dataReady sp.va pa alg (sp.physical s.cp0.status.reverseEndian pa) true = .trap t) :
    s.store sp bs = .trap t := by
  rw [State.store, State.storeReady, State.dataAddress_of true hhazard hmap ha, Access.bind_of_ok]
  dsimp only
  rw [h, Access.bind_of_trap, Access.bind_of_trap]

end Access

/-- Without a match of DWatch nothing is noticed, in its window either. -/
theorem State.dwatch_of_no_match {s : State} {va : DWord} {store : Bool} (h : s.dwatchMatches va store = false) :
    s.dwatchUnsure va store = false ∧ s.dwatchNoticed va store = false := by
  simp [State.dwatchUnsure, State.dwatchNoticed, h]

/-! ## Uncached data accesses -/

section Uncached
variable {s : State} {va : DWord} {pa : Word} {xs : List Nat}

/-- An uncached load that is answered: Cache Error, then Bus Error, then its bytes (R686, R687). -/
theorem State.dataReady_uncachedLoad (hquiet : s.dwatchMatches va false = false)
    (hsilent : anyOf .silent s.platform xs = false) :
    s.dataReady va pa 2#3 xs false =
      if s.cp0.status.de = false ∧ (s.busWords xs).any s.busBad = true then
        .trap (s.singleRead.aged.takeCacheError (dataError pa va true false true))
      else if s.busError xs = true then .trap (s.singleRead.raised .dbe none)
      else .ok () s := by
  obtain ⟨hunsure, hnoticed⟩ := State.dwatch_of_no_match hquiet
  have hreserved : calgReserved 2#3 = false := by decide
  have hhangs : s.busHangs pa 2#3 xs false = none := by
    simp [State.busHangs, State.busReads, hsilent, State.victimHangs, State.needsRefill]
  by_cases hbad : s.cp0.status.de = false ∧ (s.busWords xs).any s.busBad = true
  · obtain ⟨hde, hany⟩ := id hbad
    have hparity : s.dataParityError va pa 2#3 xs false = some (dataError pa va true false true) := by
      simp [State.dataParityError, hde, hany, dataError]
    rw [if_pos hbad]
    simp [State.dataReady, hunsure, hreserved, hparity, State.dataCacheError, hhangs]
  · have hparity : s.dataParityError va pa 2#3 xs false = none := by
      cases hde : s.cp0.status.de
      · have hany : (s.busWords xs).any s.busBad = false := by simpa [hde] using hbad
        simp [State.dataParityError, hde, hany]
      · simp [State.dataParityError, hde]
    rw [if_neg hbad]
    simp [State.dataReady, hunsure, hnoticed, hreserved, hparity, State.dataRefilled, hhangs]

theorem State.dataReady_uncachedStore (hquiet : s.dwatchMatches va true = false) :
    s.dataReady va pa 2#3 xs true = .ok () s := by
  obtain ⟨hunsure, hnoticed⟩ := State.dwatch_of_no_match hquiet
  have hreserved : calgReserved 2#3 = false := by decide
  have hhangs : s.busHangs pa 2#3 xs true = none := by
    simp [State.busHangs, State.busReads, anyOf, State.victimHangs, State.needsRefill]
  have hparity : s.dataParityError va pa 2#3 xs true = none := by simp [State.dataParityError]
  simp [State.dataReady, hunsure, hnoticed, hreserved, hparity, State.dataRefilled, hhangs]

/-- A write where no RAM is changes no memory (R868; D36). -/
theorem writeBytes_of_not_ram (platform : List Region) (ws : List (Nat × Byte)) :
    (∀ w ∈ ws, isRam platform w.1 = false) → ∀ m : Memory, writeBytes platform m ws = m := by
  induction ws with
  | nil => exact fun _ _ => rfl
  | cons w ws ih =>
    obtain ⟨x, b⟩ := w
    intro h m
    have hx : isRam platform x = false := h (x, b) (by simp)
    rw [writeBytes, ih (fun w hw => h w (by simp [hw])) _, writeByte, hx]
    rfl

end Uncached

theorem State.singleRead_exceptionTaken (s : State) {e : Exc} (he : e.isInt = false) :
    ExceptionTaken e.code e.unit none s (s.singleRead.raised e none) := s.singleRead.raised_exceptionTaken he none

/-- Cache Error behind what left memory alone too. -/
theorem OnlyMemory.cacheErrorTaken {s u : State} (h : OnlyMemory s u) (hmem : u.mem = s.mem) (p : ParityError) :
    CacheErrorTaken (cacheErrWord p.data p.ed p.et p.ee p.pa p.va) s (u.aged.takeCacheError p) ∧
      SameLink s (u.aged.takeCacheError p) ∧ SameCaches s (u.aged.takeCacheError p) ∧
      SameBytes s (u.aged.takeCacheError p) :=
  ⟨h.outer.cacheErrorTaken_aged h.cp0 p, ⟨h.llBit, h.outer.llAddr, h.outer.llSeen⟩, ⟨h.icache, h.dcache⟩,
    fun a => congrArg (Memory.get · a) hmem⟩

theorem State.singleRead_onlyMemory (s : State) : OnlyMemory s s.singleRead :=
  ⟨s.singleRead_sameOuter, rfl, rfl, rfl, rfl⟩

section UncachedLoad
variable {s : State} {base rt : Reg} {offset : BitVec 16} {pa : Word} {i : Instr} {n : Nat} {sp : Span}
  (h : LoadOf s base rt offset i n sp) (hhazard : NoMemHazard s) (hmap : MapsTo s (s.ea base offset) pa 2)
  (ha : (s.ea base offset).toNat % n = 0) (hquiet : s.dwatchMatches (s.ea base offset) false = false)
include h hhazard hmap ha hquiet

/-- The answers of an uncached load where no region is silent. -/
theorem LoadOf.uncachedLoad {xs : List Nat} (hxs : sp.physical s.cp0.status.reverseEndian pa = xs)
    (hsilent : anyOf .silent s.platform xs = false) :
    if s.cp0.status.de = false ∧ (s.busWords xs).any s.busBad = true then
      ∃ t, exec i s = .next t ∧ CacheErrorTaken (cacheErrWord true true false true pa (low32 (s.ea base offset))) s t ∧
        SameLink s t ∧ SameCaches s t ∧ SameBytes s t
    else if s.busError xs = true then TrapResult i 7 0 none s
    else UncachedLoaded s base rt offset i := by
  obtain ⟨hva, halign, traps, uncached, -⟩ := h
  rw [← hva] at hmap ha hquiet
  rw [← halign] at ha
  have hmap : MapsTo s sp.va pa 2#3 := hmap
  have hready := State.dataReady_uncachedLoad (pa := pa) hquiet hsilent
  have htraps : ∀ t, s.dataReady sp.va pa 2#3 xs false = .trap t → exec i s = .next t := fun t ht =>
    traps t (State.load_of_dataReady_trap hhazard hmap ha (by rw [hxs]; exact ht))
  split
  case isTrue hbad =>
    rw [if_pos hbad] at hready
    obtain ⟨taken, same⟩ := s.singleRead_onlyMemory.cacheErrorTaken rfl (dataError pa sp.va true false true)
    exact ⟨_, htraps _ hready, hva ▸ taken, same⟩
  case isFalse hbad =>
    rw [if_neg hbad] at hready
    split
    case isTrue herror =>
      rw [if_pos herror] at hready
      exact ⟨_, htraps _ hready, s.singleRead_exceptionTaken rfl⟩
    case isFalse herror =>
      rw [if_neg herror] at hready
      refine uncached (s.readBytes pa 2#3 xs) pa ?_
      rw [State.load, State.dataAddress_of false hhazard hmap ha, Access.bind_of_ok]
      dsimp only
      rw [hxs, hready]
      rfl

variable {kind : RegionKind} (hkind : ∀ x ∈ doubleOf pa, kindAt s.platform x = some kind)
include hkind

omit hhazard hquiet in
theorem LoadOf.answers : s.Answers kind (sp.physical s.cp0.status.reverseEndian pa) ∧
    s.Answers kind (s.busWords (sp.physical s.cp0.status.reverseEndian pa)) := by
  have hdouble := h.inDouble pa 2 hmap ha
  exact ⟨hdouble.answers hkind, (hdouble.busWords s).answers hkind⟩

end UncachedLoad

/-- A store to an uncached address where no RAM is vanishes (R687; D36). -/
theorem StoreOf.vanishes {s : State} {base : Reg} {offset : BitVec 16} {pa : Word} {i : Instr} {n : Nat} {sp : Span}
    {bs : List Byte} (h : StoreOf s base offset i n sp bs) (hhazard : NoMemHazard s)
    (hmap : MapsTo s (s.ea base offset) pa 2) (ha : (s.ea base offset).toNat % n = 0)
    (hquiet : s.dwatchMatches (s.ea base offset) true = false)
    (hkind : ∀ x ∈ doubleOf pa, kindAt s.platform x = some .nothing ∨ kindAt s.platform x = some .device) :
    NoResult i s := by
  have hdouble := h.inDouble pa 2 hmap ha
  obtain ⟨hva, halign, hexec, -⟩ := h
  rw [← hva] at hmap ha hquiet
  rw [← halign] at ha
  have hmap : MapsTo s sp.va pa 2#3 := hmap
  obtain ⟨xs, hxs⟩ : ∃ xs, xs = sp.physical s.cp0.status.reverseEndian pa := ⟨_, rfl⟩
  rw [← hxs] at hdouble
  have hsilent : anyOf .silent s.platform xs = false := List.any_eq_false.mpr fun x hx => by
    rcases hkind x (hdouble.subset hx) with hk | hk <;> simp [hk]
  have hram : ∀ w ∈ xs.zip bs, isRam s.platform w.1 = false := fun w hw => by
    rcases hkind w.1 (hdouble.subset (List.of_mem_zip hw).1) with hk | hk <;> simp [isRam, hk]
  have hstore : s.store sp bs = .ok () (s.writeStore sp.va pa 2#3 (xs.zip bs)) := by
    rw [State.store, State.storeReady, State.dataAddress_of true hhazard hmap ha, Access.bind_of_ok]
    dsimp only
    rw [← hxs, State.dataReady_uncachedStore hquiet, Access.bind_of_ok, Access.bind_of_ok]
    dsimp only
    rw [if_neg (by simp [hsilent])]
  have houter := s.writeStore_sameOuter sp.va pa 2#3 (xs.zip bs)
  rw [hstore, Access.finish_of_ok] at hexec
  refine ⟨_, hexec.trans (State.doneMem_eq _), ⟨houter.sameGpr, houter.sameHiLo, houter.fpu,
    s.writeStore_cp0 sp.va pa 2#3 (xs.zip bs), ⟨rfl, houter.llAddr, houter.llSeen⟩, ⟨rfl, rfl⟩, fun a => ?_,
    houter.sameOutside⟩, houter.advanced⟩
  have hmem : (s.writeStore sp.va pa 2#3 (xs.zip bs)).mem = s.mem := by
    rw [State.writeStore_mem, if_neg (by decide), writeBytes_of_not_ram _ _ hram]
  exact congrArg (Memory.get · a) hmem

/-! ## Lines of bad parity (R230, R686) -/

theorem DLine.badTag_eq (l : DLine) : l.badTag = decide (l.tagPar ≠ parity (l.tag ++ l.cs) ∨ l.wPar ≠ l.w) := by
  rw [DLine.badTag, dTagParity, bne_eq_decide_ne, bne_eq_decide_ne, Bool.decide_or]

theorem DLine.badData_of_mem {l : DLine} {xs : List Nat} (h : ∃ x ∈ xs, l.par[x % 32] ≠ parity l.data[x % 32]) :
    l.badData xs = true := by
  obtain ⟨x, hx, hbad⟩ := h
  exact List.any_eq_true.mpr ⟨x, hx, bne_iff_ne.mpr hbad⟩

/-- A load that hits a bad byte or tag takes Cache Error before anything else, a match of DWatch or not. -/
theorem State.dataReady_hitError {s : State} {va : DWord} {pa : Word} {alg : BitVec 3} {xs : List Nat} {w : Way} {l : DLine}
    (halg : alg = 0 ∨ alg = 1 ∨ alg = 3) (hhit : s.dcache.lookup pa = .hit w) (hde : s.cp0.status.de = false)
    (hl : l = s.dcache.line w (lineIndex pa)) (hbad : l.badData xs = true ∨ l.badTag = true) :
    ∃ u, OnlyMemory s u ∧ u.mem = s.mem ∧ s.dataReady va pa alg xs false =
      .trap (u.aged.takeCacheError (dataError pa va (l.badData xs) l.badTag false)) := by
  have htwo : alg ≠ 2#3 := ne_two_of_cached halg
  obtain ⟨u, hu⟩ : ∃ u, u = if s.dwatchUnsure va false then s.drawn else s := ⟨_, rfl⟩
  have only : OnlyMemory s u ∧ u.mem = s.mem := by
    rw [hu]
    split
    · exact ⟨s.drawn_onlyMemory, rfl⟩
    · exact ⟨⟨SameOuter.refl s, rfl, rfl, rfl, rfl⟩, rfl⟩
  refine ⟨u, only.1, only.2, ?_⟩
  rw [← only.1.dcache] at hhit hl
  rw [← only.1.cp0] at hde
  have hneeds : u.needsRefill pa alg false = false := by simp [State.needsRefill, hhit]
  have hhangs : u.busHangs pa alg xs false = none := by
    simp [State.busHangs, State.busReads, anyOf, State.victimHangs, hneeds, htwo]
  have hparity : u.dataParityError va pa alg xs false = some (dataError pa va (l.badData xs) l.badTag false) := by
    simp [State.dataParityError, hde, hhit, htwo, ← hl, dataError, hbad]
  rw [State.dataReady, ← hu]
  simp [calgReserved_of_cached halg, hhit, hparity, State.dataCacheError, hhangs, hneeds, htwo]

section Hit
variable {s : State} {base rt : Reg} {offset : BitVec 16} {pa : Word} {i : Instr} {n : Nat} {sp : Span} {alg : BitVec 3}

theorem LoadOf.hitError (h : LoadOf s base rt offset i n sp) (hhazard : NoMemHazard s)
    (hmap : MapsTo s (s.ea base offset) pa alg) (ha : (s.ea base offset).toNat % n = 0)
    (halg : alg = 0 ∨ alg = 1 ∨ alg = 3) {w : Way} {l : DLine} (hhit : s.dcache.lookup pa = .hit w)
    (hde : s.cp0.status.de = false) (hl : l = s.dcache.line w (lineIndex pa)) {xs : List Nat}
    (hxs : sp.physical s.cp0.status.reverseEndian pa = xs) {ed et : Bool} (hed : ed = l.badData xs)
    (het : et = decide (l.tagPar ≠ parity (l.tag ++ l.cs) ∨ l.wPar ≠ l.w)) (hbad : ed = true ∨ et = true) :
    ∃ t, exec i s = .next t ∧ CacheErrorTaken (cacheErrWord true ed et false pa (low32 (s.ea base offset))) s t ∧
      SameLink s t ∧ SameCaches s t ∧ SameBytes s t := by
  obtain ⟨hva, halign, traps, -, -⟩ := h
  rw [← hva] at hmap ha ⊢
  rw [← halign] at ha
  rw [← DLine.badTag_eq] at het
  subst hed het hxs
  obtain ⟨u, only, hmem, hready⟩ := State.dataReady_hitError (va := sp.va) halg hhit hde hl hbad
  have taken := only.cacheErrorTaken hmem
    (dataError pa sp.va (l.badData (sp.physical s.cp0.status.reverseEndian pa)) l.badTag false)
  exact ⟨_, traps _ (State.load_of_dataReady_trap hhazard hmap ha hready), taken⟩

end Hit

/-! ## Refills that bring an error (R214; U9) -/

section Refill
variable {s : State} {va : DWord} {pa : Word} {alg : BitVec 3} {xs : List Nat} {store : Bool} {i : BitVec 7} {v : Way}
  {old : DLine} (halg : alg = 0 ∨ alg = 1 ∨ alg = 3) (hallocates : store = true → alg ≠ 0)
  (hquiet : s.dwatchMatches va store = false) (hi : i = lineIndex pa) (hv : v = s.dVictim i)
  (hold : old = s.dcache.line v i) (hmiss : s.dcache.lookup pa = .miss)
  (hvictim : ∀ y ∈ lineBytes (lineBase old.tag i), kindAt s.platform y ≠ some .silent) (hxs : InDouble pa xs)
include halg hallocates hmiss

theorem State.needsRefill_of_miss : s.needsRefill pa alg store = true := by
  have htwo : alg ≠ 2#3 := ne_two_of_cached halg
  cases store with
  | false => simpa [State.needsRefill, hmiss] using htwo
  | true => simpa [State.needsRefill, hmiss, htwo] using hallocates rfl

include hi hv hold hvictim in
theorem State.busHangs_refill (hsilent : anyOf .silent s.platform (lineBytes (lineBaseOf pa)) = false) :
    s.busHangs pa alg xs store = none := by
  have htwo : alg ≠ 2#3 := ne_two_of_cached halg
  have hneeds := State.needsRefill_of_miss halg hallocates hmiss
  have hback : anyOf .silent s.platform (lineBytes (lineBase old.tag i)) = false :=
    List.any_eq_false.mpr fun y hy => by simpa using hvictim y hy
  subst hold hv hi
  simp [State.busHangs, State.busReads, htwo, hneeds, hsilent, State.victimHangs, hback]

include hi hv hold hvictim hquiet hxs

theorem State.dataReady_refillNothing (hkind : ∀ y ∈ lineBytes (lineBaseOf pa), kindAt s.platform y = some .nothing)
    (hclean : s.cp0.status.de = true ∨ old.dirty = false) :
    s.dataReady va pa alg xs store = .trap ((s.dRefillFailed pa).raised .dbe none) := by
  obtain ⟨hunsure, hnoticed⟩ := State.dwatch_of_no_match hquiet
  have htwo : alg ≠ 2#3 := ne_two_of_cached halg
  have hneeds := State.needsRefill_of_miss halg hallocates hmiss
  have hhangs := State.busHangs_refill (xs := xs) halg hallocates hi hv hold hmiss hvictim
    (State.answers_of_line hkind |>.notSilent (by decide))
  obtain ⟨herror, hbad⟩ := ((hxs.firstElement s).answers_of_line hkind).nothing
  have hparity : s.dataParityError va pa alg xs store = none := by
    subst hold hv hi
    rcases hclean with hde | hdirty
    · simp [State.dataParityError, hde]
    · simp [State.dataParityError, htwo, hmiss, hneeds, hbad, hdirty]
  simp [State.dataReady, hunsure, hnoticed, calgReserved_of_cached halg, hmiss, hparity, State.dataRefilled, hhangs, htwo,
    hneeds, herror]

theorem State.dataReady_refillBadParity (hkind : ∀ y ∈ lineBytes (lineBaseOf pa), kindAt s.platform y = some .badParity)
    (hde : s.cp0.status.de = false) :
    s.dataReady va pa alg xs store =
      .trap ((s.dRefill pa).aged.takeCacheError (dataError pa va true false true)) := by
  obtain ⟨hunsure, hnoticed⟩ := State.dwatch_of_no_match hquiet
  have htwo : alg ≠ 2#3 := ne_two_of_cached halg
  have hneeds := State.needsRefill_of_miss halg hallocates hmiss
  have hhangs := State.busHangs_refill (xs := xs) halg hallocates hi hv hold hmiss hvictim
    (State.answers_of_line hkind |>.notSilent (by decide))
  obtain ⟨herror, hbad⟩ := ((hxs.firstElement s).answers_of_line hkind).badParity
  have hparity : s.dataParityError va pa alg xs store = some (dataError pa va true false true) := by
    simp [State.dataParityError, htwo, hmiss, hneeds, hbad, hde, dataError]
  simp [State.dataReady, hunsure, calgReserved_of_cached halg, hmiss, hparity, State.dataCacheError, hhangs, htwo,
    hneeds, State.dRefillTried, herror]

end Refill

/-! ## Loads and stores that refill -/

/-- Every load and every store that is not conditional traps as the access to its bytes does. -/
theorem exists_traps_of_dataReady {s : State} {base rt : Reg} {offset : BitVec 16} {pa : Word} {alg : BitVec 3}
    (hhazard : NoMemHazard s) (hmap : MapsTo s (s.ea base offset) pa alg) :
    ∀ p ∈ (loadForms base rt offset).map (fun p => (p, false)) ++ (storeForms base rt offset).map (fun p => (p, true)),
      MayExecute s p.1.1 → (s.ea base offset).toNat % p.1.2 = 0 →
      ∃ xs, InDouble pa xs ∧ ∀ t, s.dataReady (s.ea base offset) pa alg xs p.2 = .trap t → exec p.1.1 s = .next t := by
  simp only [List.forall_mem_append, List.forall_mem_map]
  refine ⟨fun p hp may ha => ?load, fun p hp may ha => ?store⟩
  case load =>
    obtain ⟨sp, ⟨hva, halign, traps, -, inDouble⟩, -⟩ := exists_loadOf s base rt offset p hp may
    refine ⟨_, inDouble pa alg hmap ha, fun t ht => traps t ?_⟩
    exact State.load_of_dataReady_trap hhazard (alg := alg) (pa := pa) (by rwa [hva]) (by rwa [hva, halign]) (by rwa [hva])
  case store =>
    obtain ⟨sp, bs, ⟨hva, halign, hexec, inDouble⟩⟩ := exists_storeOf s base rt offset p hp may
    refine ⟨_, inDouble pa alg hmap ha, fun t ht => ?_⟩
    rw [hexec, State.store_of_dataReady_trap hhazard (t := t) (alg := alg) (pa := pa) (by rwa [hva])
      (by rwa [hva, halign]) bs (by rwa [hva]), Access.finish_of_trap]

section RefillExceptions
variable (s : State) (pa : Word) {i : BitVec 7} {v : Way} {old : DLine} (hi : i = lineIndex pa) (hv : v = s.dVictim i)
  (hold : old = s.dcache.line v i)
include hi hv hold

/-- What a Bus Error of a refill leaves. -/
theorem State.dRefillFailed_raised : ∀ t, t = (s.dRefillFailed pa).raised .dbe none →
    ExceptionRegisters 7 0 none s t ∧ Replaces s i v ∧ (t.dcache.line v i).valid = false ∧ SameDLinesBut v i s t ∧
      t.icache = s.icache ∧ SameBytesBut (if old.dirty then lineBytes (lineBase old.tag i) else []) s t ∧
      LinkKept (LinkedLine s i old) s t ∧ t.fpu = s.fpu ∧ SameOutside s t := by
  have outer := s.dRefillFailed_sameOuter pa
  have hcp0 := s.dRefillFailed_cp0 pa
  have hicache := s.dRefillFailed_icache pa
  have invalid := s.dRefillFailed_invalid pa hi hv
  have others := s.dRefillFailed_sameDLinesBut pa hi hv
  have bytes := s.dRefillFailed_sameBytesBut pa hi hv hold
  have link := s.dRefillFailed_link pa hi hv hold
  generalize s.dRefillFailed pa = u at *
  rintro t rfl
  exact ⟨outer.exceptionRegisters_raised hcp0 rfl none, hv ▸ s.dVictim_replaces i, invalid, others, hicache, bytes, link,
    outer.fpu, outer.sameOutside⟩

/-- What a Cache Error of a refill leaves. -/
theorem State.dRefill_takeCacheError (hmiss : s.dcache.lookup pa = .miss) (p : ParityError) :
    ∀ t, t = (s.dRefill pa).aged.takeCacheError p →
    CacheErrorTaken (cacheErrWord p.data p.ed p.et p.ee p.pa p.va) s t ∧ Replaces s i v ∧ t.dcache.lookup pa = .hit v ∧
      RefillsD v i s t ∧ t.icache = s.icache ∧
      SameBytesBut (if old.dirty then lineBytes (lineBase old.tag i) else []) s t ∧ LinkKept (LinkedLine s i old) s t := by
  have outer := s.dRefill_sameOuter pa
  have hcp0 := s.dRefill_cp0 pa
  have hicache := s.dRefill_icache pa
  have replaces := s.dVictim_replaces i
  have lookup := State.dRefill_lookup hmiss
  have refills := s.dRefill_refillsD pa
  have bytes := s.dRefill_sameBytesBut pa hi (hv ▸ hold)
  have link := State.dRefill_link hmiss hi (hv ▸ hold)
  rw [← hi, ← hv] at lookup refills
  rw [← hv] at replaces
  generalize s.dRefill pa = u at *
  rintro t rfl
  exact ⟨outer.cacheErrorTaken_aged hcp0 p, replaces, lookup, refills, hicache, bytes, link⟩

end RefillExceptions

/-! ## Fill (R245) -/

section Fill
variable {s : State} {pa : Word} (va : DWord)

theorem self_inDouble (pa : Word) : InDouble pa [pa.toNat] := by
  refine ⟨List.cons_ne_nil _ _, fun x hx => ?_⟩
  rw [List.mem_singleton.mp hx]

theorem State.fill_nothing (h : ∀ y ∈ lineBytes (lineBaseOf pa), kindAt s.platform y = some .nothing) :
    s.fill va pa = .trap ((s.iFailed (wayOf va) pa).raised .dbe none) := by
  have hline := State.answers_of_line h
  obtain ⟨herror, hbad⟩ := ((self_inDouble pa).firstElement s |>.answers_of_line h).nothing
  simp [State.fill, hline.notSilent, hbad, herror]

theorem State.fill_badParity (h : ∀ y ∈ lineBytes (lineBaseOf pa), kindAt s.platform y = some .badParity)
    (hde : s.cp0.status.de = false) :
    s.fill va pa = .trap ((s.iInstall (wayOf va) pa
      (s.fillParity (s.iRefilled pa (!(s.icache.line (wayOf va) (lineIndex pa)).f)) va)).aged.takeCacheError
        (cacheParityError va pa true false true)) := by
  have hline := State.answers_of_line h
  obtain ⟨herror, hbad⟩ := ((self_inDouble pa).firstElement s |>.answers_of_line h).badParity
  simp [State.fill, hline.notSilent, hbad, herror, hde]

variable {base : Reg} {offset : BitVec 16} {alg : BitVec 3} (hcp0 : Cp0Usable s)
  (hhazard : NoMemHazard s) (hmap : MapsTo s (s.ea base offset) pa alg) (halg : alg = 0 ∨ alg = 1 ∨ alg = 3)
include hcp0 hhazard hmap halg

variable {w : Way} (hw : w = wayOf (s.ea base offset))
include hw

theorem fill_busError (h : ∀ y ∈ lineBytes (lineBaseOf pa), kindAt s.platform y = some .nothing) :
    ∃ t, exec (.cache base 0x14 offset) s = .next t ∧ ExceptionRegisters 7 0 none s t ∧
      (t.icache.line w (lineIndex pa)).valid = false ∧ SameILinesBut w (lineIndex pa) s t ∧ t.dcache = s.dcache ∧
      SameBytes s t ∧ SameLink s t ∧ t.fpu = s.fpu ∧ SameOutside s t := by
  subst hw
  have hfill := State.fill_nothing (s := s.drained) (s.ea base offset) h
  obtain ⟨registers, hicache, hdcache, bytes, link, fpu, outside⟩ :=
    (s.drained.iFailed_onlyICache (wayOf (s.ea base offset)) pa).raised (e := .dbe) rfl none rfl
  exact ⟨_, exec_cache_traps hcp0 hhazard hmap halg (op := 0x14) (o := .fillI) rfl hfill, registers,
    s.drained.iFailed_invalid _ pa, s.drained.iFailed_sameILinesBut _ pa, hdcache, bytes, link, fpu, outside⟩

theorem fill_cacheError (h : ∀ y ∈ lineBytes (lineBaseOf pa), kindAt s.platform y = some .badParity)
    (hde : s.cp0.status.de = false) :
    ∃ t, exec (.cache base 0x14 offset) s = .next t ∧
      CacheErrorTaken (cacheErrWord true true false true pa (low32 (s.ea base offset))) s t ∧
      (t.icache.line w (lineIndex pa)).valid = true ∧ (t.icache.line w (lineIndex pa)).tag = lineTag pa ∧
      RefillsI w (lineIndex pa) s t ∧ t.dcache = s.dcache ∧ SameBytes s t ∧ SameLink s t := by
  subst hw
  have hfill := State.fill_badParity (s := s.drained) (s.ea base offset) h hde
  obtain ⟨l, hl⟩ : ∃ l, l = s.drained.fillParity (s.drained.iRefilled pa
    (!(s.drained.icache.line (wayOf (s.ea base offset)) (lineIndex pa)).f)) (s.ea base offset) := ⟨_, rfl⟩
  rw [← hl] at hfill
  rw [State.fillParity_data] at hl
  obtain ⟨taken, hicache, hdcache, bytes, link⟩ :=
    (s.drained.iInstall_onlyICache (wayOf (s.ea base offset)) pa l).takeCacheError
      (cacheParityError (s.ea base offset) pa true false true) (.inr rfl)
  obtain ⟨valid, tag⟩ := s.drained.iInstall_holds (wayOf (s.ea base offset)) pa (l := l) (hl ▸ rfl) (hl ▸ rfl)
  exact ⟨_, exec_cache_traps hcp0 hhazard hmap halg (op := 0x14) (o := .fillI) rfl hfill, taken, valid, tag,
    s.drained.iInstall_refillsI _ pa l, hdcache, bytes, link⟩

end Fill

end Sys2Proof.Machine

open Sys2Proof Sys2Proof.Machine

/-- Settles O47: a region of one kind answers every bus word of an access alike (`State.Answers`), so that each access ends as
its first check says. -/
theorem memoryErrors : Obligations.MemoryErrors := by
  intro s base rt offset pa
  refine ⟨?fetch, ?data⟩
  case fetch =>
    intro hdue hwindow htranslate ha hwatch
    refine ⟨fun hnothing => ?_, fun hbad hde => ?_⟩
    · exact ⟨_, step_of_fetch_trap hdue (State.fetch_nothing hwindow hwatch htranslate ha hnothing),
        s.singleRead.takeException_exceptionTaken rfl none⟩
    · exact ⟨_, step_of_fetch_trap hdue (State.fetch_badParity hwindow hwatch htranslate ha hbad hde),
        s.singleRead_sameOuter.cacheErrorTaken rfl (s.fetchParityError pa true false true), ⟨rfl, rfl, rfl⟩, ⟨rfl, rfl⟩,
        fun _ => rfl⟩
  case data =>
    rintro _ rfl hhazard
    refine ⟨?loads, ?stores, ?hits, ?refills⟩
    case loads =>
      intro p hp may ha hquiet hmap
      obtain ⟨sp, hload, -⟩ := exists_loadOf s base rt offset p hp may
      refine ⟨fun hnothing => ?_, fun hbad hde => ?_, fun hdevice => ?_⟩
      · obtain ⟨bytes, words⟩ := hload.answers hmap ha hnothing
        have answer := hload.uncachedLoad hhazard hmap ha hquiet rfl (bytes.notSilent (by decide))
        rwa [if_neg (by simp [words.nothing.2]), if_pos bytes.nothing.1] at answer
      · obtain ⟨bytes, words⟩ := hload.answers hmap ha hbad
        have answer := hload.uncachedLoad hhazard hmap ha hquiet rfl (bytes.notSilent (by decide))
        rwa [if_pos ⟨hde, words.badParity.2⟩] at answer
      · obtain ⟨bytes, -⟩ := hload.answers hmap ha hdevice
        have answer := hload.uncachedLoad hhazard hmap ha hquiet rfl (bytes.notSilent (by decide))
        split at answer
        · next hparity => exact .inr (.inr ⟨hparity.1, answer⟩)
        · split at answer
          · exact .inr (.inl answer)
          · exact .inl answer
    case stores =>
      intro p hp may ha hquiet hmap hkind
      obtain ⟨sp, bs, hstore⟩ := exists_storeOf s base rt offset p hp may
      exact hstore.vanishes hhazard hmap ha hquiet hkind
    case hits =>
      intro alg w l et hmap halg hhit hde hl het p hp may ha
      obtain ⟨sp, hload, haligned⟩ := exists_loadOf s base rt offset p hp may
      refine ⟨fun htag => ?_, fun hform hbytes => ?_⟩
      · obtain ⟨t, ht⟩ := hload.hitError hhazard hmap ha halg hhit hde hl rfl rfl het (.inr htag)
        rw [htag] at ht
        exact ⟨t, _, ht⟩
      · have hxs := physical_aligned s (s.ea base offset) p.2 pa
        rw [← haligned hform] at hxs
        have hdata := DLine.badData_of_mem hbytes
        exact hload.hitError hhazard hmap ha halg hhit hde hl hxs hdata.symm het (.inl rfl)
    case refills =>
      intro alg i hmap halg hi
      refine ⟨?accesses, ?fill⟩
      case accesses =>
        intro v old hv hold hmiss hvictim p hp may ha hquiet hallocates
        obtain ⟨xs, hdouble, traps⟩ := exists_traps_of_dataReady hhazard hmap p hp may ha
        refine ⟨fun hnothing hclean => ?_, fun hbad hde => ?_⟩
        · have raised := s.dRefillFailed_raised pa hi hv hold _ rfl
          exact ⟨_, traps _ (State.dataReady_refillNothing halg hallocates hquiet hi hv hold hmiss hvictim hdouble hnothing
            hclean), raised⟩
        · have taken := s.dRefill_takeCacheError pa hi hv hold hmiss (dataError pa (s.ea base offset) true false true) _ rfl
          exact ⟨_, traps _ (State.dataReady_refillBadParity halg hallocates hquiet hi hv hold hmiss hvictim hdouble hbad
            hde), taken⟩
      case fill =>
        intro hcp0 w hw
        subst hi
        exact ⟨fill_busError hcp0 hhazard hmap halg hw, fill_cacheError hcp0 hhazard hmap halg hw⟩

end

section
/-!
PROOF. Sys2Proof/Proofs/DecodeRow.lean: every decoded word matches the row of the opcode table of its instruction, and the
round trip of encoder and decoder (30_encoding R255 to R264).
-/

namespace Sys2Proof

/-! ## A word from its fields -/

theorem iType_fields (w : Word) : iType (opOf w) (rsOf w) (rtOf w) (immOf w) = w := by
  rw [iType, opOf, rsOf, rtOf, immOf]
  iterate 3 rw [BitVec.extractLsb'_append_extractLsb'_eq_extractLsb' (by rfl)]
  exact BitVec.extractLsb'_eq_self

theorem rType_fields (w : Word) : rType (opOf w) (rsOf w) (rtOf w) (rdOf w) (saOf w) (fnOf w) = w := by
  rw [rType, opOf, rsOf, rtOf, rdOf, saOf, fnOf]
  iterate 5 rw [BitVec.extractLsb'_append_extractLsb'_eq_extractLsb' (by rfl)]
  exact BitVec.extractLsb'_eq_self

theorem fmtLowOf_eq (w : Word) : fmtLowOf w = (rsOf w).extractLsb' 0 4 := by
  ext k hk
  simp [fmtLowOf, rsOf]
  omega

/-! ## The bits of a word that a row decodes -/

/-- A word under a mask, I-type field by field. -/
theorem word_and_iType (w : Word) (op : BitVec 6) (rs rt : BitVec 5) (imm : BitVec 16) :
    w &&& iType op rs rt imm = iType (opOf w &&& op) (rsOf w &&& rs) (rtOf w &&& rt) (immOf w &&& imm) := by
  conv_lhs => rw [← iType_fields w]
  exact Laws.iType_and ..

/-- A word under a mask, R-type field by field. -/
theorem word_and_rType (w : Word) (op : BitVec 6) (rs rt rd sa : BitVec 5) (fn : BitVec 6) :
    w &&& rType op rs rt rd sa fn =
      rType (opOf w &&& op) (rsOf w &&& rs) (rtOf w &&& rt) (rdOf w &&& rd) (saOf w &&& sa) (fnOf w &&& fn) := by
  conv_lhs => rw [← rType_fields w]
  exact Laws.rType_and ..

theorem eq_ofNat_of_toNat {n k : Nat} {x : BitVec n} (h : x.toNat = k) : x = BitVec.ofNat n k := by
  rw [← h, BitVec.ofNat_toNat, BitVec.setWidth_eq]

theorem and_16_of_msb {f : BitVec 5} (h : f.msb = true) : f &&& 16#5 = 16#5 := by
  revert f
  decide

section Masks
variable {w : Word} {op rs rt fn : Nat} (hop : (opOf w).toNat = op)
include hop

theorem word_mask_op : w &&& 0xfc000000 = iType (BitVec.ofNat 6 op) 0#5 0#5 0#16 := by
  refine (word_and_iType w (BitVec.allOnes 6) 0#5 0#5 0#16).trans ?_
  simp only [BitVec.and_allOnes, BitVec.and_zero, eq_ofNat_of_toNat hop]

theorem word_mask_op_rt (hrt : (rtOf w).toNat = rt) :
    w &&& 0xfc1f0000 = iType (BitVec.ofNat 6 op) 0#5 (BitVec.ofNat 5 rt) 0#16 := by
  refine (word_and_iType w (BitVec.allOnes 6) 0#5 (BitVec.allOnes 5) 0#16).trans ?_
  simp only [BitVec.and_allOnes, BitVec.and_zero, eq_ofNat_of_toNat hop, eq_ofNat_of_toNat hrt]

theorem word_mask_op_rs_rt (hrs : (rsOf w).toNat = rs) (hrt : (rtOf w).toNat = rt) :
    w &&& 0xffff0000 = iType (BitVec.ofNat 6 op) (BitVec.ofNat 5 rs) (BitVec.ofNat 5 rt) 0#16 := by
  refine (word_and_iType w (BitVec.allOnes 6) (BitVec.allOnes 5) (BitVec.allOnes 5) 0#16).trans ?_
  simp only [BitVec.and_allOnes, BitVec.and_zero, eq_ofNat_of_toNat hop, eq_ofNat_of_toNat hrs, eq_ofNat_of_toNat hrt]

theorem word_mask_op_rs (hrs : (rsOf w).toNat = rs) :
    w &&& 0xffe00000 = iType (BitVec.ofNat 6 op) (BitVec.ofNat 5 rs) 0#5 0#16 := by
  refine (word_and_iType w (BitVec.allOnes 6) (BitVec.allOnes 5) 0#5 0#16).trans ?_
  simp only [BitVec.and_allOnes, BitVec.and_zero, eq_ofNat_of_toNat hop, eq_ofNat_of_toNat hrs]

theorem word_mask_op_fn (hfn : (fnOf w).toNat = fn) :
    w &&& 0xfc00003f = rType (BitVec.ofNat 6 op) 0#5 0#5 0#5 0#5 (BitVec.ofNat 6 fn) := by
  refine (word_and_rType w (BitVec.allOnes 6) 0#5 0#5 0#5 0#5 (BitVec.allOnes 6)).trans ?_
  simp only [BitVec.and_allOnes, BitVec.and_zero, eq_ofNat_of_toNat hop, eq_ofNat_of_toNat hfn]

theorem word_mask_op_rs_fn (hrs : (rsOf w).toNat = rs) (hfn : (fnOf w).toNat = fn) :
    w &&& 0xffe0003f = rType (BitVec.ofNat 6 op) (BitVec.ofNat 5 rs) 0#5 0#5 0#5 (BitVec.ofNat 6 fn) := by
  refine (word_and_rType w (BitVec.allOnes 6) (BitVec.allOnes 5) 0#5 0#5 0#5 (BitVec.allOnes 6)).trans ?_
  simp only [BitVec.and_allOnes, BitVec.and_zero, eq_ofNat_of_toNat hop, eq_ofNat_of_toNat hrs, eq_ofNat_of_toNat hfn]

/-- Of the format field the rows of COP0's CO half and of the other COP1 R-type words decode bit 25 alone. -/
theorem word_mask_op_co (hco : (rsOf w).msb = true) :
    w &&& 0xfe000000 = iType (BitVec.ofNat 6 op) 16#5 0#5 0#16 := by
  refine (word_and_iType w (BitVec.allOnes 6) 16#5 0#5 0#16).trans ?_
  simp only [BitVec.and_allOnes, BitVec.and_zero, eq_ofNat_of_toNat hop, and_16_of_msb hco]

theorem word_mask_op_co_fn (hco : (rsOf w).msb = true) (hfn : (fnOf w).toNat = fn) :
    w &&& 0xfe00003f = rType (BitVec.ofNat 6 op) 16#5 0#5 0#5 0#5 (BitVec.ofNat 6 fn) := by
  refine (word_and_rType w (BitVec.allOnes 6) 16#5 0#5 0#5 0#5 (BitVec.allOnes 6)).trans ?_
  simp only [BitVec.and_allOnes, BitVec.and_zero, eq_ofNat_of_toNat hop, eq_ofNat_of_toNat hfn, and_16_of_msb hco]

end Masks

/-! ## The groups of the decoder -/

/-- The word has the fixed bits of the row of `i`, and `i` stands for a word of that row. -/
def MatchesRow (w : Word) (i : Instr) : Prop := w &&& i.row.1 = i.row.2 ∧ i.WellFormed = true

theorem decodeSpecial_matchesRow {w : Word} {i : Instr} (hop : (opOf w).toNat = 0) (h : decodeSpecial w = .ok i) :
    MatchesRow w i := by
  unfold decodeSpecial at h
  split at h <;> cases h
  all_goals
    rename_i hfield
    exact ⟨word_mask_op_fn hop hfield, rfl⟩

theorem decodeSpecial2_matchesRow {w : Word} {i : Instr} (hop : (opOf w).toNat = 28) (h : decodeSpecial2 w = .ok i) :
    MatchesRow w i := by
  unfold decodeSpecial2 at h
  split at h <;> cases h
  all_goals
    rename_i hfield
    exact ⟨word_mask_op_fn hop hfield, rfl⟩

theorem decodeRegimm_matchesRow {w : Word} {i : Instr} (hop : (opOf w).toNat = 1) (h : decodeRegimm w = .ok i) :
    MatchesRow w i := by
  unfold decodeRegimm at h
  split at h <;> cases h
  all_goals
    rename_i hfield
    exact ⟨word_mask_op_rt hop hfield, rfl⟩

theorem decodeCop0Co_matchesRow {w : Word} {i : Instr} (hop : (opOf w).toNat = 16) (hco : (rsOf w).msb = true)
    (h : decodeCop0Co w = .ok i) : MatchesRow w i := by
  unfold decodeCop0Co at h
  split at h <;> cases h
  all_goals
    rename_i hfield
    exact ⟨word_mask_op_co_fn hop hco hfield, rfl⟩

theorem decodeCop0_matchesRow {w : Word} {i : Instr} (hop : (opOf w).toNat = 16) (h : decodeCop0 w = .ok i) :
    MatchesRow w i := by
  unfold decodeCop0 at h
  split at h
  case h_5 =>
    split at h
    case isTrue hco => exact decodeCop0Co_matchesRow hop hco h
    case isFalse => cases h
  all_goals
    rename_i hrs
    cases h
    exact ⟨word_mask_op_rs hop hrs, rfl⟩

theorem decodeBc1_matchesRow {w : Word} {i : Instr} (hop : (opOf w).toNat = 17) (hrs : (rsOf w).toNat = 8)
    (h : decodeBc1 w = .ok i) : MatchesRow w i := by
  unfold decodeBc1 at h
  split at h <;> cases h
  all_goals
    rename_i hfield
    exact ⟨word_mask_op_rs_rt hop hrs hfield, rfl⟩

/-! ### COP1 R-type words that no earlier row has (R264) -/

theorem cop1Assigned_formatS {fn : BitVec 6} (low : 16 ≤ fn.toNat) (h33 : fn.toNat ≠ 33) (h36 : fn.toNat ≠ 36)
    (h37 : fn.toNat ≠ 37) (high : fn.toNat < 48) : cop1Assigned 0 fn = false := by
  revert fn
  decide

theorem cop1Assigned_formatW {fn : BitVec 6} (h : fn.toNat ≠ 32) : cop1Assigned 4 fn = false := by
  revert fn
  decide

/-- The formats 17 to 31 but 20 have no assigned function. -/
theorem cop1Assigned_otherFormat {f : BitVec 5} (hco : f.msb = true) (hs : f.toNat ≠ 16) (hw : f.toNat ≠ 20)
    (fn : BitVec 6) : cop1Assigned (f.extractLsb' 0 4) fn = false := by
  have format : f.extractLsb' 0 4 ≠ 0#4 ∧ f.extractLsb' 0 4 ≠ 4#4 := by
    revert f
    decide
  simp [cop1Assigned, format]

theorem cop1Other_matchesRow {w : Word} (hop : (opOf w).toNat = 17) (hco : (rsOf w).msb = true)
    (h : cop1Assigned (fmtLowOf w) (fnOf w) = false) (ft fs fd : Reg) :
    MatchesRow w (.cop1Other (fmtLowOf w) ft fs fd (fnOf w)) :=
  ⟨word_mask_op_co hop hco, by rw [Instr.WellFormed, h]; rfl⟩

theorem decodeCop1S_matchesRow {w : Word} {i : Instr} (hop : (opOf w).toNat = 17) (hrs : (rsOf w).toNat = 16)
    (h : decodeCop1S w = .ok i) : MatchesRow w i := by
  unfold decodeCop1S at h
  split at h <;> cases h
  case h_36 =>
    have hformat : rsOf w = 16#5 := eq_ofNat_of_toNat hrs
    have hlow : fmtLowOf w = 0 := by rw [fmtLowOf_eq, hformat]; rfl
    refine cop1Other_matchesRow hop (by rw [hformat]; rfl) ?_ _ _ _
    rw [hlow]
    simp only [imp_false] at *
    exact cop1Assigned_formatS (by omega) (by omega) (by omega) (by omega) (by omega)
  all_goals
    rename_i hfield
    exact ⟨word_mask_op_rs_fn hop hrs hfield, rfl⟩

theorem decodeCop1_matchesRow {w : Word} {i : Instr} (hop : (opOf w).toNat = 17) (h : decodeCop1 w = .ok i) :
    MatchesRow w i := by
  unfold decodeCop1 at h
  split at h
  case h_7 hrs => exact decodeBc1_matchesRow hop hrs h
  case h_8 hrs => exact decodeCop1S_matchesRow hop hrs h
  case h_9 hrs =>
    split at h <;> cases h
    case isTrue hfn => exact ⟨word_mask_op_rs_fn hop hrs hfn, rfl⟩
    case isFalse hfn =>
      have hformat : rsOf w = 20#5 := eq_ofNat_of_toNat hrs
      have hlow : fmtLowOf w = 4 := by rw [fmtLowOf_eq, hformat]; rfl
      exact cop1Other_matchesRow hop (by rw [hformat]; rfl) (hlow ▸ cop1Assigned_formatW hfn) _ _ _
  case h_10 hs hw =>
    split at h <;> cases h
    case isTrue hco =>
      refine cop1Other_matchesRow hop hco ?_ _ _ _
      rw [fmtLowOf_eq]
      exact cop1Assigned_otherFormat hco hs hw _
  all_goals
    rename_i hrs
    cases h
    exact ⟨word_mask_op_rs hop hrs, rfl⟩

theorem decode_matchesRow {w : Word} {i : Instr} (h : decode w = .ok i) : MatchesRow w i := by
  unfold decode at h
  split at h
  case h_1 hop => exact decodeSpecial_matchesRow hop h
  case h_2 hop => exact decodeRegimm_matchesRow hop h
  case h_17 hop => exact decodeCop0_matchesRow hop h
  case h_18 hop => exact decodeCop1_matchesRow hop h
  case h_29 hop => exact decodeSpecial2_matchesRow hop h
  case h_60 => cases h
  all_goals
    rename_i hop
    cases h
    exact ⟨word_mask_op hop, rfl⟩

end Sys2Proof

open Sys2Proof

/-- Settles O1. -/
theorem decodeEncode : Obligations.DecodeEncode := decode_encode

/-- Settles O2: in each group of the decoder the fields that it looked at are the bits that the row fixes. -/
theorem decodeRow : Obligations.DecodeRow := fun _ _ => decode_matchesRow

end

section
/-!
PROOF. Sys2Proof/Proofs/ReservedWords.lean: the words that the decoder rejects, and the exceptions of those in reserved cells
(30_encoding R255 to R261, R275, R276; 60_exceptions R697).
-/

namespace Sys2Proof

/-! ## Reserved cells (R275) -/

theorem decode_reserved_op {w : Word} (h : opOf w ∈ [29#6, 30#6, 31#6, 51#6, 59#6]) :
    decode w = .error .reservedInstruction := by
  simp only [List.mem_cons, List.not_mem_nil, or_false] at h
  rcases h with h | h | h | h | h <;> simp [decode, h]

theorem decodeSpecial_reserved {w : Word}
    (h : fnOf w ∈ [1#6, 5#6, 10#6, 11#6, 14#6, 21#6, 40#6, 41#6, 53#6, 55#6, 57#6, 61#6]) :
    decodeSpecial w = .error .reservedInstruction := by
  simp only [List.mem_cons, List.not_mem_nil, or_false] at h
  rcases h with h | h | h | h | h | h | h | h | h | h | h | h <;> simp [decodeSpecial, h]

theorem decodeSpecial2_reserved {w : Word} (h : 3 ≤ (fnOf w).toNat) :
    decodeSpecial2 w = .error .reservedInstruction := by
  unfold decodeSpecial2
  split
  case h_4 => rfl
  all_goals omega

theorem decodeRegimm_reserved {w : Word}
    (h : (rtOf w).toNat / 4 ∈ [1, 5, 6, 7] ∨ (rtOf w).toNat = 13 ∨ (rtOf w).toNat = 15) :
    decodeRegimm w = .error .reservedInstruction := by
  simp only [List.mem_cons, List.not_mem_nil, or_false] at h
  unfold decodeRegimm
  split
  case h_15 => rfl
  all_goals omega

/-! ## Reserved words of coprocessor 0 (R261, R276) -/

theorem decodeCop0Co_reserved {w : Word} (h : fnOf w ∉ [1#6, 2#6, 6#6, 8#6, 24#6, 32#6]) :
    decodeCop0Co w = .error .reservedCop0 := by
  unfold decodeCop0Co
  split
  case h_7 => rfl
  all_goals
    rename_i hfn
    exact absurd (by rw [eq_ofNat_of_toNat hfn]; decide) h

theorem decode_reservedCop0 {w : Word} (hop : opOf w = 16#6) (hrs : rsOf w ∉ [0#5, 1#5, 4#5, 5#5])
    (h : (rsOf w).toNat < 16 ∨ fnOf w ∉ [1#6, 2#6, 6#6, 8#6, 24#6, 32#6]) : decode w = .error .reservedCop0 := by
  rw [decode_of_cop0 hop]
  unfold decodeCop0
  split
  case h_5 =>
    split
    case isTrue hco =>
      have hhigh : 16 ≤ (rsOf w).toNat := by simpa [BitVec.msb_eq_decide] using hco
      exact decodeCop0Co_reserved (h.resolve_left (by omega))
    case isFalse => rfl
  all_goals
    rename_i hfield
    exact absurd (by rw [eq_ofNat_of_toNat hfield]; decide) hrs

/-! ## Reserved words of coprocessor 1 with bit 25 = 0 (R276) -/

theorem decodeBc1_reserved {w : Word} (h : 4 ≤ (rtOf w).toNat) : decodeBc1 w = .error .reservedCop1 := by
  unfold decodeBc1
  split
  case h_5 => rfl
  all_goals omega

theorem decode_reservedCop1 {w : Word} (hop : opOf w = 17#6)
    (h : rsOf w ∈ [3#5, 7#5, 9#5, 10#5, 11#5, 12#5, 13#5, 14#5, 15#5] ∨ rsOf w = 8#5 ∧ 4 ≤ (rtOf w).toNat) :
    decode w = .error .reservedCop1 := by
  rw [decode_of_cop1 hop]
  rcases h with hrs | ⟨hrs, hrt⟩
  · simp only [List.mem_cons, List.not_mem_nil, or_false] at hrs
    rcases hrs with h | h | h | h | h | h | h | h | h <;> (rw [decodeCop1, h]; rfl)
  · simp [decodeCop1, hrs, decodeBc1_reserved hrt]

end Sys2Proof

namespace Sys2Proof.Machine

/-! ## What they answer -/

theorem State.execWord_of_decode_error {s : State} {w : Word} {e : DecodeError} (h : decode w = .error e) :
    s.execWord w = s.execUndefined e := by
  simp [State.execWord, h]

theorem State.execWord_reservedInstruction {w : Word} (h : decode w = .error .reservedInstruction) (s : State) :
    ∃ t, s.execWord w = .next t ∧ ExceptionTaken 10 0 none s t :=
  ⟨s.raised .ri none, State.execWord_of_decode_error h, s.raised_exceptionTaken rfl none⟩

theorem State.reservedCop0_of_usable {s : State} (h : Cp0Usable s) : s.reservedCop0 = .refused .reservedCop0 :=
  State.needCp0_of_usable h _

end Sys2Proof.Machine

open Sys2Proof Sys2Proof.Machine

/-- Settles O4: the decoder rejects each of these words as a reserved instruction. -/
theorem reservedCells : Obligations.ReservedCells := by
  intro s w h
  apply s.execWord_reservedInstruction
  rcases h with hop | ⟨hop, hfn⟩ | ⟨hop, hfn⟩ | ⟨hop, hrt⟩
  · exact decode_reserved_op hop
  · rw [decode_of_special hop, decodeSpecial_reserved hfn]
  · rw [decode_of_special2 hop, decodeSpecial2_reserved hfn]
  · rw [decode_of_regimm hop]
    exact decodeRegimm_reserved (hrt.imp_right (Or.imp (congrArg BitVec.toNat) (congrArg BitVec.toNat)))

end

section
/-!
PROOF. Sys2Proof/Proofs/FpUnimplemented.lean: the Floating-Point exception of what this FPU does not execute (30_encoding
R276; 48_fpu_state_and_rules R551, R572 to R576; 49_fpu_instructions R617 to R643).
-/

namespace Sys2Proof.Machine

/-! ## The Floating-Point exception -/

/-- The Floating-Point exception writes FCR31.Cause and is else an exception like the others (R573). -/
theorem State.fpRaise_fpExceptionTaken (s : State) (c : FpCause) :
    ∃ t, s.fpRaise c = .next t ∧ FpExceptionTaken c s t := by
  obtain ⟨entered, fpu, outside⟩ :=
    (s.setFcr31 { s.fpu.fcr31 with cause := c }).raised_exceptionTaken (e := .fpe) rfl none
  exact ⟨_, rfl, entered, outside, fpu⟩

theorem fpTrapResult_of_fpRaise {i : Instr} {s : State} {c : FpCause} (h : exec i s = s.fpRaise c) :
    FpTrapResult i c s := by
  obtain ⟨t, ht, taken⟩ := s.fpRaise_fpExceptionTaken c
  exact ⟨t, h.trans ht, taken⟩

/-! ## The forms and the shared operation of each -/

theorem exec_eq_fpUnimplemented (s : State) (ft fs fd : Reg) (fmtLow : BitVec 4) (fn : BitVec 6) (base : Reg)
    (offset : BitVec 16) :
    ∀ i ∈ [Instr.roundLS fs fd, .truncLS fs fd, .ceilLS fs fd, .floorLS fs fd, .cvtLS fs fd, .cvtDS fs fd,
      .cop1Other fmtLow ft fs fd fn, .ldc1 base ft offset, .sdc1 base ft offset], exec i s = s.fpUnimplemented := by
  simp only [List.forall_mem_cons]
  exact ⟨rfl, rfl, rfl, rfl, rfl, rfl, rfl, rfl, rfl, List.forall_mem_nil _⟩

/-- The arithmetic of two sources checks all three register numbers (R551, R565). -/
theorem exec_eq_fpOp_binary (s : State) (ft fs fd : Reg) :
    ∀ i ∈ [Instr.addS ft fs fd, .subS ft fs fd, .mulS ft fs fd, .divS ft fs fd],
      ∃ r, exec i s = s.fpOp [ft, fs, fd] r := by
  simp only [List.forall_mem_cons]
  exact ⟨⟨_, rfl⟩, ⟨_, rfl⟩, ⟨_, rfl⟩, ⟨_, rfl⟩, List.forall_mem_nil _⟩

/-- The operations of one source, the conversions among them, check both register numbers (R551, R565). -/
theorem exec_eq_fpOp_unary (s : State) (fs fd : Reg) :
    ∀ i ∈ [Instr.sqrtS fs fd, .absS fs fd, .movS fs fd, .negS fs fd, .roundWS fs fd, .truncWS fs fd, .ceilWS fs fd,
      .floorWS fs fd, .cvtWS fs fd, .cvtSW fs fd], ∃ r, exec i s = s.fpOp [fs, fd] r := by
  simp only [List.forall_mem_cons]
  exact ⟨⟨_, rfl⟩, ⟨_, rfl⟩, ⟨_, rfl⟩, ⟨_, rfl⟩, ⟨_, rfl⟩, ⟨_, rfl⟩, ⟨_, rfl⟩, ⟨_, rfl⟩, ⟨_, rfl⟩, ⟨_, rfl⟩,
    List.forall_mem_nil _⟩

/-- The compares have no destination register to check (R551, R625). -/
theorem exec_eq_fpOp_compare (s : State) (ft fs : Reg) :
    ∀ i ∈ [Instr.cFS ft fs, .cUnS ft fs, .cEqS ft fs, .cUeqS ft fs, .cOltS ft fs, .cUltS ft fs, .cOleS ft fs,
      .cUleS ft fs, .cSfS ft fs, .cNgleS ft fs, .cSeqS ft fs, .cNglS ft fs, .cLtS ft fs, .cNgeS ft fs, .cLeS ft fs,
      .cNgtS ft fs], ∃ r, exec i s = s.fpOp [ft, fs] r := by
  simp only [List.forall_mem_cons]
  exact ⟨⟨_, rfl⟩, ⟨_, rfl⟩, ⟨_, rfl⟩, ⟨_, rfl⟩, ⟨_, rfl⟩, ⟨_, rfl⟩, ⟨_, rfl⟩, ⟨_, rfl⟩, ⟨_, rfl⟩, ⟨_, rfl⟩, ⟨_, rfl⟩,
    ⟨_, rfl⟩, ⟨_, rfl⟩, ⟨_, rfl⟩, ⟨_, rfl⟩, ⟨_, rfl⟩, List.forall_mem_nil _⟩

/-! ## Unimplemented Operation -/

section Unimplemented
variable {s : State} (hc : Cp1Usable s)
include hc

theorem State.fpUnimplemented_of_usable : s.fpUnimplemented = s.fpRaise causeE := State.needCp1_of_usable hc _

/-- A reserved word of the COP1 group (R576). -/
theorem State.execWord_reservedCop1 {w : Word} (h : decode w = .error .reservedCop1) :
    ∃ t, s.execWord w = .next t ∧ FpExceptionTaken causeE s t := by
  have answer : s.execWord w = s.fpRaise causeE :=
    (State.execWord_of_decode_error h).trans (State.fpUnimplemented_of_usable hc)
  exact answer ▸ s.fpRaise_fpExceptionTaken causeE

/-- An operation that names an odd register with FR = 0 (R551). -/
theorem fpTrapResult_of_odd {i : Instr} {regs : List Reg} (hodd : ¬FpRegsLegal s regs)
    (h : ∃ r, exec i s = s.fpOp regs r) : FpTrapResult i causeE s := by
  obtain ⟨r, hr⟩ := h
  exact fpTrapResult_of_fpRaise (hr.trans (State.fpOp_of_odd hc hodd r))

/-- DMFC1 and DMTC1 ask whether 64-bit operations may execute first (R632, R633). -/
theorem fpTrapResult_of_doubleMove {i : Instr} (h64 : Allows64 s)
    (h : exec i s = s.needCp1 (s.need64 (s.fpRaise causeE))) : FpTrapResult i causeE s := by
  rw [State.needCp1_of_usable hc, State.need64_of_allowed h64] at h
  exact fpTrapResult_of_fpRaise h

end Unimplemented

end Sys2Proof.Machine

open Sys2Proof Sys2Proof.Machine

/-- Settles O60: each form answers `fpRaise causeE`, at once (`exec_eq_fpUnimplemented`) or behind the check of its register
numbers (`State.fpOp_of_odd`). -/
theorem fpUnimplemented : Obligations.FpUnimplemented := by
  intro s base rt ft fs fd offset fmtLow fn hc
  refine ⟨fun i hi => ?forms, fun w hop h => State.execWord_reservedCop1 hc (decode_reservedCop1 hop h),
    fun h64 => ⟨fpTrapResult_of_doubleMove hc h64 rfl, fpTrapResult_of_doubleMove hc h64 rfl⟩,
    fun hodd i hi => fpTrapResult_of_odd hc hodd (exec_eq_fpOp_binary s ft fs fd i hi),
    fun hodd i hi => fpTrapResult_of_odd hc hodd (exec_eq_fpOp_unary s fs fd i hi),
    fun hodd i hi => fpTrapResult_of_odd hc hodd (exec_eq_fpOp_compare s ft fs i hi)⟩
  case forms =>
    have unimplemented := exec_eq_fpUnimplemented s ft fs fd fmtLow fn base offset i hi
    exact fpTrapResult_of_fpRaise (unimplemented.trans (State.fpUnimplemented_of_usable hc))

end

section
/-!
PROOF. Sys2Proof/Proofs/SixtyFourBit.lean: 64-bit operations where they are not allowed (30_encoding R280; 60_exceptions R697).
-/

namespace Sys2Proof.Machine

theorem not_allows64 {s : State} (hmode : s.userMode = true) (hux : s.cp0.status.ux = false) : ¬Allows64 s := by
  simp [Allows64, hmode, hux]

/-- Every 64-bit operation of the processor asks first whether it may execute. -/
theorem exec_eq_need64 (s : State) (rs rt rd : Reg) (sa : BitVec 5) (imm : BitVec 16) :
    ∀ i ∈ [Instr.daddi rs rt imm, .daddiu rs rt imm, .dadd rs rt rd, .daddu rs rt rd, .dsub rs rt rd, .dsubu rs rt rd,
      .dsll rt rd sa, .dsrl rt rd sa, .dsra rt rd sa, .dsll32 rt rd sa, .dsrl32 rt rd sa, .dsra32 rt rd sa,
      .dsllv rs rt rd, .dsrlv rs rt rd, .dsrav rs rt rd, .dmult rs rt, .dmultu rs rt, .ddiv rs rt, .ddivu rs rt,
      .ld rs rt imm, .ldl rs rt imm, .ldr rs rt imm, .lwu rs rt imm, .lld rs rt imm, .scd rs rt imm, .sd rs rt imm,
      .sdl rs rt imm, .sdr rs rt imm], ∃ r, exec i s = s.need64 r := by
  simp only [List.forall_mem_cons]
  exact ⟨⟨_, rfl⟩, ⟨_, rfl⟩, ⟨_, rfl⟩, ⟨_, rfl⟩, ⟨_, rfl⟩, ⟨_, rfl⟩, ⟨_, rfl⟩, ⟨_, rfl⟩, ⟨_, rfl⟩, ⟨_, rfl⟩, ⟨_, rfl⟩,
    ⟨_, rfl⟩, ⟨_, rfl⟩, ⟨_, rfl⟩, ⟨_, rfl⟩, ⟨_, rfl⟩, ⟨_, rfl⟩, ⟨_, rfl⟩, ⟨_, rfl⟩, ⟨_, rfl⟩, ⟨_, rfl⟩, ⟨_, rfl⟩,
    ⟨_, rfl⟩, ⟨_, rfl⟩, ⟨_, rfl⟩, ⟨_, rfl⟩, ⟨_, rfl⟩, ⟨_, rfl⟩, List.forall_mem_nil _⟩

section Forbidden
variable {s : State} (h64 : ¬Allows64 s) {i : Instr}
include h64

theorem trapResult_of_need64 (h : ∃ r, exec i s = s.need64 r) : TrapResult i 10 0 none s := by
  obtain ⟨r, hr⟩ := h
  exact trapResult_of_trap (n := s.fresh) (e := .ri) rfl (hr.trans (State.need64_of_forbidden h64 r))

/-- A doubleword move of coprocessor 0 asks for its coprocessor first. -/
theorem trapResult_of_needCp0_need64 (hc : Cp0Usable s) (h : ∃ r, exec i s = s.needCp0 (s.need64 r)) :
    TrapResult i 10 0 none s :=
  trapResult_of_need64 h64 (h.imp fun _ hr => hr.trans (State.needCp0_of_usable hc _))

/-- A doubleword move of coprocessor 1 asks for its coprocessor first. -/
theorem trapResult_of_needCp1_need64 (hc : Cp1Usable s) (h : ∃ r, exec i s = s.needCp1 (s.need64 r)) :
    TrapResult i 10 0 none s :=
  trapResult_of_need64 h64 (h.imp fun _ hr => hr.trans (State.needCp1_of_usable hc _))

end Forbidden

end Sys2Proof.Machine

open Sys2Proof Sys2Proof.Machine

/-- Settles O40: each form asks `need64` before anything else but the usability of its coprocessor. -/
theorem sixtyFourBitReserved : Obligations.SixtyFourBitReserved := by
  intro s rs rt rd sa imm hmode hux
  have h64 := not_allows64 hmode hux
  exact ⟨fun i hi => trapResult_of_need64 h64 (exec_eq_need64 s rs rt rd sa imm i hi),
    fun hc => ⟨trapResult_of_needCp0_need64 h64 hc ⟨_, rfl⟩, trapResult_of_needCp0_need64 h64 hc ⟨_, rfl⟩⟩,
    fun hc => ⟨trapResult_of_needCp1_need64 h64 hc ⟨_, rfl⟩, trapResult_of_needCp1_need64 h64 hc ⟨_, rfl⟩⟩⟩

end

section
/-!
PROOF. Sys2Proof/Proofs/Cp0Stops.lean: what coprocessors 0 and 2 leave without meaning, and the writes of coprocessor 0 that
the hazard rules forbid (47_coprocessor_cp0 R513, R530; 70_reset_and_hazards R771, R772, R778).
-/

namespace Sys2Proof.Machine

/-! ## Coprocessor 2 and the TLB group -/

theorem exec_eq_cop2 (s : State) (base rt : Reg) (offset : BitVec 16) (cofun : BitVec 26) :
    ∀ i ∈ [Instr.cop2 cofun, .lwc2 base rt offset, .ldc2 base rt offset, .swc2 base rt offset, .sdc2 base rt offset],
      exec i s = s.cop2 := by
  simp only [List.forall_mem_cons]
  exact ⟨rfl, rfl, rfl, rfl, rfl, List.forall_mem_nil _⟩

theorem State.cop2_of_usable {s : State} (h : s.cp0.status.cu.getLsbD 2 = true) : s.cop2 = .refused .coprocessor2 :=
  if_pos h

theorem exec_eq_reservedCop0 (s : State) :
    ∀ i ∈ [Instr.tlbr, .tlbwi, .tlbwr, .tlbp], exec i s = s.reservedCop0 := by
  simp only [List.forall_mem_cons]
  exact ⟨rfl, rfl, rfl, rfl, List.forall_mem_nil _⟩

/-! ## Unused registers (47_coprocessor_cp0 R515 to R518; U2) -/

/-- The register numbers that coprocessor 0 does not use (11_cp0_registers R114). -/
def unusedCp0 : List Reg := [4, 5, 6, 7, 10, 20, 21, 22, 23, 24, 25, 29, 31]

theorem State.readCp0_unused (s : State) {rd : Reg} (h : rd ∈ unusedCp0) : s.readCp0 rd = none := by
  revert rd
  simp only [unusedCp0, List.forall_mem_cons]
  exact ⟨rfl, rfl, rfl, rfl, rfl, rfl, rfl, rfl, rfl, rfl, rfl, rfl, rfl, List.forall_mem_nil _⟩

theorem Cp0.write_unused (c : Cp0) {rd : Reg} (h : rd ∈ unusedCp0) (data : DWord) : c.write rd data = none := by
  revert rd
  simp only [unusedCp0, List.forall_mem_cons]
  exact ⟨rfl, rfl, rfl, rfl, rfl, rfl, rfl, rfl, rfl, rfl, rfl, rfl, rfl, List.forall_mem_nil _⟩

theorem State.writeCp0_unused (s : State) {rd : Reg} (h : rd ∈ unusedCp0) (data : DWord) :
    s.writeCp0 rd data = .refused .reservedCp0Register := by
  rw [State.writeCp0, Cp0.write_unused _ h]

/-! ## The writes that the hazard rules forbid -/

/-- The registers that translation depends on are written whatever the word. -/
theorem Cp0.write_translation (c : Cp0) {rd : Reg} (h : rd ∈ [0#5, 1#5, 2#5, 3#5, 17#5]) (data : DWord) :
    ∃ new, c.write rd data = some new := by
  revert rd
  simp only [List.forall_mem_cons]
  exact ⟨⟨_, rfl⟩, ⟨_, rfl⟩, ⟨_, rfl⟩, ⟨_, rfl⟩, ⟨_, rfl⟩, List.forall_mem_nil _⟩

theorem Cp0.write_status (c : Cp0) (data : DWord) :
    c.write 12 data = some { c with status := Status.ofWord (low32 data) } := rfl

theorem translationWrite_iff (rd : Reg) (old new : Cp0) :
    translationWrite rd old new = true ↔ rd ∈ [0#5, 1#5, 2#5, 3#5, 17#5] ∨ new.status.um ≠ old.status.um ∨
      new.status.exl ≠ old.status.exl ∨ new.status.erl ≠ old.status.erl ∨ new.status.re ≠ old.status.re := by
  simp only [translationWrite, writesMapping, Bool.or_eq_true, beq_iff_eq, bne_iff_ne, List.mem_cons, List.not_mem_nil,
    or_false, or_assoc, ne_comm (a := old.status.um), ne_comm (a := old.status.exl), ne_comm (a := old.status.erl),
    ne_comm (a := old.status.re)]
  rfl

section Write
variable {s : State} {rd : Reg} {data : DWord} {c : Cp0} (hc : s.cp0.write rd data = some c)
include hc

/-- A write of translation or mode state right behind a load or store (R778). -/
theorem State.writeCp0_besideMemory (hmem : s.hazards.afterMem = true) (hwrite : translationWrite rd s.cp0 c = true) :
    s.writeCp0 rd data = .refused .memoryBesideTranslationWrite := by
  simp [State.writeCp0, hc, hmem, hwrite]

/-- A write of a base or bound from mapped space (R772). -/
theorem State.writeCp0_fromMappedSpace (hmem : s.hazards.afterMem = false) (hpc : (low32 s.pc).msb = false)
    (hmapping : writesMapping rd = true) : s.writeCp0 rd data = .refused .mappedSpaceInWindow := by
  simp [State.writeCp0, hc, hmem, hpc, hmapping]

/-- A write that no hazard rule forbids leaves the registers as `Cp0.write` has them. -/
theorem State.writeCp0_allowed (hmem : s.hazards.afterMem = false ∨ translationWrite rd s.cp0 c = false)
    (hmapping : writesMapping rd = false) (hrd : (rd == 17) = false) :
    ∃ t, s.writeCp0 rd data = .next t ∧ t.cp0 = c := by
  have hmemory : (s.hazards.afterMem && translationWrite rd s.cp0 c) = false :=
    Bool.and_eq_false_iff.2 hmem
  simp only [State.writeCp0, hc, hmemory, hmapping, hrd, Bool.and_false, Bool.false_and]
  exact ⟨_, rfl, rfl⟩

/-- A write of CAlg that changes the field of an active region (R771). -/
theorem State.writeCp0_activeCalg (hmem : s.hazards.afterMem = false) (hmapping : writesMapping rd = false)
    (hrd : (rd == 17) = true) (hactive : s.changesActiveCalg c = true) :
    s.writeCp0 rd data = .refused .calgOfActiveRegion := by
  simp only [State.writeCp0, hc, hmem, hmapping, hrd, hactive, Bool.and_false, Bool.false_and, Bool.and_true]
  rfl

end Write

/-- The model's list of active regions holds every region that is active in the words of R771 (log 15). -/
theorem ActiveRegion.mem_activeRegions {s : State} {r : BitVec 3} (h : ActiveRegion s r) : r ∈ s.activeRegions := by
  simp only [State.activeRegions, List.mem_cons, List.mem_append, Option.mem_toList, List.mem_filterMap, regionOf_eq]
  rcases h with here | last | buffered | next
  · exact .inl here
  · exact .inr (.inr (.inl last))
  · exact .inr (.inr (.inr buffered))
  · exact .inr (.inl (next s.advance s.advance_advanced))

theorem State.changesActiveCalg_of_active {s : State} {r : BitVec 3} (h : ActiveRegion s r) {new : Cp0}
    (hfield : calgField new.calg r ≠ calgField s.cp0.calg r) : s.changesActiveCalg new = true :=
  List.any_eq_true.2 ⟨r, h.mem_activeRegions, bne_iff_ne.2 hfield.symm⟩

/-! ## The moves -/

section Moves
variable {s : State} (hcp0 : Cp0Usable s) (rt : Reg) {rd : Reg}
include hcp0

theorem exec_mtc0_of_usable : exec (.mtc0 rt rd) s = s.writeCp0 rd (s.reg rt) := State.needCp0_of_usable hcp0 _

/-- DMTC0 writes any value into a 32-bit register (U4). -/
theorem exec_dmtc0_of_usable (h64 : Allows64 s) (hrd : isCp0Reg64 rd = false) :
    exec (.dmtc0 rt rd) s = s.drawn.writeCp0 rd (s.free 64) := by
  change execDmtc0 rt rd s = _
  rw [execDmtc0, State.needCp0_of_usable hcp0, State.need64_of_allowed h64, hrd]
  rfl

/-- What is refused whatever is written, and whichever free value comes next, both moves refuse. -/
theorem moveTo_refused {q : Refusal} (hrd : isCp0Reg64 rd = false)
    (h : ∀ n data, ({ s with fresh := n } : State).writeCp0 rd data = .refused q) :
    exec (.mtc0 rt rd) s = .refused q ∧ (Allows64 s → exec (.dmtc0 rt rd) s = .refused q) :=
  ⟨(exec_mtc0_of_usable hcp0 rt).trans (h s.fresh _),
    fun h64 => (exec_dmtc0_of_usable hcp0 rt h64 hrd).trans (h (s.fresh + 1) _)⟩

theorem exec_mfc0_unused (h : rd ∈ unusedCp0) : exec (.mfc0 rt rd) s = .refused .reservedCp0Register := by
  change execMfc0 rt rd s = _
  rw [execMfc0, State.needCp0_of_usable hcp0, s.readCp0_unused h]

theorem exec_dmfc0_unused (h : rd ∈ unusedCp0) (h64 : Allows64 s) :
    exec (.dmfc0 rt rd) s = .refused .reservedCp0Register := by
  change execDmfc0 rt rd s = _
  rw [execDmfc0, State.needCp0_of_usable hcp0, State.need64_of_allowed h64, s.readCp0_unused h]

theorem moveTo_unused (h : rd ∈ unusedCp0) :
    exec (.mtc0 rt rd) s = .refused .reservedCp0Register ∧
      (Allows64 s → exec (.dmtc0 rt rd) s = .refused .reservedCp0Register) := by
  have hrd : isCp0Reg64 rd = false := by
    revert rd
    decide
  exact moveTo_refused hcp0 rt hrd fun n data => State.writeCp0_unused _ h data

/-- The registers of translation behind a load or store (R778; log 14). -/
theorem moveTo_translation_besideMemory (hmem : s.hazards.afterMem = true) (h : rd ∈ [0#5, 1#5, 2#5, 3#5, 17#5]) :
    exec (.mtc0 rt rd) s = .refused .memoryBesideTranslationWrite ∧
      (Allows64 s → exec (.dmtc0 rt rd) s = .refused .memoryBesideTranslationWrite) := by
  have hrd : isCp0Reg64 rd = false := by
    revert rd
    decide
  refine moveTo_refused hcp0 rt hrd fun n data => ?_
  obtain ⟨c, hc⟩ := Cp0.write_translation s.cp0 h data
  exact State.writeCp0_besideMemory (s := { s with fresh := n }) hc hmem ((translationWrite_iff ..).2 (.inl h))

/-- A base or bound from mapped space (R772; log 15). -/
theorem moveTo_mapping_fromMappedSpace (hmem : s.hazards.afterMem = false) (hpc : (low32 s.pc).msb = false)
    (h : rd ∈ [0#5, 1#5, 2#5, 3#5]) :
    exec (.mtc0 rt rd) s = .refused .mappedSpaceInWindow ∧
      (Allows64 s → exec (.dmtc0 rt rd) s = .refused .mappedSpaceInWindow) := by
  have hrd : isCp0Reg64 rd = false ∧ writesMapping rd = true ∧ rd ∈ [0#5, 1#5, 2#5, 3#5, 17#5] := by
    revert rd
    decide
  obtain ⟨h32, hmapping, htranslation⟩ := hrd
  refine moveTo_refused hcp0 rt h32 fun n data => ?_
  obtain ⟨c, hc⟩ := Cp0.write_translation s.cp0 htranslation data
  exact State.writeCp0_fromMappedSpace (s := { s with fresh := n }) hc hmem hpc hmapping

/-- A word that changes a mode bit of Status behind a load or store (R778; log 14). -/
theorem mtc0_status_besideMemory (hmem : s.hazards.afterMem = true)
    (hchange : (low32 (s.reg rt)).getLsbD 4 ≠ s.cp0.status.um ∨ (low32 (s.reg rt)).getLsbD 1 ≠ s.cp0.status.exl ∨
      (low32 (s.reg rt)).getLsbD 2 ≠ s.cp0.status.erl ∨ (low32 (s.reg rt)).getLsbD 25 ≠ s.cp0.status.re) :
    exec (.mtc0 rt 12) s = .refused .memoryBesideTranslationWrite :=
  (exec_mtc0_of_usable hcp0 rt).trans
    (State.writeCp0_besideMemory (Cp0.write_status s.cp0 _) hmem ((translationWrite_iff ..).2 (.inr hchange)))

/-- DMTC0 of Status behind a load or store is refused when the free word changes a mode bit, and else writes one that does
not (R778, U4; log 14). -/
theorem dmtc0_status_besideMemory (hmem : s.hazards.afterMem = true) (h64 : Allows64 s) :
    exec (.dmtc0 rt 12) s = .refused .memoryBesideTranslationWrite ∨
      ∃ t, exec (.dmtc0 rt 12) s = .next t ∧ t.cp0.status.um = s.cp0.status.um ∧ t.cp0.status.exl = s.cp0.status.exl ∧
        t.cp0.status.erl = s.cp0.status.erl ∧ t.cp0.status.re = s.cp0.status.re := by
  rw [exec_dmtc0_of_usable hcp0 rt h64 rfl]
  have hc := Cp0.write_status s.drawn.cp0 (s.free 64)
  generalize ({ s.drawn.cp0 with status := Status.ofWord (low32 (s.free 64)) } : Cp0) = c at hc
  cases hwrite : translationWrite 12 s.drawn.cp0 c with
  | true => exact .inl (State.writeCp0_besideMemory hc hmem hwrite)
  | false =>
    obtain ⟨t, ht, rfl⟩ := State.writeCp0_allowed hc (.inr hwrite) rfl rfl
    have same := (translationWrite_iff 12 s.drawn.cp0 t.cp0).not.1 (by rw [hwrite]; decide)
    simp only [not_or, ne_eq, not_not] at same
    obtain ⟨-, um, exl, erl, re⟩ := same
    exact .inr ⟨t, ht, um, exl, erl, re⟩

end Moves


end Sys2Proof.Machine

open Sys2Proof Sys2Proof.Machine

/-- Settles O38: a word without an operation is refused behind the usability check alone, and a write in the order of the
refusals of `State.writeCp0`. -/
theorem coprocessorStops : Obligations.CoprocessorStops := by
  rintro s base rt rd offset cofun _ rfl
  refine ⟨fun hcu i hi => (exec_eq_cop2 s base rt offset cofun i hi).trans (State.cop2_of_usable hcu), fun hcp0 => ?_⟩
  refine ⟨?words, ?tlb, ?unused, ?translation, ?status, ?freeStatus, ?mapped, ?calg⟩
  case words =>
    exact fun w hop hrs h =>
      (State.execWord_of_decode_error (decode_reservedCop0 hop hrs h)).trans (State.reservedCop0_of_usable hcp0)
  case tlb => exact fun i hi => (exec_eq_reservedCop0 s i hi).trans (State.reservedCop0_of_usable hcp0)
  case unused =>
    intro hrd
    obtain ⟨mtc0, dmtc0⟩ := moveTo_unused hcp0 rt hrd
    exact ⟨exec_mfc0_unused hcp0 rt hrd, mtc0, fun h64 => ⟨exec_dmfc0_unused hcp0 rt hrd h64, dmtc0 h64⟩⟩
  case translation => exact fun hmem hrd => moveTo_translation_besideMemory hcp0 rt hmem hrd
  case status => exact fun hmem hchange => mtc0_status_besideMemory hcp0 rt hmem hchange
  case freeStatus => exact fun hmem h64 => dmtc0_status_besideMemory hcp0 rt hmem h64
  case mapped => exact fun hmem hpc x hx => moveTo_mapping_fromMappedSpace hcp0 rt hmem hpc hx
  case calg =>
    intro hmem r hr hfield
    exact (exec_mtc0_of_usable hcp0 rt).trans
      (State.writeCp0_activeCalg rfl hmem rfl rfl (State.changesActiveCalg_of_active hr hfield))

end

section
/-!
PROOF. Sys2Proof/Proofs/UncachedLoads.lean: loads from uncached RAM: the bytes of memory, the register they make and the
record of the load (20_memory R154, R160; 40_load_store R303 to R314; 70_reset_and_hazards R778).
-/

namespace Sys2Proof.Machine

/-! ## The record of a load -/

/-- The end of a load, store or CACHE puts it on record, whatever registers it wrote. -/
theorem recordsMem_of_doneMem {s u t : State} (hpc : u.pc = s.pc) (hhazards : u.hazards = s.hazards)
    (h : u.doneMem = .next t) : RecordsMem s t := by
  obtain rfl := State.doneMem_next h
  rw [RecordsMem, State.agedHazards_eq]
  simp only [agedRecord, hpc, hhazards]

section Ends
variable {s : State} {i : Instr}

theorem gprResult_of_uncachedLoad {rt : Reg} {d : DWord} (h : exec i s = (s.singleRead.setReg rt d).doneMem) :
    GprResult i rt d s := by
  obtain ⟨t, ht, hrest⟩ := gprLoad_uncached s rt d
  exact ⟨t, h.trans ht, hrest⟩

theorem recordsMem_of_uncachedLoad {rt : Reg} {d : DWord} (h : exec i s = (s.singleRead.setReg rt d).doneMem) :
    ∀ t, exec i s = .next t → RecordsMem s t :=
  fun _ ht => recordsMem_of_doneMem (s.singleRead.setReg_pc rt d) (s.singleRead.setReg_hazards rt d) (h.symm.trans ht)

end Ends

/-! ## The bytes of a load -/

/-- A load of any span from uncached RAM gives the bytes of memory, behind one read of the bus. -/
theorem State.load_uncachedSpan {s : State} {sp : Span} {pa : Word} {xs : List Nat} (h : UncachedRam s sp.va pa false)
    (ha : sp.va.toNat % sp.align = 0) (hxs : sp.physical s.cp0.status.reverseEndian pa = xs) :
    s.load sp = .ok (xs.map s.mem.get, pa, 2) s.singleRead := by
  obtain ⟨hmap, hquiet⟩ := h
  have hready : s.dataReady sp.va pa 2 xs false = .ok () s := State.dataReady_uncached xs hquiet
  obtain ⟨htrans, hwindow, _, hram, _⟩ := hquiet
  rw [State.load, State.dataAddress_of false ⟨htrans, hwindow⟩ hmap ha, Access.bind_of_ok]
  dsimp only
  rw [hxs, hready, Access.bind_of_ok, State.readBytes, (State.bus_ram hram).1]
  rfl

section Aligned
variable {s : State} {base rt : Reg} {offset : BitVec 16} {pa : Word}
  (h : UncachedRam s (s.ea base offset) pa false)
include h

theorem loadAligned_uncached {n : Nat} (signed : Bool) (ha : (s.ea base offset).toNat % n = 0) :
    s.loadAligned n signed base rt offset = (s.singleRead.setReg rt
      (if signed then (BitVec.ofNat (8 * n) (datum s.mem.get s pa n)).signExtend 64
        else BitVec.ofNat 64 (datum s.mem.get s pa n))).doneMem := by
  rw [State.loadAligned, State.load_uncached h ha, Access.finish_of_ok, datum_eq]
  rfl

theorem execLwc1_uncached (ha : (s.ea base offset).toNat % 4 = 0) (hcp1 : Cp1Usable s) :
    exec (.lwc1 base rt offset) s =
      (s.singleRead.setFgr rt (BitVec.ofNat 32 (datum s.mem.get s pa 4))).doneMem := by
  change execLwc1 base rt offset s = _
  rw [execLwc1, State.needCp1_of_usable hcp1, State.load_uncached h ha, Access.finish_of_ok, datum_eq]
  rfl

/-- LL and LLD of an uncached address have no meaning (U11). -/
theorem loadLinked_uncached {n : Nat} (ha : (s.ea base offset).toNat % n = 0) :
    s.loadLinked n base rt offset = .refused .linkUncached := by
  rw [State.loadLinked, State.load_uncached h ha, Access.finish_of_ok]
  rfl

end Aligned

/-! ## A part of a unit -/

theorem map_partBytes {α β : Type} (f : α → β) (bigEndian left : Bool) (size o : Nat) (bs : List α) :
    (partBytes bigEndian left size o bs).map f = partBytes bigEndian left size o (bs.map f) := by
  cases left
  · exact map_highBytes _ f _ bs
  · exact map_lowBytes _ f _ bs

section Parts
variable {s : State} {base rt : Reg} {offset : BitVec 16} {pa : Word} {size o v r : Nat} (left : Bool)
  (h : UncachedRam s (s.ea base offset) pa false)
include h

/-- What an unaligned load from uncached RAM reads, and the number that it merges into its register. -/
theorem load_part_uncached_merges (hsize : size = 4 ∨ size = 8)
    (ho : o = bytesBefore s.bigEndianCpu size (pa.toNat % size)) (hr : r = (s.reg rt).toNat % 2 ^ (8 * size))
    (hv : v = datum s.mem.get s (unitOf pa size) size) :
    ∃ bs, s.load (partSpan s.bigEndianCpu left size (s.ea base offset)) = .ok (bs, pa, 2) s.singleRead ∧
      (if left then mergeLeft (8 * size) (partSpan s.bigEndianCpu left size (s.ea base offset)).n r
          (fromBytes s.bigEndianCpu bs)
        else mergeRight (8 * size) (partSpan s.bigEndianCpu left size (s.ea base offset)).n r
          (fromBytes s.bigEndianCpu bs)) =
      if left then loadedLeft size o v r else loadedRight size o v r := by
  have hoff : pa.toNat % size = (s.ea base offset).toNat % size := h.1.mod (by omega)
  have hlt : o < size := ho ▸ bytesBefore_lt hsize hoff
  refine ⟨_, State.load_uncachedSpan (by rwa [partSpan_va]) (partSpan_aligned _ _ _ _)
    (physical_partSpan hsize hoff left), ?_⟩
  rw [← ho, map_partBytes, hv, datum_eq]
  exact mergePart_eq s.bigEndianCpu left hlt (by simp [byteAddrs_length]) (hr ▸ Nat.mod_lt _ (by positivity))
    (ho ▸ partSpan_n hsize hoff left)

theorem loadWordPart_uncached (ho : o = bytesBefore s.bigEndianCpu 4 (pa.toNat % 4))
    (hr : r = (s.reg rt).toNat % 2 ^ (8 * 4)) (hv : v = datum s.mem.get s (unitOf pa 4) 4) :
    s.loadWordPart left base rt offset = (s.singleRead.setReg rt
      (sext32 (BitVec.ofNat 32 (if left then loadedLeft 4 o v r else loadedRight 4 o v r)))).doneMem := by
  obtain ⟨bs, hload, hmerge⟩ := load_part_uncached_merges left h (.inl rfl) ho hr hv
  unfold State.loadWordPart
  dsimp only
  rw [← partSpan, hload, Access.finish_of_ok, ← hmerge, hr, ← low32_eq_mod]
  rfl

theorem loadDoublePart_uncached (ho : o = bytesBefore s.bigEndianCpu 8 (pa.toNat % 8))
    (hr : r = (s.reg rt).toNat % 2 ^ (8 * 8)) (hv : v = datum s.mem.get s (unitOf pa 8) 8) :
    s.loadDoublePart left base rt offset = (s.singleRead.setReg rt
      (BitVec.ofNat 64 (if left then loadedLeft 8 o v r else loadedRight 8 o v r))).doneMem := by
  obtain ⟨bs, hload, hmerge⟩ := load_part_uncached_merges left h (.inr rfl) ho hr hv
  rw [Nat.mod_eq_of_lt (s.reg rt).isLt] at hr
  unfold State.loadDoublePart
  dsimp only
  rw [← partSpan, hload, Access.finish_of_ok, ← hmerge, hr]
  rfl

end Parts

/-! ## Every load from uncached RAM is put on record -/

theorem loads_recordMem {s : State} {base rt : Reg} {offset : BitVec 16} {pa : Word}
    (h : UncachedRam s (s.ea base offset) pa false) :
    ∀ p ∈ loadForms base rt offset, MayExecute s p.1 → (s.ea base offset).toNat % p.2 = 0 →
      ∀ t, exec p.1 s = .next t → RecordsMem s t := by
  simp only [loadForms, List.forall_mem_cons]
  refine ⟨?lb, ?lbu, ?lh, ?lhu, ?lw, ?lwu, ?ld, ?lwl, ?lwr, ?ldl, ?ldr, ?ll, ?lld, ?lwc1, List.forall_mem_nil _⟩
  case lb | lh | lw => exact fun _ ha => recordsMem_of_uncachedLoad (loadAligned_uncached h true ha)
  case lbu | lhu => exact fun _ ha => recordsMem_of_uncachedLoad (loadAligned_uncached h false ha)
  case lwu | ld =>
    exact fun may ha =>
      recordsMem_of_uncachedLoad ((State.need64_of_allowed may _).trans (loadAligned_uncached h false ha))
  case lwl => exact fun _ _ => recordsMem_of_uncachedLoad (loadWordPart_uncached true h rfl rfl rfl)
  case lwr => exact fun _ _ => recordsMem_of_uncachedLoad (loadWordPart_uncached false h rfl rfl rfl)
  case ldl =>
    exact fun may _ =>
      recordsMem_of_uncachedLoad ((State.need64_of_allowed may _).trans (loadDoublePart_uncached true h rfl rfl rfl))
  case ldr =>
    exact fun may _ =>
      recordsMem_of_uncachedLoad ((State.need64_of_allowed may _).trans (loadDoublePart_uncached false h rfl rfl rfl))
  case ll => exact fun _ ha t ht => nomatch (loadLinked_uncached h ha).symm.trans ht
  case lld =>
    exact fun may ha t ht =>
      nomatch ((State.need64_of_allowed may _).trans (loadLinked_uncached h ha)).symm.trans ht
  case lwc1 =>
    exact fun may ha t ht => recordsMem_of_doneMem (u := s.singleRead.setFgr rt _) rfl rfl
      ((execLwc1_uncached h ha may).symm.trans ht)

end Sys2Proof.Machine

open Sys2Proof Sys2Proof.Machine

/-- Settles O41: each form is a load of its size (`loadAligned_uncached`, `execLwc1_uncached`), and every load that completes
ends in the record of a load (`loads_recordMem`). -/
theorem loadsUncached : Obligations.LoadsUncached := by
  intro s base rt offset pa h m hm
  obtain rfl : m = datum s.mem.get s pa := funext hm
  have load := fun {n i} signed ha (hexec : exec i s = s.loadAligned n signed base rt offset) =>
    gprResult_of_uncachedLoad (hexec.trans (loadAligned_uncached h signed ha))
  refine ⟨load true (Nat.mod_one _) rfl, load false (Nat.mod_one _) rfl, fun ha => ⟨load true ha rfl, load false ha rfl⟩,
    fun ha => ⟨load true ha rfl, fun h64 => load false ha (State.need64_of_allowed h64 _), fun hcp1 => ?lwc1⟩,
    fun ha h64 => load false ha (State.need64_of_allowed h64 _), loads_recordMem h⟩
  case lwc1 =>
    obtain ⟨t, ht, hrest⟩ := fgrLoad_uncached s rt (BitVec.ofNat 32 (datum s.mem.get s pa 4))
    exact ⟨t, (execLwc1_uncached h ha hcp1).trans ht, hrest⟩

end

section
/-!
PROOF. Sys2Proof/Proofs/UncachedStores.lean: stores to uncached RAM: the bytes stored, and what else changes, which is nothing
(20_memory R154, R161; 40_load_store R315 to R323; 70_reset_and_hazards R778).
-/

namespace Sys2Proof.Machine

/-- What a store leaves besides memory: everything as it was, the program counter at the next instruction, and the store on
record. -/
def StoreFrame (s t : State) : Prop :=
  SameGpr s t ∧ SameHiLo s t ∧ t.fpu = s.fpu ∧ t.cp0 = s.cp0 ∧ SameLink s t ∧ SameCaches s t ∧ SameOutside s t ∧
  Advanced s t ∧ RecordsMem s t

theorem storeResult_of {i : Instr} {s t : State} {pa : Word} {n v : Nat} (hexec : exec i s = .next t)
    (hdatum : datum t.mem.get s pa n = v % 256 ^ n) (hbut : SameBytesBut (byteAddrs s pa n) s t)
    (hframe : StoreFrame s t) : StoreResult i pa n v s := ⟨t, hexec, hdatum, hbut, hframe⟩

/-- An uncached store goes past the caches and the link. -/
theorem State.writeStore_uncached_frame (s : State) (va : DWord) (pa : Word) (ws : List (Nat × Byte)) :
    StoreFrame s (s.writeStore va pa 2 ws).memEnd := by
  have houter := s.writeStore_sameOuter va pa 2 ws
  exact ⟨houter.sameGpr, houter.sameHiLo, houter.fpu, s.writeStore_cp0 va pa 2 ws,
    ⟨rfl, houter.llAddr, houter.llSeen⟩, ⟨rfl, rfl⟩, houter.sameOutside, houter.advanced, houter.recordsMem⟩

/-! ## The store of any span -/

section Store
variable {s : State} {sp : Span} {pa : Word} {xs : List Nat} {bs : List Byte} (h : UncachedRam s sp.va pa true)
  (ha : sp.va.toNat % sp.align = 0) (hxs : sp.physical s.cp0.status.reverseEndian pa = xs)
include h ha hxs

theorem State.store_uncachedSpan (bs : List Byte) :
    s.store sp bs = .ok () (s.writeStore sp.va pa 2 (xs.zip bs)) := by
  obtain ⟨hmap, hquiet⟩ := h
  have hready : s.dataReady sp.va pa 2 xs true = .ok () s := State.dataReady_uncached xs hquiet
  obtain ⟨htrans, hwindow, _, hram, _⟩ := hquiet
  rw [State.store, State.storeReady, State.dataAddress_of true ⟨htrans, hwindow⟩ hmap ha, Access.bind_of_ok]
  dsimp only
  rw [hxs, hready, Access.bind_of_ok, Access.bind_of_ok]
  dsimp only
  rw [if_neg (by simp [hram])]

/-- The end of a store to uncached RAM: the bytes stand at their addresses, and nothing else changed. -/
theorem store_uncached_ends (hbytes : StoreBytes pa xs bs) :
    ∃ t, (s.store sp bs).finish (fun _ s => s.doneMem) = .next t ∧ xs.map t.mem.get = bs ∧ SameBytesBut xs s t ∧
      StoreFrame s t := by
  obtain ⟨_, _, _, _, hram, _⟩ := id h
  rw [State.store_uncachedSpan h ha hxs, Access.finish_of_ok]
  exact ⟨_, State.doneMem_eq _, State.map_mem_writeStore hram sp.va hbytes (by decide),
    State.writeStore_sameBytesBut (pa := pa) (alg := 2) sp.va, s.writeStore_uncached_frame sp.va pa _⟩

end Store

/-! ## Aligned stores -/

theorem alignedStoreBytes {s : State} {pa : Word} {n : Nat} (h : AlignedTo pa n) (v : Nat) :
    StoreBytes pa (byteAddrs s pa n) (toBytes s.bigEndianCpu n v) := by
  refine ⟨fun x hx => ?_, byteAddrs_nodup h, by rw [toBytes_length, byteAddrs_length]⟩
  have := mem_byteAddrs_div h hx
  omega

theorem storeResult_aligned {s : State} {base : Reg} {offset : BitVec 16} {pa : Word} {i : Instr} {n v : Nat}
    (h : UncachedRam s (s.ea base offset) pa true) (hn : n = 1 ∨ n = 2 ∨ n = 4 ∨ n = 8)
    (ha : (s.ea base offset).toNat % n = 0) (hexec : exec i s = s.storeAligned n v base offset) :
    StoreResult i pa n v s := by
  obtain ⟨t, ht, hread, hbut, hframe⟩ := store_uncached_ends (sp := aligned (s.ea base offset) n) h ha
    (physical_aligned s _ n pa) (alignedStoreBytes (h.1.alignedTo hn ha) v)
  refine storeResult_of (hexec.trans ht) ?_ hbut hframe
  rw [datum_eq, hread, fromBytes_toBytes]

end Sys2Proof.Machine

open Sys2Proof Sys2Proof.Machine

/-- Settles O43: each form is a store of its size (`storeResult_aligned`). -/
theorem storesUncached : Obligations.StoresUncached := by
  intro s base rt offset pa h
  refine ⟨storeResult_aligned h (by decide) (Nat.mod_one _) rfl, fun ha => storeResult_aligned h (by decide) ha rfl,
    fun ha => ⟨storeResult_aligned h (by decide) ha rfl, fun hcp1 => ?swc1⟩, fun ha h64 => ?sd⟩
  case swc1 => exact storeResult_aligned h (by decide) ha (State.needCp1_of_usable hcp1 _)
  case sd => exact storeResult_aligned h (by decide) ha (State.need64_of_allowed h64 _)

end

section
/-!
PROOF. Sys2Proof/Proofs/UncachedParts.lean: the unaligned loads and stores of uncached RAM (40_load_store R310 to R323).
-/

namespace Sys2Proof.Machine

theorem fromBytes_lt (bigEndian : Bool) (bs : List Byte) : fromBytes bigEndian bs < 256 ^ bs.length := by
  cases bigEndian
  · exact leNat_lt bs
  · exact lt_of_lt_of_eq (leNat_lt bs.reverse) (by rw [List.length_reverse])

theorem datum_lt (read : Nat → Byte) (s : State) (pa : Word) (n : Nat) : datum read s pa n < 256 ^ n := by
  have h := fromBytes_lt s.bigEndianCpu ((byteAddrs s pa n).map read)
  rwa [List.length_map, byteAddrs_length, ← datum_eq] at h

/-- A store of a part of the register's value makes the unit that 40_load_store R319 to R323 print, and changes no byte
outside it. -/
theorem storeResult_part {s : State} {base rt : Reg} {offset : BitVec 16} {pa : Word} {i : Instr} {size o v r : Nat}
    (left : Bool) (h : UncachedRam s (s.ea base offset) pa true) (hsize : size = 4 ∨ size = 8)
    (ho : o = bytesBefore s.bigEndianCpu size (pa.toNat % size)) (hr : r = (s.reg rt).toNat % 2 ^ (8 * size))
    (hv : v = datum s.mem.get s (unitOf pa size) size) (hexec : exec i s = s.storePart size left r base offset) :
    StoreResult i (unitOf pa size) size (if left then storedLeft size o v r else storedRight size o v r) s := by
  have hoff : pa.toNat % size = (s.ea base offset).toNat % size := h.1.mod (by omega)
  have hlt : o < size := ho ▸ bytesBefore_lt hsize hoff
  have hn := ho ▸ partSpan_n (s := s) hsize hoff left
  obtain ⟨t, ht, hread, hbut, hframe⟩ := store_uncached_ends (sp := partSpan s.bigEndianCpu left size (s.ea base offset))
    (by rwa [partSpan_va]) (partSpan_aligned _ _ _ _) (physical_partSpan hsize hoff left)
    (partStoreBytes hsize left hoff
      (if left then r / 2 ^ (8 * (size - (partSpan s.bigEndianCpu left size (s.ea base offset)).n)) else r))
  rw [← ho] at hread hbut
  have hunit : datum t.mem.get s (unitOf pa size) size =
      if left then storedLeft size o v r else storedRight size o v r := by
    rw [hv, datum_eq, datum_eq]
    exact fromBytes_storedPart s.bigEndianCpu left hlt (byteAddrs_length s _ size)
      (byteAddrs_nodup (unitOf_alignedTo pa hsize)) (hr ▸ Nat.mod_lt _ (by positivity)) hn hread fun x _ hx => hbut x hx
  refine storeResult_of (hexec.trans ht) ?_ (fun x hx => hbut x fun hmem => hx ((partBytes_sublist _ _ _ _ _).subset hmem))
    hframe
  rw [← hunit, Nat.mod_eq_of_lt (datum_lt _ _ _ _)]

end Sys2Proof.Machine

open Sys2Proof Sys2Proof.Machine

/-- Settles O42: an unaligned access is one of the low or high bytes of its unit (`physical_partSpan`), merged on a load
(`loadWordPart_uncached`, `loadDoublePart_uncached`) and put into the unit on a store (`storeResult_part`). -/
theorem partsUncached : Obligations.PartsUncached := by
  intro s base rt offset pa unit size v r o hforms hunit hv hr ho
  have hsize : size = 4 ∨ size = 8 := hforms.imp_right And.left
  have may : size = 8 → Allows64 s := fun h8 => (hforms.resolve_left (by omega)).2
  obtain rfl : unit = unitOf pa size := hunit
  refine ⟨fun h => ⟨?words, ?doubles⟩, fun h => ⟨?storedWords, ?storedDoubles⟩⟩
  case words =>
    rintro rfl
    exact ⟨gprResult_of_uncachedLoad (loadWordPart_uncached true h ho hr hv),
      gprResult_of_uncachedLoad (loadWordPart_uncached false h ho hr hv)⟩
  case doubles =>
    rintro rfl
    exact ⟨gprResult_of_uncachedLoad
        ((State.need64_of_allowed (may rfl) _).trans (loadDoublePart_uncached true h ho hr hv)),
      gprResult_of_uncachedLoad
        ((State.need64_of_allowed (may rfl) _).trans (loadDoublePart_uncached false h ho hr hv))⟩
  case storedWords =>
    rintro rfl
    have hexec := fun left => congrArg (s.storePart 4 left · base offset) ((low32_eq_mod (s.reg rt)).trans hr.symm)
    exact ⟨storeResult_part true h hsize ho hr hv (hexec true), storeResult_part false h hsize ho hr hv (hexec false)⟩
  case storedDoubles =>
    rintro rfl
    have hself : (s.reg rt).toNat = r := by rw [hr, Nat.mod_eq_of_lt (s.reg rt).isLt]
    have hexec := fun left => (State.need64_of_allowed (may rfl) _).trans
      (congrArg (s.storePart 8 left · base offset) hself)
    exact ⟨storeResult_part true h hsize ho hr hv (hexec true), storeResult_part false h hsize ho hr hv (hexec false)⟩

end

section
/-!
PROOF. Sys2Proof/Proofs/LinkedAccesses.lean: LL and LLD through the data cache, SC and SCD, and what breaks the link
(40_load_store R327 to R331; 21_caches R247; 93_implementation_defined U12).
-/

namespace Sys2Proof.Machine

/-! ## Load linked (R327, R328) -/

/-- The link that LL and LLD set: LLbit and the linked address. -/
def State.linkedTo (s : State) (pa : Word) : State := { s with llBit := true, llAddr := pa, llSeen := true }

/-- A doubleword fills its register: its sign extension and its zero extension are one. -/
theorem State.loadAligned_double_signed (s : State) (signed : Bool) (base rt : Reg) (offset : BitVec 16) :
    s.loadAligned 8 signed base rt offset = s.loadAligned 8 true base rt offset := by
  cases signed
  · simp only [State.loadAligned, extendBytes, BitVec.signExtend_eq, if_true, Bool.false_eq_true, if_false, Nat.reduceMul]
  · rfl

section LoadLinked
variable {s u : State} {base rt : Reg} {offset : BitVec 16} {pa : Word} {alg : BitVec 3} {n : Nat}
  (h : CachedRam s (s.ea base offset) pa alg false) (hn : n = 1 ∨ n = 2 ∨ n = 4 ∨ n = 8)
  (ha : (s.ea base offset).toNat % n = 0)
include h hn ha

/-- A cached LL or LLD is the load of its size, with the link set behind it. -/
theorem loadLinked_cached (hu : s.loadAligned n true base rt offset = .next u) :
    s.loadLinked n base rt offset = .next (u.linkedTo pa) := by
  have htwo : ¬alg = 2 := ne_two_of_cached h.2.1
  have hload := load_aligned_cached h hn ha
  rw [State.loadAligned, hload, Access.finish_of_ok] at hu
  rw [State.loadLinked, hload, Access.finish_of_ok]
  dsimp only
  rw [if_neg htwo]
  obtain rfl := State.doneMem_next hu
  rfl

/-- LL or LLD `i` and the load `j` of its size. -/
theorem loadLinked_ends {i j : Instr} (hi : exec i s = s.loadLinked n base rt offset)
    (hj : exec j s = s.loadAligned n true base rt offset) :
    ∃ u, exec j s = .next u ∧ exec i s = .next (u.linkedTo pa) ∧
      WritesGpr rt ((BitVec.ofNat (8 * n) (datum (s.cachedByte pa) s pa n)).signExtend 64) s u ∧ Advanced s u := by
  obtain ⟨u, hu, writes, -, frame⟩ := loadAligned_cached (rt := rt) h hn ha true
  obtain ⟨-, -, -, -, advanced, -⟩ := frame
  exact ⟨u, hj.trans hu, hi.trans (loadLinked_cached h hn ha hu), writes, advanced⟩

end LoadLinked

/-! ## Store conditional (R329, R331) -/

/-- The store of SC and SCD may reach its address: RAM past the cache, or through it. -/
def ConditionalRam (s : State) (va : DWord) (pa : Word) (alg : BitVec 3) : Prop :=
  alg = 2 ∧ UncachedRam s va pa true ∨ CachedRam s va pa alg true

section Conditional
variable {s : State} {va : DWord} {pa : Word} {alg : BitVec 3}

theorem ConditionalRam.mapsTo (h : ConditionalRam s va pa alg) : MapsTo s va pa alg := by
  rcases h with ⟨rfl, hmap, _⟩ | ⟨hmap, _⟩ <;> exact hmap

theorem ConditionalRam.quiet (h : ConditionalRam s va pa alg) : QuietData s va true := by
  rcases h with ⟨_, _, hquiet⟩ | ⟨_, _, hquiet, _⟩ <;> exact hquiet

/-- A store conditional that will not store passes its checks. -/
theorem State.conditionalFails_quiet (h : QuietData s va true) : s.conditionalFails va = .ok () s := by
  obtain ⟨hunsure, hnoticed⟩ := State.dwatch_quiet h
  simp [State.conditionalFails, hunsure, hnoticed]

end Conditional

/-- The last LL or LLD, if there was one, was of the address `pa` (U12; before any LL: log 39). -/
def LinkMatches (s : State) (pa : Word) : Prop := s.llSeen = true → s.llAddr = pa

section StoreConditional
variable {s : State} {base rt : Reg} {offset : BitVec 16} {pa : Word} {alg : BitVec 3} {n v : Nat}
  (h : ConditionalRam s (s.ea base offset) pa alg) (ha : (s.ea base offset).toNat % n = 0)
include h ha

/-- Behind its address a store conditional stores, fails, or has no meaning, as the linked address and LLbit say. -/
theorem storeConditional_eq : s.storeConditional n v base rt offset =
    if s.llSeen && s.llAddr != pa then .refused .conditionalElsewhere
    else if s.llBit then
      (s.store (aligned (s.ea base offset) n) (toBytes s.bigEndianCpu n v)).finish fun _ t => (t.setReg rt 1).doneMem
    else (s.setReg rt 0).doneMem := by
  obtain ⟨htrans, hwindow, _⟩ := h.quiet
  rw [State.storeConditional]
  dsimp only
  rw [State.dataAddress_of true ⟨htrans, hwindow⟩ h.mapsTo ha, Access.finish_of_ok]
  dsimp only
  rw [State.conditionalFails_quiet h.quiet, Access.finish_of_ok, Access.finish_of_ok]

theorem storeConditional_elsewhere (hseen : s.llSeen = true) (haddr : s.llAddr ≠ pa) :
    s.storeConditional n v base rt offset = .refused .conditionalElsewhere := by
  rw [storeConditional_eq h ha, if_pos (by simp [hseen, haddr])]

section Matches
variable (hlink : LinkMatches s pa)
include hlink

theorem storeConditional_of_linkMatches : s.storeConditional n v base rt offset =
    if s.llBit then
      (s.store (aligned (s.ea base offset) n) (toBytes s.bigEndianCpu n v)).finish fun _ t => (t.setReg rt 1).doneMem
    else (s.setReg rt 0).doneMem := by
  have hhere : (s.llSeen && s.llAddr != pa) = false := by
    cases hseen : s.llSeen
    · rfl
    · simp [hlink hseen]
  rw [storeConditional_eq h ha, hhere, if_neg Bool.false_ne_true]

/-- With LLbit = 0 nothing is stored, and 0 is written to rt. -/
theorem storeConditional_fails {i : Instr} (hexec : exec i s = s.storeConditional n v base rt offset)
    (hbit : s.llBit = false) : GprResult i rt 0 s := by
  rw [storeConditional_of_linkMatches h ha hlink, hbit, if_neg Bool.false_ne_true, State.doneMem_eq] at hexec
  exact ⟨_, hexec, s.setReg_writesGpr rt 0, s.setReg_frameGpr rt 0, s.setReg_advanced rt 0⟩

/-- With LLbit = 1 a store conditional is the store of its size, and 1 is written to rt behind it. -/
theorem storeConditional_stores (hbit : s.llBit = true) {u : State} (hu : s.storeAligned n v base offset = .next u)
    (hok : ∃ t, s.store (aligned (s.ea base offset) n) (toBytes s.bigEndianCpu n v) = .ok () t) :
    s.storeConditional n v base rt offset = .next (u.setReg rt 1) := by
  obtain ⟨t, ht⟩ := hok
  rw [State.storeAligned, ht, Access.finish_of_ok, State.doneMem_eq] at hu
  rw [storeConditional_of_linkMatches h ha hlink, hbit, if_pos rfl, ht, Access.finish_of_ok, State.doneMem_eq,
    State.memEnd_setReg]
  cases hu
  rfl

end Matches

/-- The store that SC and SCD do with LLbit = 1, past the cache or through it. -/
theorem conditionalStore_ends (hn : n = 1 ∨ n = 2 ∨ n = 4 ∨ n = 8) (v : Nat) :
    (∃ t, s.store (aligned (s.ea base offset) n) (toBytes s.bigEndianCpu n v) = .ok () t) ∧
      ∃ u, s.storeAligned n v base offset = .next u ∧ SameGpr s u ∧ Advanced s u ∧
        datum (if alg = 2 then u.mem.get else u.cachedByte pa) s pa n = v % 256 ^ n := by
  rcases h with ⟨rfl, huncached⟩ | hcached
  · obtain ⟨u, hu, hread, -, gpr, -, -, -, -, -, -, advanced, -⟩ := store_uncached_ends
      (sp := aligned (s.ea base offset) n) huncached ha (physical_aligned s _ n pa)
      (alignedStoreBytes (huncached.1.alignedTo hn ha) v)
    refine ⟨⟨_, State.store_uncachedSpan (sp := aligned (s.ea base offset) n) huncached ha (physical_aligned s _ n pa) _⟩,
      u, hu, gpr, advanced, ?_⟩
    rw [if_pos rfl, datum_eq, hread, fromBytes_toBytes]
  · have htwo : ¬alg = 2 := ne_two_of_cached hcached.2.1
    obtain ⟨u, hu, hdatum, -, gpr, -, -, -, -, -, advanced, -⟩ := storeAligned_cached hcached hn v ha
    refine ⟨⟨_, State.store_cached (sp := aligned (s.ea base offset) n) hcached ha _⟩, u, hu, gpr, advanced, ?_⟩
    rwa [if_neg htwo]

/-- SC or SCD `i` and the store `j` of its size: the three ways of R329 and R331. -/
theorem storeConditional_ends (hn : n = 1 ∨ n = 2 ∨ n = 4 ∨ n = 8) {i j : Instr}
    (hi : exec i s = s.storeConditional n v base rt offset) (hj : exec j s = s.storeAligned n v base offset) :
    (LinkMatches s pa → s.llBit = true →
      ∃ u, exec j s = .next u ∧ exec i s = .next (u.setReg rt 1) ∧ SameGpr s u ∧ Advanced s u ∧
        datum (if alg = 2 then u.mem.get else u.cachedByte pa) s pa n = v % 256 ^ n) ∧
    (LinkMatches s pa → s.llBit = false → GprResult i rt 0 s) ∧
    (s.llSeen = true → s.llAddr ≠ pa → exec i s = .refused .conditionalElsewhere) := by
  refine ⟨fun hlink hbit => ?_, fun hlink => storeConditional_fails h ha hlink hi,
    fun hseen haddr => hi.trans (storeConditional_elsewhere h ha hseen haddr)⟩
  obtain ⟨hok, u, hu, hrest⟩ := conditionalStore_ends h ha hn v
  exact ⟨u, hj.trans hu, hi.trans (storeConditional_stores h ha hlink hbit hu hok), hrest⟩

end StoreConditional

/-! ## A broken link -/

theorem LinkKept.llBit_of_broken {broken : Prop} {s t : State} (h : LinkKept broken s t) (hbroken : broken) :
    t.llBit = false := by
  obtain ⟨-, -, hbit⟩ := h
  exact Bool.eq_false_iff.mpr fun hset => (hbit.mp hset).2 hbroken

/-- A load that replaces the linked line clears LLbit (R330). -/
theorem lb_breaks_link {s : State} {base rt : Reg} {offset : BitVec 16} {pa : Word} {alg : BitVec 3}
    (h : CachedRam s (s.ea base offset) pa alg false) (hmiss : s.dcache.lookup pa = .miss)
    (hlinked : LinkedLine s (lineIndex pa) (s.dcache.line (s.dVictim (lineIndex pa)) (lineIndex pa))) :
    ∃ t, exec (.lb base rt offset) s = .next t ∧ t.llBit = false := by
  obtain ⟨t, ht, -, -, frame⟩ := loadAligned_cached (rt := rt) h (n := 1) (by decide) (Nat.mod_one _) true
  obtain ⟨-, -, -, -, -, -, -, refilled⟩ := frame
  obtain ⟨-, -, -, -, -, link⟩ := refilled hmiss _ _ _ rfl rfl rfl
  exact ⟨t, ht, link.llBit_of_broken hlinked⟩

/-- CACHE Hit Invalidate of the linked line clears LLbit (R330). -/
theorem hitInvalidateD_breaks_link {s : State} {base : Reg} {offset : BitVec 16} {pa : Word} {alg : BitVec 3} {w : Way}
    (hcp0 : Cp0Usable s) (hhazard : NoMemHazard s) (hmap : MapsTo s (s.ea base offset) pa alg)
    (halg : alg = 0 ∨ alg = 1 ∨ alg = 3) (hhit : s.dcache.lookup pa = .hit w)
    (hlinked : LinkedLine s (lineIndex pa) (s.dcache.line w (lineIndex pa))) :
    ∃ t, exec (.cache base 0x11 offset) s = .next t ∧ t.llBit = false := by
  obtain ⟨-, -, invalidates, -⟩ := cacheTags s base offset _ pa alg hcp0 hhazard rfl hmap halg _ _ _ rfl rfl rfl
  obtain ⟨t, ht, -, -, -, -, -, -, frame⟩ := invalidates w hhit
  obtain ⟨-, -, -, link, -⟩ := frame
  exact ⟨t, ht, link.llBit_of_broken hlinked⟩

end Sys2Proof.Machine

open Sys2Proof Sys2Proof.Machine

/-- Settles O44: a load linked is a load with the link set behind it (`loadLinked_ends`), a store conditional goes one of three
ways (`storeConditional_ends`), and what replaces or invalidates the linked line breaks the link. -/
theorem linkedAccesses : Obligations.LinkedAccesses := by
  intro s base rt offset pa alg
  refine ⟨fun h => ?linked, fun h => ?conditional, ?broken⟩
  case linked =>
    simp only [List.forall_mem_cons]
    refine ⟨?ll, ?lld, List.forall_mem_nil _⟩
    case ll => exact fun ha _ => loadLinked_ends h (by decide) ha rfl rfl
    case lld =>
      exact fun ha may => loadLinked_ends h (by decide) ha (State.need64_of_allowed (may trivial) _)
        ((State.need64_of_allowed (may trivial) _).trans (s.loadAligned_double_signed false base rt offset))
  case conditional =>
    simp only [List.forall_mem_cons]
    refine ⟨?sc, ?scd, List.forall_mem_nil _⟩
    case sc => exact fun ha _ => storeConditional_ends h ha (by decide) rfl rfl
    case scd =>
      exact fun ha may => storeConditional_ends h ha (by decide) (State.need64_of_allowed (may trivial) _)
        (State.need64_of_allowed (may trivial) _)
  case broken =>
    rintro _ rfl
    exact ⟨lb_breaks_link, fun hcp0 hhazard hmap halg _ => hitInvalidateD_breaks_link hcp0 hhazard hmap halg⟩

end

section
/-!
PROOF. Sys2Proof/Proofs/WordArithmetic.lean: immediates, comparisons and 32-bit sums in numbers, and the logical,
set-on-less-than and add instructions built on them (41_alu_immediate R351 to R358; 42_alu_three_operand R371 to R380).
-/

namespace Sys2Proof.Machine

/-! ## Immediates and flags in numbers -/

theorem zextImm_eq_append (imm : BitVec 16) : zextImm imm = 0#48 ++ imm :=
  BitVec.setWidth_eq_append (v := 16) (w := 64) (by decide)

theorem sextImm_toInt (imm : BitVec 16) : (sextImm imm).toInt = imm.toInt :=
  BitVec.toInt_signExtend_of_le (by decide)

/-- The value of LUI (R358). -/
theorem sext32_upperImm (imm : BitVec 16) : sext32 (imm ++ 0#16) = BitVec.ofInt 64 (imm.toInt * 2 ^ 16) :=
  calc sext32 (imm ++ 0#16)
    _ = BitVec.ofInt 64 (imm ++ 0#16).toInt := rfl
    _ = BitVec.ofInt 64 (imm.toInt * 2 ^ 16) := by rw [BitVec.toInt_append_zero, mul_comm]

theorem flagWord_slt (x y : DWord) : flagWord (x.slt y) = if x.toInt < y.toInt then 1 else 0 := by
  simp only [flagWord, BitVec.slt_iff_toInt_lt]

theorem flagWord_ult (x y : DWord) : flagWord (x.ult y) = if x.toNat < y.toNat then 1 else 0 := by
  simp only [flagWord, BitVec.ult_iff_toNat_lt]

/-! ## Sums and differences in numbers -/

theorem low32_eq_ofInt (x : DWord) : low32 x = BitVec.ofInt 32 x.toInt :=
  (BitVec.signExtend_eq_setWidth_of_le x (by decide)).symm

theorem low32_add (x y : DWord) : low32 (x + y) = BitVec.ofInt 32 (x.toInt + y.toInt) :=
  calc low32 (x + y)
    _ = low32 x + low32 y := BitVec.setWidth_add x y (by decide)
    _ = BitVec.ofInt 32 (x.toInt + y.toInt) := by rw [low32_eq_ofInt x, low32_eq_ofInt y, BitVec.ofInt_add]

theorem low32_sub (x y : DWord) : low32 (x - y) = BitVec.ofInt 32 (x.toInt - y.toInt) :=
  calc low32 (x - y)
    _ = low32 x + low32 (-y) := by rw [BitVec.sub_eq_add_neg]; exact BitVec.setWidth_add x (-y) (by decide)
    _ = low32 x + -low32 y := congrArg (low32 x + ·) (BitVec.setWidth_neg_of_le (by decide))
    _ = BitVec.ofInt 32 (x.toInt - y.toInt) := by
      rw [low32_eq_ofInt x, low32_eq_ofInt y, ← BitVec.ofInt_neg, ← BitVec.ofInt_add, Int.sub_eq_add_neg]

theorem overflows_eq_false_iff (w : Nat) (x : Int) : overflows w x = false ↔ -2 ^ (w - 1) ≤ x ∧ x < 2 ^ (w - 1) := by
  simp [overflows]

/-- The sign-extended word of a number that fits in 32 bits is that number (R31). -/
theorem sext32_ofInt {x : Int} (h : -2 ^ 31 ≤ x ∧ x < 2 ^ 31) : sext32 (BitVec.ofInt 32 x) = BitVec.ofInt 64 x :=
  congrArg (BitVec.ofInt 64) (BitVec.toInt_ofInt_eq_self (by decide) h.1 h.2)

/-! ## The record and the ends of the shared operations -/

section Ends
variable {i : Instr} {s : State} {rd : Reg}

theorem hazards_of_result {v : DWord} (h : exec i s = s.result rd v) :
    ∀ t, exec i s = .next t → t.hazards = agedRecord s := by
  intro t ht
  obtain rfl := State.result_next (h.symm.trans ht)
  rw [State.advance_hazards, State.agedHazards_eq]
  simp only [agedRecord, State.setReg_pc, State.setReg_hazards]

theorem gprResult_of_result32 {x : Word} (h : exec i s = s.result32 true rd x) : GprResult i rd (x.signExtend 64) s :=
  gprResult_of_result h

/-- A sum or difference of sign-extended words is exact where it fits, and else Integer Overflow (R351, R371, R373). -/
theorem gprResult_or_overflow_of_arith32 {x : Int} (h : exec i s = s.arith32 true rd x) :
    if -2 ^ 31 ≤ x ∧ x < 2 ^ 31 then GprResult i rd (BitVec.ofInt 64 x) s else TrapResult i 12 0 none s := by
  rw [State.arith32_of_valid] at h
  split
  case isTrue fits =>
    rw [(overflows_eq_false_iff 32 x).2 fits, if_neg Bool.false_ne_true, sext32_ofInt fits] at h
    exact gprResult_of_result h
  case isFalse beyond =>
    rw [Bool.eq_true_of_not_eq_false (mt (overflows_eq_false_iff 32 x).1 beyond), if_pos rfl] at h
    exact trapResult_of_trap (n := s.fresh) rfl h

end Ends

/-! ## The shared operation of each instruction -/

theorem exec_eq_result (s : State) (rs rt rd : Reg) (imm : BitVec 16) :
    ∀ i ∈ [Instr.and rs rt rd, .or rs rt rd, .xor rs rt rd, .nor rs rt rd, .andi rs rt imm, .ori rs rt imm,
      .xori rs rt imm, .lui rt imm, .slt rs rt rd, .sltu rs rt rd, .slti rs rt imm, .sltiu rs rt imm],
      ∃ r v, exec i s = s.result r v := by
  simp only [List.forall_mem_cons]
  exact ⟨⟨_, _, rfl⟩, ⟨_, _, rfl⟩, ⟨_, _, rfl⟩, ⟨_, _, rfl⟩, ⟨_, _, rfl⟩, ⟨_, _, rfl⟩, ⟨_, _, rfl⟩, ⟨_, _, rfl⟩,
    ⟨_, _, rfl⟩, ⟨_, _, rfl⟩, ⟨_, _, rfl⟩, ⟨_, _, rfl⟩, List.forall_mem_nil _⟩

section Immediate
variable (s : State) (rs rt : Reg) (imm : BitVec 16)

theorem exec_addi_of_isSext32 (h : isSext32 (s.reg rs) = true) :
    exec (.addi rs rt imm) s = s.arith32 true rt ((s.reg rs).toInt + imm.toInt) := by
  rw [exec_addi, h, sextImm_toInt]

theorem exec_addiu_of_isSext32 (h : isSext32 (s.reg rs) = true) :
    exec (.addiu rs rt imm) s = s.result32 true rt (BitVec.ofInt 32 ((s.reg rs).toInt + imm.toInt)) := by
  rw [exec_addiu, h, low32_add, sextImm_toInt]

end Immediate

section Register
variable {s : State} {rs rt : Reg} (h : s.bothSext32 rs rt = true) (rd : Reg)

include h

theorem exec_add_of_bothSext32 :
    exec (.add rs rt rd) s = s.arith32 true rd ((s.reg rs).toInt + (s.reg rt).toInt) :=
  congrArg (s.arith32 · rd _) h

theorem exec_sub_of_bothSext32 :
    exec (.sub rs rt rd) s = s.arith32 true rd ((s.reg rs).toInt - (s.reg rt).toInt) :=
  congrArg (s.arith32 · rd _) h

theorem exec_addu_of_bothSext32 :
    exec (.addu rs rt rd) s = s.result32 true rd (BitVec.ofInt 32 ((s.reg rs).toInt + (s.reg rt).toInt)) :=
  congrArg₂ (s.result32 · rd ·) h (low32_add _ _)

theorem exec_subu_of_bothSext32 :
    exec (.subu rs rt rd) s = s.result32 true rd (BitVec.ofInt 32 ((s.reg rs).toInt - (s.reg rt).toInt)) :=
  congrArg₂ (s.result32 · rd ·) h (low32_sub _ _)

end Register

end Sys2Proof.Machine

open Sys2Proof Sys2Proof.Machine

/-- Settles O23: each form is a `result`, which writes one register and moves the record on; its value in numbers is that of
`zextImm_eq_append`, `sext32_upperImm`, `flagWord_slt` and `flagWord_ult`. -/
theorem logicalResults : Obligations.LogicalResults := by
  intro s rs rt rd imm
  refine ⟨?and, ?or, ?xor, ?nor, ?andi, ?ori, ?xori, ?lui, ?slt, ?sltu, ?slti, ?sltiu, ?record, ?words, ?immediates, rfl⟩
  case and | or | xor => exact gprResult_of_result rfl
  case nor => rw [← BitVec.not_or]; exact gprResult_of_result rfl
  case andi | ori | xori => rw [← zextImm_eq_append]; exact gprResult_of_result rfl
  case lui => rw [← sext32_upperImm]; exact gprResult_of_result rfl
  case slt => rw [← flagWord_slt]; exact gprResult_of_result rfl
  case sltu => rw [← flagWord_ult]; exact gprResult_of_result rfl
  case slti => rw [← sextImm_toInt, ← flagWord_slt]; exact gprResult_of_result rfl
  case sltiu => exact gprResult_of_result (congrArg (s.result rt) (flagWord_ult _ (sextImm imm)))
  case record =>
    intro i hmem
    obtain ⟨r, v, hexec⟩ := exec_eq_result s rs rt rd imm i hmem
    exact hazards_of_result hexec
  case words =>
    simp only [List.forall_mem_cons]
    exact ⟨rfl, rfl, rfl, rfl, rfl, rfl, List.forall_mem_nil _⟩
  case immediates =>
    simp only [List.forall_mem_cons]
    exact ⟨rfl, rfl, rfl, rfl, rfl, List.forall_mem_nil _⟩

/-- Settles O24: of sign-extended operands the forms with an overflow check are `arith32` of the exact sum or difference
(`gprResult_or_overflow_of_arith32`), and the others `result32` of its low word (`low32_add`, `low32_sub`). -/
theorem addWords : Obligations.AddWords := by
  intro s rs rt rd imm hrs
  refine ⟨?immediate, ?register, ?words, rfl, rfl⟩
  case immediate =>
    rintro _ rfl
    exact ⟨gprResult_of_result32 (exec_addiu_of_isSext32 s rs rt imm hrs),
      gprResult_or_overflow_of_arith32 (exec_addi_of_isSext32 s rs rt imm hrs)⟩
  case register =>
    intro hrt
    have both : s.bothSext32 rs rt = true := Bool.and_eq_true_iff.2 ⟨hrs, hrt⟩
    refine ⟨?sum, ?difference⟩
    case sum =>
      rintro _ rfl
      exact ⟨gprResult_of_result32 (exec_addu_of_bothSext32 both rd),
        gprResult_or_overflow_of_arith32 (exec_add_of_bothSext32 both rd)⟩
    case difference =>
      rintro _ rfl
      exact ⟨gprResult_of_result32 (exec_subu_of_bothSext32 both rd),
        gprResult_or_overflow_of_arith32 (exec_sub_of_bothSext32 both rd)⟩
  case words =>
    simp only [List.forall_mem_cons]
    exact ⟨rfl, rfl, rfl, rfl, List.forall_mem_nil _⟩

end

section
/-!
PROOF. Sys2Proof/Proofs/DoublewordArithmetic.lean: the doubleword sums and differences, exact or modulo 2^64
(41_alu_immediate R359, R360; 42_alu_three_operand R381 to R384).
-/

namespace Sys2Proof.Machine

/-! ## Sums and differences in numbers -/

/-- The 64-bit sum is the exact sum modulo 2^64 (R360, R382). -/
theorem add_eq_ofInt (x y : DWord) : x + y = BitVec.ofInt 64 (x.toInt + y.toInt) := by
  rw [BitVec.ofInt_add, BitVec.ofInt_toInt, BitVec.ofInt_toInt]

/-- The 64-bit difference is the exact difference modulo 2^64 (R384). -/
theorem sub_eq_ofInt (x y : DWord) : x - y = BitVec.ofInt 64 (x.toInt - y.toInt) := by
  rw [Int.sub_eq_add_neg, BitVec.ofInt_add, BitVec.ofInt_neg, BitVec.ofInt_toInt, BitVec.ofInt_toInt,
    BitVec.sub_eq_add_neg]

/-! ## The checked sum or difference -/

theorem State.arith64_of_fits (s : State) (rd : Reg) {x : Int} (h : -2 ^ 63 ≤ x ∧ x < 2 ^ 63) :
    s.arith64 rd x = s.result rd (BitVec.ofInt 64 x) :=
  if_neg (((overflows_eq_false_iff 64 x).2 h).trans_ne Bool.false_ne_true)

theorem State.arith64_of_beyond (s : State) (rd : Reg) {x : Int} (h : ¬(-2 ^ 63 ≤ x ∧ x < 2 ^ 63)) :
    s.arith64 rd x = s.trap .ov :=
  if_pos (Bool.eq_true_of_not_eq_false (mt (overflows_eq_false_iff 64 x).1 h))

/-- A doubleword sum or difference is exact where it fits, and else Integer Overflow (R359, R381, R383). -/
theorem gprResult_or_overflow_of_arith64 {i : Instr} {s : State} {rd : Reg} {x : Int}
    (h : exec i s = s.arith64 rd x) :
    if -2 ^ 63 ≤ x ∧ x < 2 ^ 63 then GprResult i rd (BitVec.ofInt 64 x) s else TrapResult i 12 0 none s := by
  split
  case isTrue fits => exact gprResult_of_result (h.trans (s.arith64_of_fits rd fits))
  case isFalse beyond => exact trapResult_of_trap (n := s.fresh) rfl (h.trans (s.arith64_of_beyond rd beyond))

/-! ## The shared operation of each instruction, where 64-bit operations are allowed -/

section Allowed
variable {s : State} (h : Allows64 s) (rs rt rd : Reg) (imm : BitVec 16)

include h

theorem exec_dadd_of_allows64 :
    exec (.dadd rs rt rd) s = s.arith64 rd ((s.reg rs).toInt + (s.reg rt).toInt) :=
  State.need64_of_allowed h _

theorem exec_dsub_of_allows64 :
    exec (.dsub rs rt rd) s = s.arith64 rd ((s.reg rs).toInt - (s.reg rt).toInt) :=
  State.need64_of_allowed h _

theorem exec_daddi_of_allows64 :
    exec (.daddi rs rt imm) s = s.arith64 rt ((s.reg rs).toInt + imm.toInt) :=
  sextImm_toInt imm ▸ State.need64_of_allowed h _

theorem exec_daddu_of_allows64 :
    exec (.daddu rs rt rd) s = s.result rd (BitVec.ofInt 64 ((s.reg rs).toInt + (s.reg rt).toInt)) :=
  add_eq_ofInt (s.reg rs) (s.reg rt) ▸ State.need64_of_allowed h _

theorem exec_dsubu_of_allows64 :
    exec (.dsubu rs rt rd) s = s.result rd (BitVec.ofInt 64 ((s.reg rs).toInt - (s.reg rt).toInt)) :=
  sub_eq_ofInt (s.reg rs) (s.reg rt) ▸ State.need64_of_allowed h _

theorem exec_daddiu_of_allows64 :
    exec (.daddiu rs rt imm) s = s.result rt (BitVec.ofInt 64 ((s.reg rs).toInt + imm.toInt)) := by
  rw [← sextImm_toInt, ← add_eq_ofInt]
  exact State.need64_of_allowed h _

end Allowed

end Sys2Proof.Machine

open Sys2Proof Sys2Proof.Machine

/-- Settles O25: where 64-bit operations are allowed the forms with an overflow check are `arith64` of the exact sum or
difference (`gprResult_or_overflow_of_arith64`), and the others the same number modulo 2^64 (`add_eq_ofInt`,
`sub_eq_ofInt`). -/
theorem addDoubles : Obligations.AddDoubles := by
  intro s rs rt rd imm
  refine ⟨fun h64 => ⟨?sum, ?difference, ?immediate⟩, ?words, rfl, rfl⟩
  case sum =>
    rintro _ rfl
    exact ⟨gprResult_of_result (exec_daddu_of_allows64 h64 rs rt rd),
      gprResult_or_overflow_of_arith64 (exec_dadd_of_allows64 h64 rs rt rd)⟩
  case difference =>
    rintro _ rfl
    exact ⟨gprResult_of_result (exec_dsubu_of_allows64 h64 rs rt rd),
      gprResult_or_overflow_of_arith64 (exec_dsub_of_allows64 h64 rs rt rd)⟩
  case immediate =>
    rintro _ rfl
    exact ⟨gprResult_of_result (exec_daddiu_of_allows64 h64 rs rt imm),
      gprResult_or_overflow_of_arith64 (exec_daddi_of_allows64 h64 rs rt imm)⟩
  case words =>
    simp only [List.forall_mem_cons]
    exact ⟨rfl, rfl, rfl, rfl, List.forall_mem_nil _⟩

end

section
/-!
PROOF. Sys2Proof/Proofs/Shifts.lean: shifts as multiplication and division by a power of two, and the word and doubleword
shift instructions built on them (43_shift R392 to R406).
-/

namespace Sys2Proof.Machine

/-! ## Shifts in numbers -/

section Numbers
variable {w : Nat} (x : BitVec w) (n : Nat)

theorem shiftLeft_eq_ofNat : x <<< n = BitVec.ofNat w (x.toNat * 2 ^ n) :=
  BitVec.eq_of_toNat_eq (by rw [BitVec.toNat_shiftLeft, BitVec.toNat_ofNat, Nat.shiftLeft_eq])

theorem ushiftRight_eq_ofNat : x >>> n = BitVec.ofNat w (x.toNat / 2 ^ n) := by
  rw [← Nat.shiftRight_eq_div_pow, ← BitVec.toNat_ushiftRight, BitVec.ofNat_toNat, BitVec.setWidth_eq]

/-- Filling with the sign bit divides, rounding to minus infinity (R394, R400). -/
theorem toInt_sshiftRight_eq_div : (x.sshiftRight n).toInt = x.toInt / 2 ^ n := by
  rw [BitVec.toInt_sshiftRight, Int.shiftRight_eq_div_pow, Nat.cast_pow, Nat.cast_ofNat]

theorem sshiftRight_eq_ofInt : x.sshiftRight n = BitVec.ofInt w (x.toInt / 2 ^ n) := by
  rw [← toInt_sshiftRight_eq_div, BitVec.ofInt_toInt]

end Numbers

/-- The quotient fits in a word, so sign-extending it changes nothing (R394). -/
theorem sext32_sshiftRight (x : Word) (n : Nat) : sext32 (x.sshiftRight n) = BitVec.ofInt 64 (x.toInt / 2 ^ n) :=
  congrArg (BitVec.ofInt 64) (toInt_sshiftRight_eq_div x n)

/-! ## The counts of the variable shifts -/

theorem State.count5_eq_mod (s : State) (rs : Reg) : s.count5 rs = (s.reg rs).toNat % 32 :=
  BitVec.extractLsb'_toNat 0 5 (s.reg rs)

theorem State.count6_eq_mod (s : State) (rs : Reg) : s.count6 rs = (s.reg rs).toNat % 64 :=
  BitVec.extractLsb'_toNat 0 6 (s.reg rs)

/-! ## The shared operations of a sign-extended word -/

section Words
variable {s : State} {rt : Reg} (hsext : isSext32 (s.reg rt) = true) {i : Instr} {rd : Reg} {n : Nat}

include hsext

theorem gprResult_of_shiftLeft32 (h : exec i s = s.shiftLeft32 rt rd n) :
    GprResult i rd (sext32 (BitVec.ofNat 32 ((low32 (s.reg rt)).toNat * 2 ^ n))) s := by
  rw [State.shiftLeft32, hsext, shiftLeft_eq_ofNat] at h
  exact gprResult_of_result32 h

theorem gprResult_of_shiftRight32 (h : exec i s = s.shiftRight32 rt rd n) :
    GprResult i rd (sext32 (BitVec.ofNat 32 ((low32 (s.reg rt)).toNat / 2 ^ n))) s := by
  rw [State.shiftRight32, hsext, ushiftRight_eq_ofNat] at h
  exact gprResult_of_result32 h

theorem gprResult_of_shiftArith32 (h : exec i s = s.shiftArith32 rt rd n) :
    GprResult i rd (BitVec.ofInt 64 ((low32 (s.reg rt)).toInt / 2 ^ n)) s := by
  rw [State.shiftArith32, hsext] at h
  rw [← sext32_sshiftRight]
  exact gprResult_of_result32 h

end Words

/-! ## The shared operations of a doubleword, where 64-bit operations are allowed -/

section Doublewords
variable {s : State} (h64 : Allows64 s) {i : Instr} {rt rd : Reg} {n : Nat}

include h64

theorem gprResult_of_shiftLeft64 (h : exec i s = s.shiftLeft64 rt rd n) :
    GprResult i rd (BitVec.ofNat 64 ((s.reg rt).toNat * 2 ^ n)) s := by
  rw [State.shiftLeft64, State.need64_of_allowed h64, shiftLeft_eq_ofNat] at h
  exact gprResult_of_result h

theorem gprResult_of_shiftRight64 (h : exec i s = s.shiftRight64 rt rd n) :
    GprResult i rd (BitVec.ofNat 64 ((s.reg rt).toNat / 2 ^ n)) s := by
  rw [State.shiftRight64, State.need64_of_allowed h64, ushiftRight_eq_ofNat] at h
  exact gprResult_of_result h

theorem gprResult_of_shiftArith64 (h : exec i s = s.shiftArith64 rt rd n) :
    GprResult i rd (BitVec.ofInt 64 ((s.reg rt).toInt / 2 ^ n)) s := by
  rw [State.shiftArith64, State.need64_of_allowed h64, sshiftRight_eq_ofInt] at h
  exact gprResult_of_result h

end Doublewords

end Sys2Proof.Machine

open Sys2Proof Sys2Proof.Machine

/-- Settles O26: each form is one of six shared shifts, by `sa`, by `32 + sa` or by a count taken from rs, and each shared
shift multiplies or divides by a power of two. -/
theorem shifts : Obligations.Shifts := by
  intro s rs rt rd sa
  refine ⟨?word, ?doubleword, ?fixedWords, ?variableWords⟩
  case word =>
    rintro hsext _ _ rfl rfl
    rw [← State.count5_eq_mod]
    exact ⟨gprResult_of_shiftLeft32 hsext rfl, gprResult_of_shiftRight32 hsext rfl, gprResult_of_shiftArith32 hsext rfl,
      gprResult_of_shiftLeft32 hsext rfl, gprResult_of_shiftRight32 hsext rfl, gprResult_of_shiftArith32 hsext rfl⟩
  case doubleword =>
    rintro h64 _ _ rfl rfl
    rw [← State.count6_eq_mod]
    exact ⟨gprResult_of_shiftLeft64 h64 rfl, gprResult_of_shiftRight64 h64 rfl, gprResult_of_shiftArith64 h64 rfl,
      gprResult_of_shiftLeft64 h64 rfl, gprResult_of_shiftRight64 h64 rfl, gprResult_of_shiftArith64 h64 rfl,
      gprResult_of_shiftLeft64 h64 rfl, gprResult_of_shiftRight64 h64 rfl, gprResult_of_shiftArith64 h64 rfl⟩
  case fixedWords =>
    simp only [List.forall_mem_cons]
    exact ⟨rfl, rfl, rfl, rfl, rfl, rfl, rfl, rfl, rfl, List.forall_mem_nil _⟩
  case variableWords =>
    simp only [List.forall_mem_cons]
    exact ⟨rfl, rfl, rfl, rfl, rfl, rfl, List.forall_mem_nil _⟩

end

section
/-!
PROOF. Sys2Proof/Proofs/Products.lean: the halves of a number in HI and LO, and the multiply and multiply-accumulate
instructions built on them (44_multiply_divide R413, R414, R417, R418, R421 to R423).
-/

namespace Sys2Proof.Machine

/-! ## A sign-extended word in numbers -/

theorem sext32_low32_of_isSext32 {v : DWord} (h : isSext32 v = true) : sext32 (low32 v) = v := eq_of_beq h

theorem low32_toInt_of_isSext32 {v : DWord} (h : isSext32 v = true) : (low32 v).toInt = v.toInt :=
  calc (low32 v).toInt
    _ = (sext32 (low32 v)).toInt := (BitVec.toInt_signExtend_of_le (by decide)).symm
    _ = v.toInt := congrArg BitVec.toInt (sext32_low32_of_isSext32 h)

theorem bothSext32_iff {s : State} {rs rt : Reg} :
    s.bothSext32 rs rt = true ↔ isSext32 (s.reg rs) = true ∧ isSext32 (s.reg rt) = true := Bool.and_eq_true_iff

/-! ## The parts of a number -/

theorem toNat_ofInt_eq_emod (w : Nat) (x : Int) : ((BitVec.ofInt w x).toNat : Int) = x % 2 ^ w := by
  rw [BitVec.toNat_ofInt, Int.toNat_of_nonneg (Int.emod_nonneg x (by positivity)), Nat.cast_pow, Nat.cast_ofNat]

/-- The low part of a number modulo `2 ^ w` is the number modulo a smaller power of two. -/
theorem setWidth_ofInt {v w : Nat} (h : v ≤ w) (x : Int) : (BitVec.ofInt w x).setWidth v = BitVec.ofInt v x := by
  apply BitVec.eq_of_toNat_eq
  zify
  rw [BitVec.toNat_setWidth, toNat_ofInt_eq_emod, Int.natCast_emod, toNat_ofInt_eq_emod, Nat.cast_pow, Nat.cast_ofNat,
    Int.emod_emod_of_dvd x (pow_dvd_pow 2 h)]

/-- The part above `n` bits of a number modulo `2 ^ (n + m)` is the number divided by `2 ^ n`. -/
theorem extractLsb'_ofInt (n m : Nat) (x : Int) :
    (BitVec.ofInt (n + m) x).extractLsb' n m = BitVec.ofInt m (x / 2 ^ n) := by
  have parts : x % 2 ^ (n + m) = x % 2 ^ n + 2 ^ n * (x / 2 ^ n % 2 ^ m) := by
    rw [pow_add, Int.emod_def x (2 ^ n * 2 ^ m), Int.emod_def x, Int.emod_def (x / 2 ^ n),
      ← Int.ediv_ediv_of_nonneg (by positivity)]
    ring
  have above : x % 2 ^ (n + m) / 2 ^ n = x / 2 ^ n % 2 ^ m := by
    rw [parts, Int.add_mul_ediv_left _ _ (by positivity),
      Int.ediv_eq_zero_of_lt (Int.emod_nonneg x (by positivity)) (Int.emod_lt_of_pos x (by positivity)), zero_add]
  apply BitVec.eq_of_toNat_eq
  zify
  rw [BitVec.extractLsb'_toNat, Nat.shiftRight_eq_div_pow, toNat_ofInt_eq_emod, ← Int.emod_emod, ← above,
    ← toNat_ofInt_eq_emod (n + m)]
  push_cast
  rfl

theorem low32_ofInt (x : Int) : low32 (BitVec.ofInt 64 x) = BitVec.ofInt 32 x := setWidth_ofInt (by decide) x

theorem high32_ofInt (x : Int) : high32 (BitVec.ofInt 64 x) = sext32 (BitVec.ofInt 32 (x / 2 ^ 32)) :=
  congrArg sext32 (extractLsb'_ofInt 32 32 x)

theorem lowDouble_ofInt (x : Int) : (BitVec.ofInt 128 x).extractLsb' 0 64 = BitVec.ofInt 64 x := by
  rw [← BitVec.setWidth_eq_extractLsb' (by decide), setWidth_ofInt (by decide)]

theorem highDouble_ofInt (x : Int) : (BitVec.ofInt 128 x).extractLsb' 64 64 = BitVec.ofInt 64 (x / 2 ^ 64) :=
  extractLsb'_ofInt 64 64 x

/-- A quotient of natural numbers is the quotient of them as integers. -/
theorem ofNat_div_eq_ofInt (w x n : Nat) : BitVec.ofNat w (x / 2 ^ n) = BitVec.ofInt w ((x : Int) / 2 ^ n) := by
  rw [← BitVec.ofInt_natCast, Int.natCast_ediv, Nat.cast_pow, Nat.cast_ofNat]

/-! ## A number split between HI and LO -/

section Halves
variable {i : Instr} {s : State}

theorem hiLoResult_of_writeHalves {x : Int} (h : exec i s = s.writeHalves true (BitVec.ofInt 64 x)) :
    HiLoResult i (sext32 (BitVec.ofInt 32 (x / 2 ^ 32))) (sext32 (BitVec.ofInt 32 x)) s := by
  rw [State.writeHalves, high32_ofInt, low32_ofInt] at h
  exact hiLoResult_of_known h

theorem hiLoResult_of_writeHalves_nat {x : Nat} (h : exec i s = s.writeHalves true (BitVec.ofNat 64 x)) :
    HiLoResult i (sext32 (BitVec.ofNat 32 (x / 2 ^ 32))) (sext32 (BitVec.ofNat 32 x)) s := by
  rw [← BitVec.ofInt_natCast] at h
  rw [ofNat_div_eq_ofInt, ← BitVec.ofInt_natCast]
  exact hiLoResult_of_writeHalves h

theorem hiLoResult_of_writeDoubles {x : Int} (h : exec i s = s.writeDoubles (BitVec.ofInt 128 x)) :
    HiLoResult i (BitVec.ofInt 64 (x / 2 ^ 64)) (BitVec.ofInt 64 x) s := by
  rw [State.writeDoubles, highDouble_ofInt, lowDouble_ofInt] at h
  exact hiLoResult_of_known h

theorem hiLoResult_of_writeDoubles_nat {x : Nat} (h : exec i s = s.writeDoubles (BitVec.ofNat 128 x)) :
    HiLoResult i (BitVec.ofNat 64 (x / 2 ^ 64)) (BitVec.ofNat 64 x) s := by
  rw [← BitVec.ofInt_natCast] at h
  rw [ofNat_div_eq_ofInt, ← BitVec.ofInt_natCast]
  exact hiLoResult_of_writeDoubles h

end Halves

/-! ## The shared operation of each instruction, behind no move from HI or LO -/

section Words
variable {s : State} {rs rt : Reg} (hquiet : NoHiLoHazard s) (hrs : isSext32 (s.reg rs) = true)
  (hrt : isSext32 (s.reg rt) = true)

include hquiet hrs hrt

theorem exec_mult_of_isSext32 :
    exec (.mult rs rt) s = s.writeHalves true (BitVec.ofInt 64 ((s.reg rs).toInt * (s.reg rt).toInt)) := by
  change execMult rs rt s = _
  rw [execMult, State.beforeHiLo_of_quiet hquiet, bothSext32_iff.2 ⟨hrs, hrt⟩, low32_toInt_of_isSext32 hrs,
    low32_toInt_of_isSext32 hrt]

theorem exec_multu_of_isSext32 :
    exec (.multu rs rt) s =
      s.writeHalves true (BitVec.ofNat 64 ((s.reg rs).toNat % 2 ^ 32 * ((s.reg rt).toNat % 2 ^ 32))) := by
  change execMultu rs rt s = _
  rw [execMultu, State.beforeHiLo_of_quiet hquiet, bothSext32_iff.2 ⟨hrs, hrt⟩, low32_toNat, low32_toNat]

theorem exec_mad_of_isSext32 :
    exec (.mad rs rt) s =
      s.writeHalves true (BitVec.ofInt 64 (s.accumulator.toInt + (s.reg rs).toInt * (s.reg rt).toInt)) := by
  change execMad rs rt s = _
  rw [execMad, State.beforeHiLo_of_quiet hquiet, bothSext32_iff.2 ⟨hrs, hrt⟩, sext32_low32_of_isSext32 hrs,
    sext32_low32_of_isSext32 hrt, BitVec.ofInt_add, BitVec.ofInt_mul, BitVec.ofInt_toInt, BitVec.ofInt_toInt,
    BitVec.ofInt_toInt]

theorem exec_madu_of_isSext32 :
    exec (.madu rs rt) s =
      s.writeHalves true
        (BitVec.ofNat 64 (s.accumulator.toNat + (s.reg rs).toNat % 2 ^ 32 * ((s.reg rt).toNat % 2 ^ 32))) := by
  change execMadu rs rt s = _
  rw [execMadu, State.beforeHiLo_of_quiet hquiet, bothSext32_iff.2 ⟨hrs, hrt⟩, BitVec.ofNat_add, BitVec.ofNat_mul,
    ← low32_toNat, ← low32_toNat, BitVec.ofNat_toNat, BitVec.ofNat_toNat, BitVec.ofNat_toNat, BitVec.setWidth_eq]

end Words

section Doublewords
variable {s : State} (hquiet : NoHiLoHazard s) (h64 : Allows64 s) (rs rt : Reg)

include hquiet h64

theorem exec_dmult_of_allows64 :
    exec (.dmult rs rt) s = s.writeDoubles (BitVec.ofInt 128 ((s.reg rs).toInt * (s.reg rt).toInt)) := by
  change execDmult rs rt s = _
  rw [execDmult, State.need64_of_allowed h64, State.beforeHiLo_of_quiet hquiet]

theorem exec_dmultu_of_allows64 :
    exec (.dmultu rs rt) s = s.writeDoubles (BitVec.ofNat 128 ((s.reg rs).toNat * (s.reg rt).toNat)) := by
  change execDmultu rs rt s = _
  rw [execDmultu, State.need64_of_allowed h64, State.beforeHiLo_of_quiet hquiet]

end Doublewords

/-- MUL writes the low word of the exact product (R423). -/
theorem mulValue_of_isSext32 {s : State} {rs rt : Reg} (hrs : isSext32 (s.reg rs) = true)
    (hrt : isSext32 (s.reg rt) = true) :
    mulValue s rs rt = sext32 (BitVec.ofInt 32 ((s.reg rs).toInt * (s.reg rt).toInt)) := by
  rw [mulValue, if_pos (bothSext32_iff.2 ⟨hrs, hrt⟩), BitVec.ofInt_mul, ← low32_eq_ofInt, ← low32_eq_ofInt]

end Sys2Proof.Machine

open Sys2Proof Sys2Proof.Machine

/-- Settles O28: each form but MUL splits its exact number between HI and LO (`hiLoResult_of_writeHalves`,
`hiLoResult_of_writeDoubles`), and MUL writes the low word of it (`mul_writesGpr`). -/
theorem multiply : Obligations.Multiply := by
  intro s rs rt rd hquiet
  refine ⟨fun hrs hrt => ⟨?signed, ?unsigned⟩, fun h64 => ⟨?dmult, ?dmultu⟩⟩
  case signed =>
    rintro _ _ rfl rfl
    refine ⟨hiLoResult_of_writeHalves (exec_mult_of_isSext32 hquiet hrs hrt),
      hiLoResult_of_writeHalves (exec_mad_of_isSext32 hquiet hrs hrt), ?mul⟩
    rw [← mulValue_of_isSext32 hrs hrt]
    exact mul_writesGpr hquiet rs rt rd
  case unsigned =>
    rintro _ _ rfl rfl
    exact ⟨hiLoResult_of_writeHalves_nat (exec_multu_of_isSext32 hquiet hrs hrt),
      hiLoResult_of_writeHalves_nat (exec_madu_of_isSext32 hquiet hrs hrt)⟩
  case dmult =>
    rintro _ rfl
    exact hiLoResult_of_writeDoubles (exec_dmult_of_allows64 hquiet h64 rs rt)
  case dmultu =>
    rintro _ rfl
    exact hiLoResult_of_writeDoubles_nat (exec_dmultu_of_allows64 hquiet h64 rs rt)

end

section
/-!
PROOF. Sys2Proof/Proofs/Quotients.lean: division with remainder, and the divide instructions built on it
(44_multiply_divide R411, R412, R415, R416, R419, R420).
-/

namespace Sys2Proof.Machine

/-! ## Division toward zero -/

theorem abs_tmod_lt (a : Int) {b : Int} (h : b ≠ 0) : |a.tmod b| < |b| := by
  rw [Int.abs_eq_natAbs, Int.abs_eq_natAbs, Int.natAbs_tmod, Nat.cast_lt]
  exact Nat.mod_lt _ (Int.natAbs_pos.2 h)

/-- The remainder has the dividend's sign. -/
theorem tmod_mul_self_nonneg (a b : Int) : 0 ≤ a.tmod b * a := by
  obtain ha | ha := le_total 0 a
  case inl => exact mul_nonneg (Int.tmod_nonneg b ha) ha
  case inr =>
    have hneg : 0 ≤ -a.tmod b := by
      rw [← Int.neg_tmod]
      exact Int.tmod_nonneg b (neg_nonneg.2 ha)
    exact mul_nonneg_of_nonpos_of_nonpos (neg_nonneg.1 hneg) ha

/-! ## Divisors that are not zero -/

theorem toInt_ne_zero {w : Nat} {x : BitVec w} (h : x ≠ 0) : x.toInt ≠ 0 := fun hx =>
  h (BitVec.toInt_inj.1 (hx.trans BitVec.toInt_zero.symm))

theorem toNat_ne_zero {w : Nat} {x : BitVec w} (h : x ≠ 0) : x.toNat ≠ 0 := BitVec.toNat_ne.1 h

theorem low32_ne_zero_of_isSext32 {v : DWord} (h : isSext32 v = true) (hv : v ≠ 0) : low32 v ≠ 0 := fun h0 =>
  hv ((sext32_low32_of_isSext32 h).symm.trans (congrArg sext32 h0))

/-! ## The shared operation of each instruction, behind no move from HI or LO -/

section Words
variable {s : State} (hquiet : NoHiLoHazard s) (rs rt : Reg)

include hquiet

theorem exec_div_of_quiet :
    exec (.div rs rt) s =
      s.writeHiLo (s.bothSext32 rs rt && (low32 (s.reg rt)).toInt != 0)
        (sext32 (BitVec.ofInt 32 ((low32 (s.reg rs)).toInt.tmod (low32 (s.reg rt)).toInt)))
        (sext32 (BitVec.ofInt 32 ((low32 (s.reg rs)).toInt.tdiv (low32 (s.reg rt)).toInt))) := by
  change execDiv rs rt s = _
  rw [execDiv, State.beforeHiLo_of_quiet hquiet]

theorem exec_divu_of_quiet :
    exec (.divu rs rt) s =
      s.writeHiLo (s.bothSext32 rs rt && (low32 (s.reg rt)).toNat != 0)
        (sext32 (BitVec.ofNat 32 ((low32 (s.reg rs)).toNat % (low32 (s.reg rt)).toNat)))
        (sext32 (BitVec.ofNat 32 ((low32 (s.reg rs)).toNat / (low32 (s.reg rt)).toNat))) := by
  change execDivu rs rt s = _
  rw [execDivu, State.beforeHiLo_of_quiet hquiet]

variable {rs rt} (hrs : isSext32 (s.reg rs) = true) (hrt : isSext32 (s.reg rt) = true) (hne : s.reg rt ≠ 0)

include hrs hrt hne

theorem exec_div_of_isSext32 :
    exec (.div rs rt) s =
      s.writeHiLo true (sext32 (BitVec.ofInt 32 ((s.reg rs).toInt.tmod (s.reg rt).toInt)))
        (sext32 (BitVec.ofInt 32 ((s.reg rs).toInt.tdiv (s.reg rt).toInt))) := by
  have divisor := bne_iff_ne.2 (toInt_ne_zero (low32_ne_zero_of_isSext32 hrt hne))
  rw [exec_div_of_quiet hquiet, bothSext32_iff.2 ⟨hrs, hrt⟩, divisor, low32_toInt_of_isSext32 hrs,
    low32_toInt_of_isSext32 hrt, Bool.true_and]

theorem exec_divu_of_isSext32 :
    exec (.divu rs rt) s =
      s.writeHiLo true (sext32 (BitVec.ofNat 32 ((s.reg rs).toNat % 2 ^ 32 % ((s.reg rt).toNat % 2 ^ 32))))
        (sext32 (BitVec.ofNat 32 ((s.reg rs).toNat % 2 ^ 32 / ((s.reg rt).toNat % 2 ^ 32)))) := by
  have divisor := bne_iff_ne.2 (toNat_ne_zero (low32_ne_zero_of_isSext32 hrt hne))
  rw [exec_divu_of_quiet hquiet, bothSext32_iff.2 ⟨hrs, hrt⟩, divisor, low32_toNat, low32_toNat, Bool.true_and]

end Words

section Doublewords
variable {s : State} (hquiet : NoHiLoHazard s) (h64 : Allows64 s) (rs rt : Reg)

include hquiet h64

theorem exec_ddiv_of_allows64 :
    exec (.ddiv rs rt) s =
      s.writeHiLo ((s.reg rt).toInt != 0) (BitVec.ofInt 64 ((s.reg rs).toInt.tmod (s.reg rt).toInt))
        (BitVec.ofInt 64 ((s.reg rs).toInt.tdiv (s.reg rt).toInt)) := by
  change execDdiv rs rt s = _
  rw [execDdiv, State.need64_of_allowed h64, State.beforeHiLo_of_quiet hquiet]

theorem exec_ddivu_of_allows64 :
    exec (.ddivu rs rt) s =
      s.writeHiLo ((s.reg rt).toNat != 0) (BitVec.ofNat 64 ((s.reg rs).toNat % (s.reg rt).toNat))
        (BitVec.ofNat 64 ((s.reg rs).toNat / (s.reg rt).toNat)) := by
  change execDdivu rs rt s = _
  rw [execDdivu, State.need64_of_allowed h64, State.beforeHiLo_of_quiet hquiet]

end Doublewords

/-! ## Division completes whatever the divisor is (R411, R412) -/

theorem divWord_completes {s : State} (hquiet : NoHiLoHazard s) (rs rt : Reg) :
    ∀ i ∈ [Instr.div rs rt, .divu rs rt], ∃ hi lo, HiLoResult i hi lo s := by
  simp only [List.forall_mem_cons]
  exact ⟨exists_hiLoResult_of_writeHiLo (exec_div_of_quiet hquiet rs rt),
    exists_hiLoResult_of_writeHiLo (exec_divu_of_quiet hquiet rs rt), List.forall_mem_nil _⟩

theorem divDoubleword_completes {s : State} (hquiet : NoHiLoHazard s) (h64 : Allows64 s) (rs rt : Reg) :
    ∀ i ∈ [Instr.ddiv rs rt, .ddivu rs rt], ∃ hi lo, HiLoResult i hi lo s := by
  simp only [List.forall_mem_cons]
  exact ⟨exists_hiLoResult_of_writeHiLo (exec_ddiv_of_allows64 hquiet h64 rs rt),
    exists_hiLoResult_of_writeHiLo (exec_ddivu_of_allows64 hquiet h64 rs rt), List.forall_mem_nil _⟩

end Sys2Proof.Machine

open Sys2Proof Sys2Proof.Machine

/-- Settles O29: the signed forms leave the quotient toward zero and its remainder (`abs_tmod_lt`, `tmod_mul_self_nonneg`),
the unsigned ones those of natural numbers, and each form completes with some values whatever the divisor is. -/
theorem divide : Obligations.Divide := by
  intro s rs rt hquiet
  refine ⟨fun hrs hrt hne => ⟨?div, ?divu⟩, fun h64 hne => ⟨?ddiv, ?ddivu⟩,
    fun _ => ⟨divWord_completes hquiet rs rt, fun h64 => divDoubleword_completes hquiet h64 rs rt⟩⟩
  case div =>
    exact ⟨_, _, (Int.tdiv_mul_add_tmod _ _).symm, abs_tmod_lt _ (toInt_ne_zero hne), tmod_mul_self_nonneg _ _,
      hiLoResult_of_known (exec_div_of_isSext32 hquiet hrs hrt hne)⟩
  case divu =>
    have hpos : 0 < (s.reg rt).toNat % 2 ^ 32 := by
      rw [← low32_toNat]
      exact Nat.pos_of_ne_zero (toNat_ne_zero (low32_ne_zero_of_isSext32 hrt hne))
    exact ⟨_, _, (Nat.div_add_mod' _ _).symm, Nat.mod_lt _ hpos,
      hiLoResult_of_known (exec_divu_of_isSext32 hquiet hrs hrt hne)⟩
  case ddiv =>
    have hexec := exec_ddiv_of_allows64 hquiet h64 rs rt
    rw [bne_iff_ne.2 (toInt_ne_zero hne)] at hexec
    exact ⟨_, _, (Int.tdiv_mul_add_tmod _ _).symm, abs_tmod_lt _ (toInt_ne_zero hne), tmod_mul_self_nonneg _ _,
      hiLoResult_of_known hexec⟩
  case ddivu =>
    have hexec := exec_ddivu_of_allows64 hquiet h64 rs rt
    rw [bne_iff_ne.2 (toNat_ne_zero hne)] at hexec
    exact ⟨_, _, (Nat.div_add_mod' _ _).symm, Nat.mod_lt _ (Nat.pos_of_ne_zero (toNat_ne_zero hne)),
      hiLoResult_of_known hexec⟩

end

section
/-!
PROOF. Sys2Proof/Proofs/HiLoWrites.lean: what every write of HI or LO keeps, also within two instructions behind a move from
them, the moves themselves, and the record of both (44_multiply_divide R424 to R427, R430, R431; U17).
-/

namespace Sys2Proof.Machine

/-! ## The end of an instruction that moves or writes HI or LO -/

/-- The end of a write of HI or LO that records whether a pair now awaits its moves. -/
def State.endHiLo (s : State) (pair : Bool) : State :=
  { s.advance with hazards := { s.agedHazards with hiloPair := pair } }

/-- An instruction that is no multiply, divide or move leaves the pair on record as it was. -/
theorem State.done_eq_endHiLo (s : State) : s.done = .next (s.endHiLo s.hazards.hiloPair) := rfl

/-! ## What a write of HI or LO keeps -/

/-- The registers that a write of HI or LO keeps: all but those it writes itself and, within two instructions behind an MFHI or
MFLO, the register of that move; r0 reads zero always (R430, U17). -/
def KeptByHiLo (written : List Reg) (s : State) (q : Reg) : Prop :=
  q = 0 ∨ q ∉ written ∧ (q = s.hazards.mfRd → NoHiLoHazard s)

/-- `u` differs from `s` in HI, LO, the registers not kept and the free values drawn alone. -/
structure SameButHiLo (written : List Reg) (s u : State) : Prop where
  reg : ∀ q, KeptByHiLo written s q → u.reg q = s.reg q
  fpu : u.fpu = s.fpu
  system : SameSystem s u
  pc : u.pc = s.pc
  nextPc : u.nextPc = s.nextPc
  inDelaySlot : u.inDelaySlot = s.inDelaySlot
  hazards : u.hazards = s.hazards

theorem State.beforeHiLo_sameButHiLo (s : State) : SameButHiLo [] s s.beforeHiLo where
  reg q hq := by
    obtain rfl | ⟨-, hmove⟩ := hq
    · rfl
    · exact State.beforeHiLo_reg hmove
  fpu := s.beforeHiLo_fpu
  system := by simp [SameSystem, SameLink, SameCaches, SameBytes, SameOutside]
  pc := s.beforeHiLo_pc
  nextPc := s.beforeHiLo_nextPc
  inDelaySlot := s.beforeHiLo_inDelaySlot
  hazards := s.beforeHiLo_hazards

namespace SameButHiLo
variable {written : List Reg} {s u : State} (h : SameButHiLo written s u)

include h

theorem writeHiLo (hi lo : DWord) (n : Nat) :
    SameButHiLo written s { u with hi := hi, lo := lo, fresh := n } :=
  ⟨h.reg, h.fpu, h.system, h.pc, h.nextPc, h.inDelaySlot, h.hazards⟩

theorem setReg (rd : Reg) (v : DWord) : SameButHiLo (rd :: written) s (u.setReg rd v) where
  reg q hq := by
    obtain rfl | ⟨hmem, hmove⟩ := hq
    · rfl
    · obtain ⟨hrd, hwritten⟩ := not_or.1 (mt List.mem_cons.2 hmem)
      exact (u.reg_setReg_ne v hrd).trans (h.reg q (.inr ⟨hwritten, hmove⟩))
  fpu := (u.setReg_fpu rd v).trans h.fpu
  system := by simpa [SameSystem, SameLink, SameCaches, SameBytes, SameOutside] using h.system
  pc := (u.setReg_pc rd v).trans h.pc
  nextPc := (u.setReg_nextPc rd v).trans h.nextPc
  inDelaySlot := (u.setReg_inDelaySlot rd v).trans h.inDelaySlot
  hazards := (u.setReg_hazards rd v).trans h.hazards

theorem advanced (pair : Bool) : Advanced s (u.endHiLo pair) := by
  have hadvanced : Advanced u (u.endHiLo pair) := u.advance_advanced
  rwa [Advanced, h.pc, h.nextPc, h.inDelaySlot] at hadvanced

theorem endHiLo_hazards (pair : Bool) : (u.endHiLo pair).hazards = { agedRecord s with hiloPair := pair } := by
  change { u.agedHazards with hiloPair := pair } = _
  rw [State.agedHazards_eq, agedRecord, h.pc, h.hazards, agedRecord]

/-- What an instruction that writes HI or LO keeps, and the record it leaves. -/
theorem completes {i : Instr} {pair : Bool} (hexec : exec i s = .next (u.endHiLo pair)) :
    ∃ t, exec i s = .next t ∧ (∀ q, KeptByHiLo written s q → t.reg q = s.reg q) ∧ t.fpu = s.fpu ∧ SameSystem s t ∧
      Advanced s t ∧ t.hazards = { agedRecord s with hiloPair := pair } :=
  ⟨u.endHiLo pair, hexec, h.reg, h.fpu, h.system, h.advanced pair, h.endHiLo_hazards pair⟩

end SameButHiLo

/-- Behind no move from HI or LO within two instructions such a write changes HI and LO alone. -/
theorem SameButHiLo.frameHiLo {s u : State} (h : SameButHiLo [] s u) (hquiet : NoHiLoHazard s) : FrameHiLo s u :=
  ⟨fun q => h.reg q (.inr ⟨List.not_mem_nil, fun _ => hquiet⟩), h.fpu, h.system⟩

/-! ## Every write of HI or LO -/

/-- The instruction ends its write of HI or LO in a state that keeps the rest. -/
def EndsHiLo (i : Instr) (written : List Reg) (pair : Bool) (s : State) : Prop :=
  ∃ u, exec i s = .next (u.endHiLo pair) ∧ SameButHiLo written s u

theorem endsHiLo_of_writeHiLo {i : Instr} {s : State} {known : Bool} {hi lo : DWord}
    (h : exec i s = s.beforeHiLo.writeHiLo known hi lo) : EndsHiLo i [] true s := by
  cases known with
  | true => exact ⟨_, h, s.beforeHiLo_sameButHiLo.writeHiLo hi lo _⟩
  | false => exact ⟨_, h, s.beforeHiLo_sameButHiLo.writeHiLo _ _ _⟩

theorem endsHiLo_of_need64 {i : Instr} {s : State} (h64 : Allows64 s) {known : Bool} {hi lo : DWord}
    (h : exec i s = s.need64 (s.beforeHiLo.writeHiLo known hi lo)) : EndsHiLo i [] true s :=
  endsHiLo_of_writeHiLo (h.trans (State.need64_of_allowed h64 _))

/-- MUL leaves the pair on record as it was: it is none of the instructions that R431 names. -/
theorem mul_endsHiLo (s : State) (rs rt rd : Reg) : EndsHiLo (.mul rs rt rd) [rd] s.hazards.hiloPair s := by
  have writes (v : DWord) (n : Nat) (hexec : exec (.mul rs rt rd) s =
      ({ s.beforeHiLo.setReg rd v with fresh := n } : State).freeHiLo.done) :
      EndsHiLo (.mul rs rt rd) [rd] s.hazards.hiloPair s := by
    have kept := (s.beforeHiLo_sameButHiLo.setReg rd v).writeHiLo (Config.freeBits 64 n) (Config.freeBits 64 (n + 1)) (n + 2)
    rw [State.done_eq_endHiLo, State.freeHiLo_hazards, State.setReg_hazards, State.beforeHiLo_hazards] at hexec
    exact ⟨_, hexec, kept⟩
  have hexec : exec (.mul rs rt rd) s = execMul rs rt rd s := rfl
  rw [execMul] at hexec
  split at hexec
  · exact writes _ _ hexec
  · exact writes _ _ hexec

/-- MTHI writes HI; LO stays, or takes any value where a pair awaits its moves (R426, R431). -/
theorem mthi_ends (s : State) (r : Reg) :
    ∃ u, exec (.mthi r) s = .next (u.endHiLo false) ∧ SameButHiLo [] s u ∧ u.hi = s.beforeHiLo.reg r ∧
      (s.hazards.hiloPair = false → u.lo = s.lo) := by
  have hexec : exec (.mthi r) s = execMthi r s := rfl
  rw [execMthi, State.beforeHiLo_hazards] at hexec
  have kept := s.beforeHiLo_sameButHiLo
  have hlo := s.beforeHiLo_lo
  generalize s.beforeHiLo = v at *
  split at hexec
  case isTrue awaits => exact ⟨_, hexec, kept.writeHiLo _ _ _, rfl, fun idle => nomatch awaits.symm.trans idle⟩
  case isFalse => exact ⟨_, hexec, kept.writeHiLo _ _ _, rfl, fun _ => hlo⟩

/-- MTLO writes LO; HI stays, or takes any value where a pair awaits its moves (R427, R431). -/
theorem mtlo_ends (s : State) (r : Reg) :
    ∃ u, exec (.mtlo r) s = .next (u.endHiLo false) ∧ SameButHiLo [] s u ∧ u.lo = s.beforeHiLo.reg r ∧
      (s.hazards.hiloPair = false → u.hi = s.hi) := by
  have hexec : exec (.mtlo r) s = execMtlo r s := rfl
  rw [execMtlo, State.beforeHiLo_hazards] at hexec
  have kept := s.beforeHiLo_sameButHiLo
  have hhi := s.beforeHiLo_hi
  generalize s.beforeHiLo = v at *
  split at hexec
  case isTrue awaits => exact ⟨_, hexec, kept.writeHiLo _ _ _, rfl, fun idle => nomatch awaits.symm.trans idle⟩
  case isFalse => exact ⟨_, hexec, kept.writeHiLo _ _ _, rfl, fun _ => hhi⟩

/-- The instructions that write HI or LO: the registers that each writes, whether a pair awaits its moves behind it, and
whether it is a 64-bit operation. -/
def hiLoWrites (s : State) (rs rt rd : Reg) : List (Instr × List Reg × Bool × Bool) :=
  [(.mthi rs, [], false, false), (.mtlo rs, [], false, false), (.mult rs rt, [], true, false),
    (.multu rs rt, [], true, false), (.div rs rt, [], true, false), (.divu rs rt, [], true, false),
    (.mad rs rt, [], true, false), (.madu rs rt, [], true, false), (.mul rs rt rd, [rd], s.hazards.hiloPair, false),
    (.dmult rs rt, [], true, true), (.dmultu rs rt, [], true, true), (.ddiv rs rt, [], true, true),
    (.ddivu rs rt, [], true, true)]

theorem hiLoWrites_endsHiLo (s : State) (rs rt rd : Reg) :
    ∀ p ∈ hiLoWrites s rs rt rd, (p.2.2.2 = true → Allows64 s) → EndsHiLo p.1 p.2.1 p.2.2.1 s := by
  obtain ⟨u, mthi, mthiKeeps, -⟩ := mthi_ends s rs
  obtain ⟨w, mtlo, mtloKeeps, -⟩ := mtlo_ends s rs
  simp only [hiLoWrites, List.forall_mem_cons]
  exact ⟨fun _ => ⟨u, mthi, mthiKeeps⟩, fun _ => ⟨w, mtlo, mtloKeeps⟩,
    fun _ => endsHiLo_of_writeHiLo rfl, fun _ => endsHiLo_of_writeHiLo rfl, fun _ => endsHiLo_of_writeHiLo rfl,
    fun _ => endsHiLo_of_writeHiLo rfl, fun _ => endsHiLo_of_writeHiLo rfl, fun _ => endsHiLo_of_writeHiLo rfl,
    fun _ => mul_endsHiLo s rs rt rd,
    fun may => endsHiLo_of_need64 (may trivial) rfl, fun may => endsHiLo_of_need64 (may trivial) rfl,
    fun may => endsHiLo_of_need64 (may trivial) rfl, fun may => endsHiLo_of_need64 (may trivial) rfl, List.forall_mem_nil _⟩

/-! ## The moves from HI and LO -/

/-- The end of an MFHI or MFLO, which goes on record with its register (R430). -/
def State.movedFromHiLo (s : State) (rd : Reg) (v : DWord) : State :=
  { (s.setReg rd v).advance with hazards := { s.agedHazards with mfRd := rd, mfAge := 0, hiloPair := false } }

section MoveFrom
variable {i : Instr} {s : State} {rd : Reg} {v : DWord} (h : exec i s = .next (s.movedFromHiLo rd v))

include h

theorem gprResult_of_movedFromHiLo : GprResult i rd v s := by
  obtain ⟨hpc, -, -⟩ := s.setReg_advanced rd v
  exact ⟨_, h, s.setReg_writesGpr rd v, s.setReg_frameGpr rd v, hpc, rfl, rfl⟩

theorem hazards_of_movedFromHiLo :
    ∀ t, exec i s = .next t → t.hazards = { agedRecord s with mfRd := rd, mfAge := 0, hiloPair := false } := by
  intro t ht
  cases h.symm.trans ht
  rw [← State.agedHazards_eq, State.movedFromHiLo]

end MoveFrom

/-! ## The moves to HI and LO, behind no move from them -/

theorem moves_to_hiLo {s : State} (hquiet : NoHiLoHazard s) (r : Reg) :
    ∃ lo hi, HiLoResult (.mthi r) (s.reg r) lo s ∧ HiLoResult (.mtlo r) hi (s.reg r) s ∧
      (s.hazards.hiloPair = false → lo = s.lo ∧ hi = s.hi) := by
  obtain ⟨u, mthi, mthiKeeps, hhi, hlo⟩ := mthi_ends s r
  obtain ⟨w, mtlo, mtloKeeps, hlow, hhigh⟩ := mtlo_ends s r
  rw [State.beforeHiLo_of_quiet hquiet] at hhi hlow
  exact ⟨u.lo, w.hi, ⟨_, mthi, hhi, rfl, mthiKeeps.frameHiLo hquiet, mthiKeeps.advanced false⟩,
    ⟨_, mtlo, rfl, hlow, mtloKeeps.frameHiLo hquiet, mtloKeeps.advanced false⟩,
    fun idle => ⟨hlo idle, hhigh idle⟩⟩

end Sys2Proof.Machine

open Sys2Proof Sys2Proof.Machine

/-- Settles O30: an MFHI or MFLO ends in `movedFromHiLo`, and every write of HI or LO starts from `beforeHiLo`, which frees
the last move's register alone, and ends in `endHiLo` (`hiLoWrites_endsHiLo`). -/
theorem hiLoMoves : Obligations.HiLoMoves := by
  intro s r rs rt rd
  refine ⟨gprResult_of_movedFromHiLo rfl, gprResult_of_movedFromHiLo rfl, ?record, fun hquiet => moves_to_hiLo hquiet r,
    ?writes⟩
  case record =>
    simp only [List.forall_mem_cons]
    exact ⟨hazards_of_movedFromHiLo rfl, hazards_of_movedFromHiLo rfl, List.forall_mem_nil _⟩
  case writes =>
    intro p hmem may
    obtain ⟨u, hexec, kept⟩ := hiLoWrites_endsHiLo s rs rt rd p hmem may
    exact kept.completes hexec

end

section
/-!
PROOF. Sys2Proof/Proofs/Branches.lean: jumps and conditional branches outside a delay slot and in one, and the record that a
compare leaves for the branch behind it (45_jump_branch R440 to R474; 70_reset_and_hazards R782; 93_implementation_defined
U18 to U20).
-/

namespace Sys2Proof.Machine

/-! ## Targets and conditions in numbers -/

/-- The displacement of a branch is its offset in words (R446). -/
theorem branchTarget_eq (pc : DWord) (offset : BitVec 16) :
    branchTarget pc offset = pc + 4 + BitVec.ofInt 64 (4 * offset.toInt) := by
  have displacement : (offset ++ 0#2).toInt = 4 * offset.toInt := BitVec.toInt_append_zero
  rw [← displacement]
  rfl

theorem State.ltZero_eq (s : State) (rs : Reg) : s.ltZero rs = decide ((s.reg rs).toInt < 0) :=
  BitVec.msb_eq_toInt

theorem State.not_ltZero_eq (s : State) (rs : Reg) : (!s.ltZero rs) = decide (0 ≤ (s.reg rs).toInt) := by
  rw [State.ltZero_eq, ← decide_not, decide_eq_decide, not_lt]

theorem State.leZero_eq (s : State) (rs : Reg) : s.leZero rs = decide ((s.reg rs).toInt ≤ 0) := by
  have zero : s.reg rs = 0 ↔ (s.reg rs).toInt = 0 := BitVec.toInt_inj.symm
  rw [State.leZero, BitVec.msb_eq_toInt, beq_eq_decide, ← Bool.decide_or, decide_eq_decide, zero, le_iff_lt_or_eq]

theorem State.not_leZero_eq (s : State) (rs : Reg) : (!s.leZero rs) = decide (0 < (s.reg rs).toInt) := by
  rw [State.leZero_eq, ← decide_not, decide_eq_decide, not_le]

/-- The three unused fields of JR as one (R452). -/
theorem append_zero_fields {w : Nat} (x : BitVec w) : x ++ 0#5 ++ 0#5 ++ 0#5 = x ++ 0#15 := by
  rw [BitVec.append_assoc, BitVec.append_assoc]
  rfl

/-! ## The ends of a jump or branch -/

theorem State.frameNone_refl (s : State) : FrameNone s s :=
  ⟨fun _ => rfl, ⟨rfl, rfl⟩, rfl, rfl, ⟨rfl, rfl, rfl⟩, ⟨rfl, rfl⟩, fun _ => rfl, rfl, rfl, rfl, rfl, rfl, rfl⟩

/-- A conditional branch moves the program counter and the record alone; which free value comes next is not seen. -/
theorem frameNone_of_branch {s t : State} {n : Nat} {taken likely : Bool} {offset : BitVec 16}
    (h : ({ s with fresh := n } : State).branch taken likely offset = .next t) : FrameNone s t := by
  rw [State.branch_next h]
  split
  case isTrue => exact s.frameNone_refl
  case isFalse =>
    split
    case isTrue => exact s.frameNone_refl
    case isFalse => exact s.frameNone_refl

theorem State.branch_ends (s : State) (n : Nat) (taken likely : Bool) (offset : BitVec 16) :
    ∃ t, ({ s with fresh := n } : State).branch taken likely offset = .next t ∧
      Branches taken likely (s.pc + 4 + BitVec.ofInt 64 (4 * offset.toInt)) s t ∧ FrameNone s t := by
  obtain ⟨t, ht, hbranches⟩ := State.branch_branches { s with fresh := n } taken likely offset
  rw [branchTarget_eq] at hbranches
  exact ⟨t, ht, hbranches, frameNone_of_branch ht⟩

/-- Where a branch goes is not changed by a register written before it. -/
theorem branches_setReg_iff {s t : State} {taken likely : Bool} {target : DWord} (rd : Reg) (v : DWord) :
    Branches taken likely target (s.setReg rd v) t ↔ Branches taken likely target s t := by
  simp only [Branches, JumpsTo, NotTaken, State.setReg_pc]

/-- The frame of a register write and then an instruction that changes no register. -/
theorem writesGpr_frameGpr_of_frameNone {s t : State} {rd : Reg} {v : DWord} (h : FrameNone (s.setReg rd v) t) :
    WritesGpr rd v s t ∧ FrameGpr s t := by
  obtain ⟨hreg, ⟨hhi, hlo⟩, hfpu, hsystem⟩ := h
  obtain ⟨written, others⟩ := s.setReg_writesGpr rd v
  refine ⟨⟨(hreg rd).trans written, fun q hq => (hreg q).trans (others q hq)⟩, ⟨?_, ?_⟩, ?_, ?_⟩
  · rw [hhi, State.setReg_hi]
  · rw [hlo, State.setReg_lo]
  · rw [hfpu, State.setReg_fpu]
  · simpa [SameSystem, SameLink, SameCaches, SameBytes, SameOutside] using hsystem

/-- A jump that links moves the program counter and writes its register alone. -/
theorem State.link_branchTo_ends (s : State) (rd : Reg) (v target : DWord) :
    JumpsTo target s ((s.setReg rd v).branchTo target) ∧ WritesGpr rd v s ((s.setReg rd v).branchTo target) ∧
      FrameGpr s ((s.setReg rd v).branchTo target) :=
  ⟨⟨congrArg (· + 4) (s.setReg_pc rd v), rfl, rfl⟩, s.setReg_writesGpr rd v, s.setReg_frameGpr rd v⟩

/-! ## Outside a delay slot -/

section Outside
variable {s : State} (hslot : s.inDelaySlot = false)

include hslot

theorem State.outsideSlot_of_outside (r : Result) : s.outsideSlot r = r :=
  if_neg (hslot.trans_ne Bool.false_ne_true)

variable {i : Instr} {offset : BitVec 16} {cond likely : Bool}

theorem ends_of_branchOn (h : exec i s = s.branchOn cond likely offset) :
    ∃ t, exec i s = .next t ∧ Branches cond likely (s.pc + 4 + BitVec.ofInt 64 (4 * offset.toInt)) s t ∧
      FrameNone s t := by
  rw [h, State.branchOn, State.outsideSlot_of_outside hslot]
  exact s.branch_ends s.fresh cond likely offset

theorem ends_of_branchLink (h : exec i s = s.branchLink cond likely offset) :
    ∃ t, exec i s = .next t ∧ Branches cond likely (s.pc + 4 + BitVec.ofInt 64 (4 * offset.toInt)) s t ∧
      WritesGpr 31 (s.pc + 8) s t ∧ FrameGpr s t := by
  let u := s.setReg 31 (s.pc + 8)
  obtain ⟨t, ht, hbranches, hframe⟩ := u.branch_ends u.fresh cond likely offset
  rw [branches_setReg_iff, State.setReg_pc] at hbranches
  rw [State.branchLink, State.outsideSlot_of_outside hslot] at h
  exact ⟨t, h.trans ht, hbranches, writesGpr_frameGpr_of_frameNone hframe⟩

/-- A branch on the FPU condition follows the condition; right behind an instruction that writes it, the free choice decides
(R470, U20). -/
theorem ends_of_branchFpu {sense : Bool} (hcp1 : Cp1Usable s) (hcond : (s.fpu.fcr31.c == sense) = cond)
    (h : exec i s = s.branchFpu sense likely offset) :
    ∃ t taken, exec i s = .next t ∧ (s.hazards.afterCond = false → taken = cond) ∧
      Branches taken likely (s.pc + 4 + BitVec.ofInt 64 (4 * offset.toInt)) s t ∧ FrameNone s t := by
  rw [State.branchFpu, State.needCp1_of_usable hcp1, State.outsideSlot_of_outside hslot, hcond] at h
  split at h
  case isTrue behind =>
    obtain ⟨t, ht, hends⟩ := s.branch_ends (s.fresh + 1) (s.freeBool == sense) likely offset
    exact ⟨t, _, h.trans ht, fun quiet => absurd behind (quiet.trans_ne Bool.false_ne_true), hends⟩
  case isFalse =>
    obtain ⟨t, ht, hends⟩ := s.branch_ends s.fresh cond likely offset
    exact ⟨t, cond, h.trans ht, fun _ => rfl, hends⟩

end Outside

/-! ## In a delay slot -/

/-- The jumps and the branches on registers. -/
def registerBranches (rs rt : Reg) (offset : BitVec 16) (target : BitVec 26) : List Instr :=
  [.j target, .jal target, .jr rs, .jalr rs rt, .beq rs rt offset, .bne rs rt offset, .blez rs offset,
    .bgtz rs offset, .bltz rs offset, .bgez rs offset, .bltzal rs offset, .bgezal rs offset, .beql rs rt offset,
    .bnel rs rt offset, .blezl rs offset, .bgtzl rs offset, .bltzl rs offset, .bgezl rs offset, .bltzall rs offset,
    .bgezall rs offset]

/-- The branches on the FPU condition. -/
def fpuBranches (offset : BitVec 16) : List Instr := [.bc1f offset, .bc1t offset, .bc1fl offset, .bc1tl offset]

theorem exec_eq_outsideSlot (s : State) (rs rt : Reg) (offset : BitVec 16) (target : BitVec 26) :
    ∀ i ∈ registerBranches rs rt offset target, ∃ r, exec i s = s.outsideSlot r := by
  simp only [registerBranches, List.forall_mem_cons]
  exact ⟨⟨_, rfl⟩, ⟨_, rfl⟩, ⟨_, rfl⟩, ⟨_, rfl⟩, ⟨_, rfl⟩, ⟨_, rfl⟩, ⟨_, rfl⟩, ⟨_, rfl⟩, ⟨_, rfl⟩, ⟨_, rfl⟩, ⟨_, rfl⟩,
    ⟨_, rfl⟩, ⟨_, rfl⟩, ⟨_, rfl⟩, ⟨_, rfl⟩, ⟨_, rfl⟩, ⟨_, rfl⟩, ⟨_, rfl⟩, ⟨_, rfl⟩, ⟨_, rfl⟩, List.forall_mem_nil _⟩

theorem exec_eq_needCp1_outsideSlot (s : State) (offset : BitVec 16) :
    ∀ i ∈ fpuBranches offset, ∃ r, exec i s = s.needCp1 (s.outsideSlot r) := by
  simp only [fpuBranches, List.forall_mem_cons]
  exact ⟨⟨_, rfl⟩, ⟨_, rfl⟩, ⟨_, rfl⟩, ⟨_, rfl⟩, List.forall_mem_nil _⟩

theorem exec_eret (s : State) : exec .eret s = s.needCp0 (s.outsideSlot (.next s.returnFromException)) := rfl

theorem State.outsideSlot_of_slot {s : State} (h : s.inDelaySlot = true) (r : Result) :
    s.outsideSlot r = .refused .branchInDelaySlot := if_pos h

/-! ## The record of a compare -/

/-- Invalid Operation traps exactly where its Enable bit says so (48_fpu_state_and_rules R558). -/
theorem fpTrap_causeV : ∀ enables : BitVec 5, fpTrap causeV enables = enables.getLsbD 4 := by decide

theorem fpTrap_zero (enables : BitVec 5) : fpTrap 0 enables = false := by
  simp [fpTrap]

theorem isNan_iff (x : Word) : isNan x = true ↔ fpClass x ∈ [.snan, .qnan] := by
  simp [isNan]

/-- A compare traps on a NaN alone, where Invalid Operation is enabled (R625; 48_fpu_state_and_rules R580). -/
theorem fpTrap_compareCause {cond : BitVec 4} {a b : Word} {enables : BitVec 5}
    (h : enables.getLsbD 4 = true → ∀ x ∈ [a, b], fpClass x ∉ [.snan, .qnan]) :
    fpTrap (compareCause cond a b) enables = false := by
  unfold compareCause
  split
  case isTrue unordered =>
    rw [fpTrap_causeV]
    by_contra enabled
    obtain ⟨ha, hb⟩ := List.forall_mem_cons.1 (h (Bool.eq_true_of_not_eq_false enabled))
    rw [← isNan_iff] at ha
    rw [List.forall_mem_singleton, ← isNan_iff] at hb
    simp [ha, hb] at unordered
  case isFalse => exact fpTrap_zero enables

theorem State.fpCompared_hazards (s : State) (cond : BitVec 4) (a b : Word) :
    (s.fpCompared cond a b).hazards = { agedRecord s with afterCond := true } := by
  rw [← State.agedHazards_eq]
  rfl

/-- A compare that does not trap goes on record for the branch behind it (70_reset_and_hazards R782). -/
theorem hazards_of_fpCompare {i : Instr} {s : State} {cond : BitVec 4} {ft fs : Reg} (hcp1 : Cp1Usable s)
    (hlegal : FpRegsLegal s [ft, fs])
    (hquiet : s.fpu.fcr31.enables.getLsbD 4 = true → ∀ x ∈ [s.fgr fs, s.fgr ft], fpClass x ∉ [.snan, .qnan])
    (h : exec i s = s.fpCompare cond ft fs) :
    ∀ t, exec i s = .next t → t.hazards = { agedRecord s with afterCond := true } := by
  intro t ht
  rw [h, State.fpCompare, State.fpOp_of_legal hcp1 hlegal, State.fpUnlessTrap, fpTrap_compareCause hquiet] at ht
  cases ht
  exact s.fpCompared_hazards cond _ _

theorem exec_eq_fpCompare (s : State) (ft fs : Reg) :
    ∀ i ∈ [Instr.cFS ft fs, .cUnS ft fs, .cEqS ft fs, .cUeqS ft fs, .cOltS ft fs, .cUltS ft fs, .cOleS ft fs,
      .cUleS ft fs, .cSfS ft fs, .cNgleS ft fs, .cSeqS ft fs, .cNglS ft fs, .cLtS ft fs, .cNgeS ft fs, .cLeS ft fs,
      .cNgtS ft fs], ∃ cond, exec i s = s.fpCompare cond ft fs := by
  simp only [List.forall_mem_cons]
  exact ⟨⟨_, rfl⟩, ⟨_, rfl⟩, ⟨_, rfl⟩, ⟨_, rfl⟩, ⟨_, rfl⟩, ⟨_, rfl⟩, ⟨_, rfl⟩, ⟨_, rfl⟩, ⟨_, rfl⟩, ⟨_, rfl⟩, ⟨_, rfl⟩,
    ⟨_, rfl⟩, ⟨_, rfl⟩, ⟨_, rfl⟩, ⟨_, rfl⟩, ⟨_, rfl⟩, List.forall_mem_nil _⟩

end Sys2Proof.Machine

open Sys2Proof Sys2Proof.Machine

/-- Settles O31: outside a delay slot each jump ends in `branchTo`, behind the write of its link register where it has one
(`State.link_branchTo_ends`). -/
theorem jumps : Obligations.Jumps := by
  intro s target rs rd hslot
  have outside := State.outsideSlot_of_outside hslot
  refine ⟨?j, ?jal, ?jr, ?jalr, ?same, rfl, rfl, ?word, rfl⟩
  case j => exact ⟨_, outside _, ⟨rfl, rfl, rfl⟩, s.frameNone_refl⟩
  case jal => exact ⟨_, outside _, s.link_branchTo_ends 31 (s.pc + 8) (jumpTarget s.pc target)⟩
  case jr => exact ⟨_, outside _, ⟨rfl, rfl, rfl⟩, s.frameNone_refl⟩
  case jalr =>
    intro hne
    exact ⟨_, (outside _).trans (if_neg hne), s.link_branchTo_ends rd (s.pc + 8) (s.reg rs)⟩
  case same => exact (outside _).trans (if_pos rfl)
  case word =>
    exact congrArg (· ++ 0b001000#6) (append_zero_fields (0#6 ++ rs))

/-- Settles O32: each form is `branchOn`, `branchLink` or `branchFpu` of its condition (in numbers, `leZero_eq` and its
companions), and each of these ends in `branch` (`State.branch_ends`); a compare that does not trap ends in `fpCompared`. -/
theorem conditionalBranches : Obligations.ConditionalBranches := by
  intro s rs rt offset hslot
  refine ⟨?plain, ?linking, ?fpu, ?record⟩
  case plain =>
    simp only [List.forall_mem_cons, ← State.ltZero_eq, ← State.not_ltZero_eq, ← State.leZero_eq, ← State.not_leZero_eq]
    exact ⟨ends_of_branchOn hslot rfl, ends_of_branchOn hslot rfl, ends_of_branchOn hslot rfl, ends_of_branchOn hslot rfl,
      ends_of_branchOn hslot rfl, ends_of_branchOn hslot rfl, ends_of_branchOn hslot rfl, ends_of_branchOn hslot rfl,
      ends_of_branchOn hslot rfl, ends_of_branchOn hslot rfl, ends_of_branchOn hslot rfl, ends_of_branchOn hslot rfl,
      List.forall_mem_nil _⟩
  case linking =>
    simp only [List.forall_mem_cons, ← State.ltZero_eq, ← State.not_ltZero_eq]
    exact ⟨ends_of_branchLink hslot rfl, ends_of_branchLink hslot rfl, ends_of_branchLink hslot rfl,
      ends_of_branchLink hslot rfl, List.forall_mem_nil _⟩
  case fpu =>
    intro hcp1
    have onFalse := beq_false s.fpu.fcr31.c
    have onTrue := beq_true s.fpu.fcr31.c
    simp only [List.forall_mem_cons]
    exact ⟨ends_of_branchFpu hslot hcp1 onFalse rfl, ends_of_branchFpu hslot hcp1 onTrue rfl,
      ends_of_branchFpu hslot hcp1 onFalse rfl, ends_of_branchFpu hslot hcp1 onTrue rfl, List.forall_mem_nil _⟩
  case record =>
    intro hcp1 hlegal hquiet i hmem
    obtain ⟨cond, hexec⟩ := exec_eq_fpCompare s rt rs i hmem
    exact hazards_of_fpCompare hcp1 hlegal hquiet hexec

/-- Settles O33: every form asks whether it stands in a delay slot, BC1x and ERET behind the usability of their
coprocessor. -/
theorem branchStops : Obligations.BranchStops := by
  intro s rs rt offset target hslot i hmem hcp1 hcp0
  change i ∈ registerBranches rs rt offset target ++ fpuBranches offset ++ [Instr.eret] at hmem
  rw [List.mem_append, List.mem_append, List.mem_singleton] at hmem
  rcases hmem with (hregister | hfpu) | rfl
  · obtain ⟨r, hexec⟩ := exec_eq_outsideSlot s rs rt offset target i hregister
    rw [hexec, State.outsideSlot_of_slot hslot]
  · obtain ⟨r, hexec⟩ := exec_eq_needCp1_outsideSlot s offset i hfpu
    rw [hexec, State.needCp1_of_usable (hcp1 hfpu), State.outsideSlot_of_slot hslot]
  · rw [exec_eret, State.needCp0_of_usable (hcp0 rfl), State.outsideSlot_of_slot hslot]

end

section
/-!
PROOF. Sys2Proof/Proofs/UserMode.lean: what a User-mode instruction without coprocessor 0 does to the registers of
coprocessor 0: nothing, but for the exception that ends it (47_coprocessor_cp0 R511; 60_exceptions R670, R685).
-/

namespace Sys2Proof.Machine

/-! ## The registers of a User-mode program -/

/-- Coprocessor 0 holds `c`, in User mode with CU0 = 0. -/
structure InUserMode (c : Cp0) (s : State) : Prop where
  cp0 : s.cp0 = c
  user : c.status.userMode = true
  cu0 : c.status.cu.getLsbD 0 = false

/-- Coprocessor 0 holds `c`, or an exception has left User mode and changed only what an exception writes. -/
def KeepsUserCp0 (c : Cp0) (t : State) : Prop :=
  t.cp0 = c ∨
    (t.userMode = false ∧
      (t.cp0.status = { c.status with exl := true } ∨ t.cp0.status = { c.status with erl := true }) ∧
      t.cp0.ibase = c.ibase ∧ t.cp0.ibound = c.ibound ∧ t.cp0.dbase = c.dbase ∧
      t.cp0.dbound = c.dbound ∧ t.cp0.count = c.count ∧ t.cp0.compare = c.compare ∧
      t.cp0.calg = c.calg ∧ t.cp0.iwatch = c.iwatch ∧ t.cp0.dwatch = c.dwatch ∧
      t.cp0.ecc = c.ecc ∧ t.cp0.tagLo = c.tagLo)

/-- A memory operation of a User-mode program: one that goes on is still in User mode, one that ends took an exception. -/
def Access.KeepsUserMode {α : Type} (c : Cp0) : Access α → Prop
  | .ok _ s => InUserMode c s
  | .trap t => KeepsUserCp0 c t
  | .fault _ => True
  | .refused _ => True

theorem Access.KeepsUserMode.bind {α β : Type} {c : Cp0} {x : Access α} {f : α → State → Access β}
    (hx : x.KeepsUserMode c) (hf : ∀ v s, InUserMode c s → (f v s).KeepsUserMode c) : (x.bind f).KeepsUserMode c := by
  cases x with
  | ok v s => exact hf v s hx
  | trap s => exact hx
  | fault r => trivial
  | refused r => trivial

theorem Access.KeepsUserMode.finish {α : Type} {c : Cp0} {x : Access α} {f : α → State → Result}
    (hx : x.KeepsUserMode c) (hf : ∀ v s, InUserMode c s → AllNext (KeepsUserCp0 c) (f v s)) :
    AllNext (KeepsUserCp0 c) (x.finish f) := by
  cases x with
  | ok v s => exact hf v s hx
  | trap s => exact hx
  | fault r => trivial
  | refused r => trivial

theorem Access.KeepsUserMode.ite {α : Type} {c : Cp0} {p : Prop} [Decidable p] {x y : Access α}
    (hx : x.KeepsUserMode c) (hy : y.KeepsUserMode c) : (if p then x else y).KeepsUserMode c := by
  split
  · exact hx
  · exact hy

/-! ## Updates and exceptions -/

namespace InUserMode

section Updates
variable {c : Cp0} {s : State} (h : InUserMode c s)
include h

theorem of_cp0 {t : State} (ht : t.cp0 = s.cp0) : InUserMode c t := ⟨ht.trans h.cp0, h.user, h.cu0⟩

theorem keeps {t : State} (ht : t.cp0 = s.cp0) : KeepsUserCp0 c t := .inl (ht.trans h.cp0)

theorem ite_drawn (p : Prop) [Decidable p] : InUserMode c (if p then s.drawn else s) := by
  split
  · exact h.of_cp0 rfl
  · exact h

theorem setReg (r : Reg) (v : DWord) : InUserMode c (s.setReg r v) := h.of_cp0 (s.setReg_cp0 r v)

theorem beforeHiLo : InUserMode c s.beforeHiLo := by
  unfold State.beforeHiLo
  split
  · exact (h.setReg _ _).of_cp0 rfl
  · exact h

/-- General exception entry sets EXL, which ends User mode (R670). -/
theorem raised (e : Exc) (bad : Option DWord) : KeepsUserCp0 c (s.raised e bad) := by
  obtain ⟨rfl, -, -⟩ := h
  exact .inr ⟨by simp [State.raised, State.takeException, State.userMode, Status.userMode], .inl rfl, rfl, rfl, rfl, rfl,
    rfl, rfl, rfl, rfl, rfl, rfl, rfl⟩

/-- Cache Error entry sets ERL, which ends User mode (R685). -/
theorem takeCacheError (p : ParityError) : KeepsUserCp0 c (s.takeCacheError p) := by
  obtain ⟨rfl, -, -⟩ := h
  exact .inr ⟨by simp [State.takeCacheError, State.userMode, Status.userMode], .inr rfl, rfl, rfl, rfl, rfl, rfl, rfl,
    rfl, rfl, rfl, rfl, rfl⟩

theorem trap (e : Exc) : AllNext (KeepsUserCp0 c) (s.trap e) := h.raised e none

theorem done : AllNext (KeepsUserCp0 c) s.done := h.keeps rfl

theorem doneMem : AllNext (KeepsUserCp0 c) s.doneMem := h.keeps rfl

end Updates

/-! ## The tests that come first -/

section Tests
variable {c : Cp0} {s : State} (h : InUserMode c s) {r : Result} (hr : AllNext (KeepsUserCp0 c) r)
include h

/-- Coprocessor 0 is not usable, so nothing behind its usability test executes (R511). -/
theorem needCp0 (r : Result) : AllNext (KeepsUserCp0 c) (s.needCp0 r) := by
  have unusable : s.cp0.status.cp0Usable = false := by
    rw [h.cp0, Status.cp0Usable, h.user, h.cu0]
    rfl
  rw [State.needCp0, unusable]
  exact h.trap _

theorem cop2 : AllNext (KeepsUserCp0 c) s.cop2 := AllNext.ite trivial (h.trap _)

include hr

theorem needCp1 : AllNext (KeepsUserCp0 c) (s.needCp1 r) := hr.ite (h.trap _)

theorem need64 : AllNext (KeepsUserCp0 c) (s.need64 r) := hr.ite (h.trap _)

end Tests

/-! ## Arithmetic and branches -/

section Arithmetic
variable {c : Cp0} {s : State} (h : InUserMode c s)
include h

theorem result (rd : Reg) (v : DWord) : AllNext (KeepsUserCp0 c) (s.result rd v) := (h.setReg rd v).done

theorem resultFree (rd : Reg) : AllNext (KeepsUserCp0 c) (s.resultFree rd) := ((h.setReg rd _).of_cp0 rfl).done

theorem result32 (valid : Bool) (rd : Reg) (v : Word) : AllNext (KeepsUserCp0 c) (s.result32 valid rd v) :=
  (h.result rd _).ite (h.resultFree rd)

theorem arith32 (valid : Bool) (rd : Reg) (x : Int) : AllNext (KeepsUserCp0 c) (s.arith32 valid rd x) :=
  have hd : InUserMode c s.drawn := h.of_cp0 rfl
  ((h.trap _).ite (h.result rd _)).ite ((hd.trap _).ite (hd.resultFree rd))

theorem arith64 (rd : Reg) (x : Int) : AllNext (KeepsUserCp0 c) (s.arith64 rd x) := (h.trap _).ite (h.result rd _)

theorem branch (taken likely : Bool) (offset : BitVec 16) : AllNext (KeepsUserCp0 c) (s.branch taken likely offset) :=
  AllNext.ite (h.keeps rfl) (AllNext.ite (h.keeps rfl) (h.keeps rfl))

theorem branchOn (cond likely : Bool) (offset : BitVec 16) :
    AllNext (KeepsUserCp0 c) (s.branchOn cond likely offset) := (h.branch _ _ _).outsideSlot s

theorem branchLink (cond likely : Bool) (offset : BitVec 16) :
    AllNext (KeepsUserCp0 c) (s.branchLink cond likely offset) := ((h.setReg _ _).branch _ _ _).outsideSlot s

theorem branchFpu (sense likely : Bool) (offset : BitVec 16) :
    AllNext (KeepsUserCp0 c) (s.branchFpu sense likely offset) :=
  have hd : InUserMode c s.drawn := h.of_cp0 rfl
  h.needCp1 (AllNext.outsideSlot s ((hd.branch _ _ _).ite (h.branch _ _ _)))

theorem trapIf (cond : Bool) : AllNext (KeepsUserCp0 c) (s.trapIf cond) := (h.trap _).ite h.done

/-! ## HI and LO -/

theorem writeHiLo (known : Bool) (hi lo : DWord) : AllNext (KeepsUserCp0 c) (s.writeHiLo known hi lo) := by
  refine h.keeps ?_
  show (if known = true then (s.setHi hi).setLo lo else s.freeHiLo).cp0 = s.cp0
  split <;> rfl

theorem mul (rs rt rd : Reg) : AllNext (KeepsUserCp0 c) (execMul rs rt rd s) := by
  refine h.beforeHiLo.keeps ?_
  show (if s.beforeHiLo.bothSext32 rs rt = true then _ else _ : State).cp0 = s.beforeHiLo.cp0
  split
  · exact State.setReg_cp0 _ _ _
  · exact State.setReg_cp0 _ _ _

theorem mfHiLo (rd : Reg) (v : DWord) (z : Hazards) :
    AllNext (KeepsUserCp0 c) (.next { (s.setReg rd v).advance with hazards := z }) :=
  (h.setReg rd v).keeps rfl

theorem mthi (rs : Reg) : AllNext (KeepsUserCp0 c) (execMthi rs s) := by
  refine h.beforeHiLo.keeps ?_
  show (if s.beforeHiLo.hazards.hiloPair = true then _ else _ : State).cp0 = s.beforeHiLo.cp0
  split <;> rfl

theorem mtlo (rs : Reg) : AllNext (KeepsUserCp0 c) (execMtlo rs s) := by
  refine h.beforeHiLo.keeps ?_
  show (if s.beforeHiLo.hazards.hiloPair = true then _ else _ : State).cp0 = s.beforeHiLo.cp0
  split <;> rfl

/-! ## Floating point -/

theorem fpRaise (x : FpCause) : AllNext (KeepsUserCp0 c) (s.fpRaise x) :=
  have hw : InUserMode c (s.setFcr31 { s.fpu.fcr31 with cause := x }) := h.of_cp0 rfl
  hw.trap _

theorem fpUnlessTrap (x : FpCause) {r : Result} (hr : AllNext (KeepsUserCp0 c) r) :
    AllNext (KeepsUserCp0 c) (s.fpUnlessTrap x r) := (h.fpRaise x).ite hr

theorem fpStore (fd : Reg) (x : FpResult) : AllNext (KeepsUserCp0 c) (s.fpStore fd x) := by
  cases x with
  | value x v => exact h.fpUnlessTrap x (h.keeps rfl)
  | traps x => exact h.fpRaise x

theorem fpOp (fs : List Reg) {r : Result} (hr : AllNext (KeepsUserCp0 c) r) :
    AllNext (KeepsUserCp0 c) (s.fpOp fs r) := h.needCp1 ((h.fpRaise causeE).ite hr)

theorem fpUnimplemented : AllNext (KeepsUserCp0 c) s.fpUnimplemented := h.needCp1 (h.fpRaise causeE)

theorem fpCompare (cond : BitVec 4) (ft fs : Reg) : AllNext (KeepsUserCp0 c) (s.fpCompare cond ft fs) :=
  h.fpOp _ (h.fpUnlessTrap _ (h.keeps rfl))

theorem cfc1 (rt fs : Reg) : AllNext (KeepsUserCp0 c) (execCfc1 rt fs s) :=
  h.needCp1 ((h.setReg _ _).done.ite ((h.setReg _ _).done.ite ((h.setReg _ _).of_cp0 rfl).done))

theorem ctc1 (rt fs : Reg) : AllNext (KeepsUserCp0 c) (execCtc1 rt fs s) :=
  have hw (new : Fcr31) : InUserMode c (s.setFcr31 new) := h.of_cp0 rfl
  h.needCp1 (AllNext.ite (AllNext.ite ((hw _).raised .fpe none) (h.keeps rfl)) trivial)

/-! ## Data accesses -/

theorem dataAddress (va : DWord) (align : Nat) (store : Bool) : (s.dataAddress va align store).KeepsUserMode c := by
  unfold State.dataAddress
  split
  · trivial
  · split
    · exact h.raised _ _
    · exact h.raised _ _
    · exact Access.KeepsUserMode.ite (h.raised _ _) h

theorem dRefillTried (pa : Word) (xs : List Nat) : InUserMode c (s.dRefillTried pa xs) := by
  unfold State.dRefillTried
  split
  · exact h.of_cp0 (s.dRefillFailed_cp0 pa)
  · exact h.of_cp0 (s.dRefill_cp0 pa)

theorem dataCacheError (p : ParityError) (pa : Word) (alg : BitVec 3) (xs : List Nat) (store : Bool) :
    (s.dataCacheError p pa alg xs store).KeepsUserMode c := by
  unfold State.dataCacheError
  split
  · trivial
  · refine InUserMode.takeCacheError (s := State.aged _) ?_ p
    refine InUserMode.of_cp0 ?_ (State.aged_cp0 _)
    split
    · exact h.of_cp0 rfl
    · split
      · exact h.dRefillTried pa xs
      · exact h

theorem ite_postponeDwatch (noticed : Bool) : InUserMode c (if noticed = true then s.postponeDwatch else s) := by
  split
  · exact h.of_cp0 rfl
  · exact h

theorem dataRefilled (pa : Word) (alg : BitVec 3) (xs : List Nat) (store noticed : Bool) :
    (s.dataRefilled pa alg xs store noticed).KeepsUserMode c := by
  unfold State.dataRefilled
  refine Access.KeepsUserMode.ite (h.raised _ _) ?_
  split
  · trivial
  · have ht := h.ite_postponeDwatch noticed
    generalize (if noticed = true then s.postponeDwatch else s) = t at ht ⊢
    have hread : InUserMode c t.singleRead := ht.of_cp0 rfl
    have hfailed : InUserMode c (t.dRefillFailed pa) := ht.of_cp0 (t.dRefillFailed_cp0 pa)
    have hrefilled : InUserMode c (t.dRefill pa) := ht.of_cp0 (t.dRefill_cp0 pa)
    refine Access.KeepsUserMode.ite (Access.KeepsUserMode.ite ht ?_) (Access.KeepsUserMode.ite ?_ ht)
    · exact Access.KeepsUserMode.ite (hread.raised _ _) ht
    · exact Access.KeepsUserMode.ite (hfailed.raised _ _) hrefilled

theorem dataReady (va : DWord) (pa : Word) (alg : BitVec 3) (xs : List Nat) (store : Bool) :
    (s.dataReady va pa alg xs store).KeepsUserMode c := by
  unfold State.dataReady
  have ht := h.ite_drawn (s.dwatchUnsure va store = true)
  generalize (if s.dwatchUnsure va store = true then s.drawn else s) = t at ht ⊢
  refine Access.KeepsUserMode.ite trivial (Access.KeepsUserMode.ite trivial ?_)
  split
  · exact ht.dataCacheError _ _ _ _ _
  · exact ht.dataRefilled _ _ _ _ _

theorem afterRead (alg : BitVec 3) : InUserMode c (s.afterRead alg) := by
  unfold State.afterRead
  split
  · exact h.of_cp0 rfl
  · exact h

theorem load (sp : Span) : (s.load sp).KeepsUserMode c :=
  (h.dataAddress _ _ _).bind fun _ _ h1 => (h1.dataReady _ _ _ _ _).bind fun _ _ h2 => h2.afterRead _

theorem storeReady (sp : Span) : (s.storeReady sp).KeepsUserMode c :=
  (h.dataAddress _ _ _).bind fun _ _ h1 => (h1.dataReady _ _ _ _ _).bind fun _ _ h2 =>
    show Access.KeepsUserMode c (.ok _ _) from h2

theorem store (sp : Span) (bs : List Byte) : (s.store sp bs).KeepsUserMode c :=
  (h.storeReady sp).bind fun _ u h1 => Access.KeepsUserMode.ite trivial (h1.of_cp0 (u.writeStore_cp0 _ _ _ _))

/-! ## Loads and stores -/

theorem loadAligned (n : Nat) (signed : Bool) (base rt : Reg) (offset : BitVec 16) :
    AllNext (KeepsUserCp0 c) (s.loadAligned n signed base rt offset) :=
  (h.load _).finish fun _ _ h1 => (h1.setReg _ _).doneMem

theorem storeAligned (n v : Nat) (base : Reg) (offset : BitVec 16) :
    AllNext (KeepsUserCp0 c) (s.storeAligned n v base offset) := (h.store _ _).finish fun _ _ h1 => h1.doneMem

theorem loadWordPart (left : Bool) (base rt : Reg) (offset : BitVec 16) :
    AllNext (KeepsUserCp0 c) (s.loadWordPart left base rt offset) :=
  (h.load _).finish fun _ _ h1 => (h1.setReg _ _).doneMem

theorem loadDoublePart (left : Bool) (base rt : Reg) (offset : BitVec 16) :
    AllNext (KeepsUserCp0 c) (s.loadDoublePart left base rt offset) :=
  (h.load _).finish fun _ _ h1 => (h1.setReg _ _).doneMem

theorem storePart (size : Nat) (left : Bool) (v : Nat) (base : Reg) (offset : BitVec 16) :
    AllNext (KeepsUserCp0 c) (s.storePart size left v base offset) := (h.store _ _).finish fun _ _ h1 => h1.doneMem

theorem loadLinked (n : Nat) (base rt : Reg) (offset : BitVec 16) :
    AllNext (KeepsUserCp0 c) (s.loadLinked n base rt offset) :=
  (h.load _).finish fun _ _ h1 => AllNext.ite trivial ((h1.setReg rt _).keeps rfl)

theorem conditionalFails (va : DWord) : (s.conditionalFails va).KeepsUserMode c := by
  unfold State.conditionalFails
  have ht := h.ite_drawn (s.dwatchUnsure va true = true)
  generalize (if s.dwatchUnsure va true = true then s.drawn else s) = t at ht ⊢
  have postponed : InUserMode c t.postponeDwatch := ht.of_cp0 rfl
  exact Access.KeepsUserMode.ite (Access.KeepsUserMode.ite (ht.raised _ _) postponed) ht

theorem storeConditional (n v : Nat) (base rt : Reg) (offset : BitVec 16) :
    AllNext (KeepsUserCp0 c) (s.storeConditional n v base rt offset) :=
  (h.dataAddress _ _ _).finish fun _ _ h1 =>
    AllNext.ite ((h1.conditionalFails _).finish fun _ _ _ => trivial)
      (AllNext.ite ((h1.store _ _).finish fun _ _ h2 => (h2.setReg _ _).doneMem)
        ((h1.conditionalFails _).finish fun _ _ h2 => (h2.setReg _ _).doneMem))

theorem lwc1 (base ft : Reg) (offset : BitVec 16) : AllNext (KeepsUserCp0 c) (execLwc1 base ft offset s) :=
  h.needCp1 ((h.load _).finish fun _ _ h1 => InUserMode.doneMem (h1.of_cp0 rfl))

/-! ## Every instruction -/

theorem exec (i : Instr) : AllNext (KeepsUserCp0 c) (exec i s) := by
  cases i with
  | lb | lbu | lh | lhu | lw => exact h.loadAligned _ _ _ _ _
  | lwu | ld => exact h.need64 (h.loadAligned _ _ _ _ _)
  | lwl | lwr => exact h.loadWordPart _ _ _ _
  | ldl | ldr => exact h.need64 (h.loadDoublePart _ _ _ _)
  | sb | sh | sw => exact h.storeAligned _ _ _ _
  | sd => exact h.need64 (h.storeAligned _ _ _ _)
  | swl | swr => exact h.storePart _ _ _ _ _
  | sdl | sdr => exact h.need64 (h.storePart _ _ _ _ _)
  | ll => exact h.loadLinked _ _ _ _
  | lld => exact h.need64 (h.loadLinked _ _ _ _)
  | sc => exact h.storeConditional _ _ _ _ _
  | scd => exact h.need64 (h.storeConditional _ _ _ _ _)
  | lwc1 => exact h.lwc1 _ _ _
  | swc1 => exact h.needCp1 (h.storeAligned _ _ _ _)
  | cache | mfc0 | dmfc0 | mtc0 | dmtc0 | eret | wait | tlbr | tlbwi | tlbwr | tlbp => exact h.needCp0 _
  | lwc2 | ldc2 | swc2 | sdc2 | cop2 => exact h.cop2
  | addi | add | sub => exact h.arith32 _ _ _
  | addiu | addu | subu | sll | srl | sra | sllv | srlv | srav => exact h.result32 _ _ _
  | slti | sltiu | andi | ori | xori | lui | and | or | xor | nor | slt | sltu => exact h.result _ _
  | daddi | dadd | dsub => exact h.need64 (h.arith64 _ _)
  | daddiu | daddu | dsubu | dsll | dsrl | dsra | dsll32 | dsrl32 | dsra32 | dsllv | dsrlv | dsrav =>
    exact h.need64 (h.result _ _)
  | mult | multu | div | divu | mad | madu => exact h.beforeHiLo.writeHiLo _ _ _
  | dmult | dmultu | ddiv | ddivu => exact h.need64 (h.beforeHiLo.writeHiLo _ _ _)
  | mul => exact h.mul _ _ _
  | mfhi | mflo => exact h.mfHiLo _ _ _
  | mthi => exact h.mthi _
  | mtlo => exact h.mtlo _
  | j | jr => exact AllNext.outsideSlot s (h.keeps rfl)
  | jal => exact AllNext.outsideSlot s ((h.setReg _ _).keeps rfl)
  | jalr => exact AllNext.outsideSlot s (AllNext.ite trivial ((h.setReg _ _).keeps rfl))
  | beq | bne | beql | bnel | blez | bgtz | blezl | bgtzl | bltz | bgez | bltzl | bgezl => exact h.branchOn _ _ _
  | bltzal | bgezal | bltzall | bgezall => exact h.branchLink _ _ _
  | bc1f | bc1t | bc1fl | bc1tl => exact h.branchFpu _ _ _
  | syscall | break_ | cop3 => exact h.trap _
  | sync => exact h.done
  | tge | tgeu | tlt | tltu | teq | tne | tgei | tgeiu | tlti | tltiu | teqi | tnei => exact h.trapIf _
  | addS | subS | mulS | divS | sqrtS | absS | negS | movS | cvtSW | roundWS | truncWS | ceilWS | floorWS | cvtWS =>
    exact h.fpOp _ (h.fpStore _ _)
  | ldc1 | sdc1 | roundLS | truncLS | ceilLS | floorLS | cvtDS | cvtLS | cop1Other => exact h.fpUnimplemented
  | cFS | cUnS | cEqS | cUeqS | cOltS | cUltS | cOleS | cUleS | cSfS | cNgleS | cSeqS | cNglS | cLtS | cNgeS | cLeS
  | cNgtS => exact h.fpCompare _ _ _
  | mfc1 => exact h.needCp1 (h.setReg _ _).done
  | mtc1 => exact h.needCp1 (InUserMode.done (h.of_cp0 rfl))
  | dmfc1 | dmtc1 => exact h.needCp1 (h.need64 (h.fpRaise _))
  | cfc1 => exact h.cfc1 _ _
  | ctc1 => exact h.ctc1 _ _

end Arithmetic

end InUserMode

end Sys2Proof.Machine

open Sys2Proof Sys2Proof.Machine

/-- Settles O11: the usability test of coprocessor 0 stops every instruction that writes its registers; the others leave them
alone or end in an exception, which leaves User mode. -/
theorem userModeKeepsCp0 : Obligations.UserModeKeepsCp0 := by
  intro s t i huser hcu0 hexec
  have h : InUserMode s.cp0 s := ⟨rfl, huser, hcu0⟩
  exact (h.exec i).next hexec

end

section
/-!
PROOF. Sys2Proof/Proofs/System.lean: the traps, the system instructions, exception entry and the return from it
(46_trap_special R480 to R506; 60_exceptions R670 to R685; 11_cp0_registers R111).
-/

namespace Sys2Proof.Machine

/-! ## Traps -/

/-- A conditional trap: the Trap exception, or nothing (R483, R491). -/
theorem trapResult_or_noResult_of_trapIf {i : Instr} {s : State} {cond holds : Bool} (hcond : cond = holds)
    (h : exec i s = s.trapIf cond) : if holds then TrapResult i 13 0 none s else NoResult i s := by
  subst hcond
  cases cond with
  | true => exact trapResult_of_trap (n := s.fresh) (e := .tr) rfl h
  | false => exact ⟨s.advance, h, s.frameNone_refl, s.advance_advanced⟩

theorem sle_eq_decide (x y : DWord) : x.sle y = decide (x.toInt ≤ y.toInt) := rfl

theorem slt_eq_decide (x y : DWord) : x.slt y = decide (x.toInt < y.toInt) := rfl

theorem ule_eq_decide (x y : DWord) : x.ule y = decide (x.toNat ≤ y.toNat) := rfl

theorem ult_eq_decide (x y : DWord) : x.ult y = decide (x.toNat < y.toNat) := rfl

theorem beq_eq_decide_toInt (x y : DWord) : (x == y) = decide (x.toInt = y.toInt) := by
  rw [Bool.eq_iff_iff, beq_iff_eq, decide_eq_true_iff, BitVec.toInt_inj]

theorem bne_eq_decide_toInt (x y : DWord) : (x != y) = decide (x.toInt ≠ y.toInt) := by
  rw [bne, beq_eq_decide_toInt, decide_not]

/-! ## SYNC and WAIT -/

theorem sync_noResult (s : State) : NoResult .sync s := ⟨s.advance, rfl, s.frameNone_refl, s.advance_advanced⟩

/-- With ExtRqst* not asserted and no write on record the bus is idle for certain (R505; log 42). -/
theorem State.busIdle_of_empty {s : State} (hext : s.events.extRqst = false) (hwrites : s.bus.writes = []) :
    s.busIdle = true := by simp [State.busIdle, hext, hwrites]

theorem State.extRqst_of_busIdle {s : State} (h : s.busIdle = true) : s.events.extRqst = false := by
  simpa using (Bool.and_eq_true_iff.1 h).1

theorem execWait_of_usable {s : State} (h : Cp0Usable s) :
    exec .wait s = if s.busIdle then .next { s.drawn.drained.advance with standby := true } else s.drawn.done :=
  State.needCp0_of_usable h _

/-! ## Returning from an exception -/

theorem exec_eret_of_usable {s : State} (h : Cp0Usable s) (hslot : s.inDelaySlot = false) :
    exec .eret s = .next s.returnFromException := by
  rw [exec_eret, State.needCp0_of_usable h, State.outsideSlot_of_outside hslot]

/-- The handler of an exception runs in Kernel mode, where coprocessor 0 is usable (10_state R60; 47_coprocessor_cp0 R511). -/
theorem State.raised_cp0Usable (s : State) (e : Exc) (bad : Option DWord) : Cp0Usable (s.raised e bad) :=
  .inl (by simp [State.raised, State.takeException, State.userMode, Status.userMode])

/-- Behind an exception taken with EXL = ERL = 0 ERET finds the restart address in EPC. -/
theorem State.raised_returnFromException_pc {s : State} (hexl : s.cp0.status.exl = false)
    (herl : s.cp0.status.erl = false) (e : Exc) (bad : Option DWord) :
    (s.raised e bad).returnFromException.pc = s.restartPc := by
  have hpc : (s.raised e bad).returnFromException.pc =
      if s.cp0.status.erl then s.cp0.errorEpc else if s.cp0.status.exl then s.cp0.epc else s.restartPc := rfl
  rw [hpc, herl, hexl]
  rfl

theorem Status.clear_exl {t : Status} (h : t.exl = false) : { t with exl := false } = t := by
  cases t
  simp_all

theorem State.raised_returnFromException_status {s : State} (hexl : s.cp0.status.exl = false)
    (herl : s.cp0.status.erl = false) (e : Exc) (bad : Option DWord) :
    (s.raised e bad).returnFromException.cp0.status = s.cp0.status := by
  have hstatus : (s.raised e bad).returnFromException.cp0.status =
      if s.cp0.status.erl then { s.cp0.status with erl := false, exl := true }
      else { s.cp0.status with exl := false } := rfl
  rw [hstatus, herl]
  exact Status.clear_exl hexl

theorem Exc.isInt_of_ne {e : Exc} (h : e ≠ .int) : e.isInt = false := by
  cases e with
  | int => exact absurd rfl h
  | _ => rfl

end Sys2Proof.Machine

open Sys2Proof Sys2Proof.Machine

/-- Settles O34: each trap compares as its name says; its word is its encoding. -/
theorem traps : Obligations.Traps := by
  intro s rs rt code imm a b i ua ub ui ha hb hi hua hub hui
  subst ha hb hua hub hui
  rw [← sextImm_toInt] at hi
  subst hi
  refine ⟨?_, ?_, ?_⟩
  · simp only [List.forall_mem_cons]
    exact ⟨trapResult_or_noResult_of_trapIf (sle_eq_decide _ _) rfl, trapResult_or_noResult_of_trapIf (ule_eq_decide _ _) rfl,
      trapResult_or_noResult_of_trapIf (slt_eq_decide _ _) rfl, trapResult_or_noResult_of_trapIf (ult_eq_decide _ _) rfl,
      trapResult_or_noResult_of_trapIf (beq_eq_decide_toInt _ _) rfl,
      trapResult_or_noResult_of_trapIf (bne_eq_decide_toInt _ _) rfl,
      trapResult_or_noResult_of_trapIf (sle_eq_decide _ _) rfl, trapResult_or_noResult_of_trapIf (ule_eq_decide _ _) rfl,
      trapResult_or_noResult_of_trapIf (slt_eq_decide _ _) rfl, trapResult_or_noResult_of_trapIf (ult_eq_decide _ _) rfl,
      trapResult_or_noResult_of_trapIf (beq_eq_decide_toInt _ _) rfl,
      trapResult_or_noResult_of_trapIf (bne_eq_decide_toInt _ _) rfl, List.forall_mem_nil _⟩
  · simp only [List.forall_mem_cons]
    exact ⟨rfl, rfl, rfl, rfl, rfl, rfl, List.forall_mem_nil _⟩
  · simp only [List.forall_mem_cons]
    exact ⟨rfl, rfl, rfl, rfl, rfl, rfl, List.forall_mem_nil _⟩

/-- Settles O35: three exceptions, an instruction without effect, and WAIT by whether the bus is idle. -/
theorem systemInstructions : Obligations.SystemInstructions := by
  intro s code cofun
  refine ⟨trapResult_of_trap (n := s.fresh) (e := .sys) rfl rfl, trapResult_of_trap (n := s.fresh) (e := .bp) rfl rfl,
    trapResult_of_trap (n := s.fresh) (e := .ri) rfl rfl, sync_noResult s, fun husable => ?_⟩
  rw [execWait_of_usable husable]
  by_cases hidle : s.busIdle = true
  · rw [if_pos hidle]
    exact ⟨_, rfl, .inr ⟨rfl, State.extRqst_of_busIdle hidle, rfl⟩, fun _ _ => rfl, fun _ => rfl, ⟨rfl, rfl⟩, rfl, rfl,
      ⟨rfl, rfl, rfl⟩, ⟨rfl, rfl⟩, fun _ => rfl, rfl, rfl, rfl, rfl, rfl, ⟨rfl, rfl, rfl⟩⟩
  · rw [if_neg hidle]
    exact ⟨_, rfl, .inl rfl, fun hext hwrites => absurd (State.busIdle_of_empty hext hwrites) hidle, fun _ => rfl,
      ⟨rfl, rfl⟩, rfl, rfl, ⟨rfl, rfl, rfl⟩, ⟨rfl, rfl⟩, fun _ => rfl, rfl, rfl, rfl, rfl, rfl, ⟨rfl, rfl, rfl⟩⟩

/-- Settles O18: what `State.raised` writes. -/
theorem exceptionEntry : Obligations.ExceptionEntry :=
  fun s _ bad he => s.raised_exceptionTaken (Exc.isInt_of_ne he) bad

/-- Settles O19: ERET by ERL; behind an exception it undoes what the entry did to EXL and the program counter. -/
theorem eretReturns : Obligations.EretReturns := by
  refine ⟨fun s husable hslot => ?_, fun s e bad hexl herl => ?_⟩
  · refine ⟨_, exec_eret_of_usable husable hslot, ?_, rfl, rfl, rfl, rfl, rfl, fun _ => rfl, ⟨rfl, rfl⟩, rfl, ⟨rfl, rfl⟩,
      fun _ => rfl, rfl, rfl, rfl, rfl, rfl, rfl⟩
    cases herl : s.cp0.status.erl <;> simp [State.returnFromException, herl]
  · exact ⟨_, exec_eret_of_usable (s.raised_cp0Usable e bad) rfl, State.raised_returnFromException_pc hexl herl e bad,
      State.raised_returnFromException_status hexl herl e bad, rfl⟩

/-- Settles O20: Cache Error entry writes ErrorEPC, CacheErr and ERL alone. -/
theorem cacheErrorEntry : Obligations.CacheErrorEntry := fun s p =>
  ⟨(SameOuter.refl s).cacheErrorTaken rfl p, ⟨rfl, rfl, rfl⟩, ⟨rfl, rfl⟩, fun _ => rfl⟩

end

section
/-!
PROOF. Sys2Proof/Proofs/CoprocessorUnusable.lean: the usability test that comes before anything else of a coprocessor's word
(30_encoding R259; 47_coprocessor_cp0 R511 to R513; 60_exceptions R698), and the example words of the instruction pages.
-/

namespace Sys2Proof.Machine

/-! ## Words by their major opcode -/

/-- What a decoder's answer does: the instruction, or what an undefined word does. -/
def State.execDecoded (s : State) : Except DecodeError Instr → Result
  | .ok i => exec i s
  | .error e => s.execUndefined e

theorem State.execWord_eq (s : State) (w : Word) : s.execWord w = s.execDecoded (decode w) := by
  unfold State.execWord
  cases decode w with
  | ok i => rfl
  | error e => rfl

theorem decodeCop0Co_asks (s : State) (w : Word) : ∃ r, s.execDecoded (decodeCop0Co w) = s.needCp0 r := by
  unfold decodeCop0Co
  split <;> exact ⟨_, rfl⟩

/-- Whatever a COP0 word is, its meaning begins with the test of coprocessor 0 (R511). -/
theorem decodeCop0_asks (s : State) (w : Word) : ∃ r, s.execDecoded (decodeCop0 w) = s.needCp0 r := by
  unfold decodeCop0
  split
  case h_5 =>
    split
    · exact decodeCop0Co_asks s w
    · exact ⟨_, rfl⟩
  all_goals exact ⟨_, rfl⟩

theorem decodeBc1_asks (s : State) (w : Word) : ∃ r, s.execDecoded (decodeBc1 w) = s.needCp1 r := by
  unfold decodeBc1
  split <;> exact ⟨_, rfl⟩

theorem decodeCop1S_asks (s : State) (w : Word) : ∃ r, s.execDecoded (decodeCop1S w) = s.needCp1 r := by
  unfold decodeCop1S
  split <;> exact ⟨_, rfl⟩

/-- Whatever a COP1 word is, its meaning begins with the test of coprocessor 1 (R512). -/
theorem decodeCop1_asks (s : State) (w : Word) : ∃ r, s.execDecoded (decodeCop1 w) = s.needCp1 r := by
  unfold decodeCop1
  split
  case h_7 => exact decodeBc1_asks s w
  case h_8 => exact decodeCop1S_asks s w
  case h_9 => split <;> exact ⟨_, rfl⟩
  case h_10 => split <;> exact ⟨_, rfl⟩
  all_goals exact ⟨_, rfl⟩

theorem execWord_asksCp0 {w : Word} (h : opOf w = 16#6 ∨ opOf w = 47#6) (s : State) :
    ∃ r, s.execWord w = s.needCp0 r := by
  rw [State.execWord_eq]
  rcases h with h | h
  · rw [decode_of_cop0 h]
    exact decodeCop0_asks s w
  · rw [decode, h]
    exact ⟨_, rfl⟩

theorem execWord_asksCp1 {w : Word} (h : opOf w ∈ [17#6, 49#6, 53#6, 57#6, 61#6]) (s : State) :
    ∃ r, s.execWord w = s.needCp1 r := by
  rw [State.execWord_eq]
  rcases List.mem_cons.1 h with h | h
  · rw [decode_of_cop1 h]
    exact decodeCop1_asks s w
  · simp only [List.mem_cons, List.not_mem_nil, or_false] at h
    rcases h with h | h | h | h <;> rw [decode, h] <;> exact ⟨_, rfl⟩

theorem execWord_cop2 {w : Word} (h : opOf w ∈ [18#6, 50#6, 54#6, 58#6, 62#6]) (s : State) : s.execWord w = s.cop2 := by
  rw [State.execWord_eq]
  simp only [List.mem_cons, List.not_mem_nil, or_false] at h
  rcases h with h | h | h | h | h <;> rw [decode, h] <;> rfl

/-! ## Instructions by name -/

theorem exec_eq_needCp0 (s : State) (base rt rd : Reg) (op : BitVec 5) (offset : BitVec 16) :
    ∀ i ∈ [Instr.mfc0 rt rd, .dmfc0 rt rd, .mtc0 rt rd, .dmtc0 rt rd, .eret, .wait, .cache base op offset, .tlbr, .tlbwi,
      .tlbwr, .tlbp], ∃ r, exec i s = s.needCp0 r := by
  repeat refine List.forall_mem_cons.2 ⟨⟨_, rfl⟩, ?_⟩
  exact List.forall_mem_nil _

theorem exec_eq_needCp1 (s : State) (base rt ft fs fd : Reg) (offset : BitVec 16) (fmtLow : BitVec 4) (fn : BitVec 6) :
    ∀ i ∈ [Instr.addS ft fs fd, .subS ft fs fd, .mulS ft fs fd, .divS ft fs fd, .sqrtS fs fd, .absS fs fd,
      .movS fs fd, .negS fs fd, .roundWS fs fd, .truncWS fs fd, .ceilWS fs fd, .floorWS fs fd, .cvtWS fs fd,
      .cvtSW fs fd, .roundLS fs fd, .truncLS fs fd, .ceilLS fs fd, .floorLS fs fd, .cvtLS fs fd, .cvtDS fs fd,
      .cop1Other fmtLow ft fs fd fn, .cFS ft fs, .cUnS ft fs, .cEqS ft fs, .cUeqS ft fs, .cOltS ft fs, .cUltS ft fs,
      .cOleS ft fs, .cUleS ft fs, .cSfS ft fs, .cNgleS ft fs, .cSeqS ft fs, .cNglS ft fs, .cLtS ft fs, .cNgeS ft fs,
      .cLeS ft fs, .cNgtS ft fs, .mfc1 rt fs, .dmfc1 rt fs, .cfc1 rt fs, .mtc1 rt fs, .dmtc1 rt fs, .ctc1 rt fs,
      .lwc1 base ft offset, .swc1 base ft offset, .ldc1 base ft offset, .sdc1 base ft offset, .bc1f offset, .bc1t offset,
      .bc1fl offset, .bc1tl offset], ∃ r, exec i s = s.needCp1 r := by
  repeat refine List.forall_mem_cons.2 ⟨⟨_, rfl⟩, ?_⟩
  exact List.forall_mem_nil _

/-! ## The exception -/

theorem State.cop2_of_unusable {s : State} (h : s.cp0.status.cu.getLsbD 2 = false) : s.cop2 = s.trap (.cpu 2) :=
  if_neg (ne_true_of_eq_false h)

/-- A word that its unusable unit stops takes Coprocessor Unusable with that unit (60_exceptions R698). -/
theorem exceptionTaken_of_unusable {s : State} {unit : BitVec 2} {r : Result} (h : r = s.trap (.cpu unit)) :
    ∃ t, r = .next t ∧ ExceptionTaken 11 unit none s t :=
  ⟨_, h, s.raised_exceptionTaken (e := .cpu unit) rfl none⟩

theorem exceptionTaken_of_needCp0 {s : State} {r : Result} (hunusable : ¬Cp0Usable s)
    (h : ∃ r', r = s.needCp0 r') : ∃ t, r = .next t ∧ ExceptionTaken 11 0 none s t := by
  obtain ⟨r', rfl⟩ := h
  exact exceptionTaken_of_unusable (State.needCp0_of_unusable hunusable r')

theorem exceptionTaken_of_needCp1 {s : State} {r : Result} (hunusable : ¬Cp1Usable s)
    (h : ∃ r', r = s.needCp1 r') : ∃ t, r = .next t ∧ ExceptionTaken 11 1 none s t := by
  obtain ⟨r', rfl⟩ := h
  exact exceptionTaken_of_unusable (State.needCp1_of_unusable hunusable r')

end Sys2Proof.Machine

open Sys2Proof Sys2Proof.Machine

/-- Settles O39: every form asks for its unit first. -/
theorem coprocessorUnusable : Obligations.CoprocessorUnusable := by
  intro s base rt rd ft fs fd op offset cofun fmtLow fn
  refine ⟨fun w => ⟨fun hu hop => ?_, fun hu hop => ?_, fun hu hop => ?_⟩, fun hu i hi => ?_, fun hu i hi => ?_,
    fun hu i hi => ?_⟩
  · exact exceptionTaken_of_needCp0 hu (execWord_asksCp0 hop s)
  · exact exceptionTaken_of_needCp1 hu (execWord_asksCp1 hop s)
  · exact exceptionTaken_of_unusable ((execWord_cop2 hop s).trans (State.cop2_of_unusable hu))
  · exact exceptionTaken_of_needCp0 hu (exec_eq_needCp0 s base rt rd op offset i hi)
  · exact exceptionTaken_of_unusable ((exec_eq_cop2 s base rt offset cofun i hi).trans (State.cop2_of_unusable hu))
  · exact exceptionTaken_of_needCp1 hu (exec_eq_needCp1 s base rt ft fs fd offset fmtLow fn i hi)

/-- Settles O3: each word is the encoding of its instruction, which decodes to itself. -/
theorem decodeWords : Obligations.DecodeWords :=
  ⟨decode_encode (.addS 6 4 2) rfl, decode_encode (.cvtSW 4 2) rfl, decode_encode (.cLtS 4 2) rfl,
    decode_encode (.mfc1 2 4) rfl, decode_encode (.ctc1 2 31) rfl, decode_encode (.lwc1 5 4 8) rfl,
    decode_encode .wait rfl, decode_encode (.sll 0 0 0) rfl⟩

end

section
/-!
PROOF. Sys2Proof/Proofs/MoveCp0.lean: the moves from and to coprocessor 0, register by register (47_coprocessor_cp0 R515 to
R518; 11_cp0_registers R72 to R114; 70_reset_and_hazards R771 to R778).
-/

namespace Sys2Proof.Machine

/-! ## What a register reads as -/

theorem low32_sext32 (v : Word) : low32 (sext32 v) = v := by
  refine BitVec.eq_of_getLsbD_eq fun i hi => ?_
  simp [low32, sext32, BitVec.getLsbD_signExtend, hi]
  omega

theorem low32_zeroExtend (v : BitVec 8) : low32 (v.zeroExtend 64) = 0#24 ++ v := by
  refine BitVec.eq_of_toNat_eq ?_
  rw [BitVec.toNat_append]
  simp [low32]
  omega

/-- The constant low fields of Config, one by one (11_cp0_registers R105). -/
theorem append_configFields (x : BitVec 17) :
    x ++ 0x6270#15 = x ++ 0b110#3 ++ 0b001#3 ++ 0b001#3 ++ 0b1#1 ++ 0b1#1 ++ 0#1 ++ 0#3 := by
  have h1 : x ++ 0b110#3 ++ 0b001#3 = x ++ 0b110001#6 := BitVec.append_assoc
  have h2 : x ++ 0b110001#6 ++ 0b001#3 = x ++ 0b110001001#9 := BitVec.append_assoc
  have h3 : x ++ 0b110001001#9 ++ 0b1#1 = x ++ 0b1100010011#10 := BitVec.append_assoc
  have h4 : x ++ 0b1100010011#10 ++ 0b1#1 = x ++ 0b11000100111#11 := BitVec.append_assoc
  have h5 : x ++ 0b11000100111#11 ++ 0#1 = x ++ 0b110001001110#12 := BitVec.append_assoc
  have h6 : x ++ 0b110001001110#12 ++ 0#3 = x ++ 0x6270#15 := BitVec.append_assoc
  rw [h1, h2, h3, h4, h5, h6]

/-- MFC0's word of each register is the low word of what the register holds (R515). -/
theorem State.readCp0_of_mem (s : State) : ∀ p ∈ cp0Words s, ∃ v, s.readCp0 p.1 = some v ∧ low32 v = p.2 := by
  simp only [cp0Words, List.forall_mem_cons, ← State.hardwareIp_eq]
  refine ⟨⟨_, rfl, low32_sext32 _⟩, ⟨_, rfl, low32_sext32 _⟩, ⟨_, rfl, low32_sext32 _⟩, ⟨_, rfl, low32_sext32 _⟩, ⟨_, rfl, rfl⟩,
    ⟨_, rfl, low32_sext32 _⟩, ⟨_, rfl, low32_sext32 _⟩, ⟨_, rfl, low32_sext32 _⟩, ⟨_, rfl, low32_sext32 _⟩, ⟨_, rfl, rfl⟩,
    ⟨_, rfl, low32_sext32 _⟩, ⟨_, rfl, (low32_sext32 _).trans (append_configFields _)⟩, ⟨_, rfl, low32_sext32 _⟩,
    ⟨_, rfl, low32_sext32 _⟩, ⟨_, rfl, low32_sext32 _⟩, ⟨_, rfl, low32_zeroExtend _⟩, ⟨_, rfl, low32_sext32 _⟩, ⟨_, rfl, low32_sext32 _⟩,
    ⟨_, rfl, rfl⟩, List.forall_mem_nil _⟩

/-! ## Moves from coprocessor 0 -/

section MoveFrom
variable {s : State} {rt rd : Reg} {v : DWord} (hcp0 : Cp0Usable s) (hread : s.readCp0 rd = some v)
include hcp0 hread

theorem exec_mfc0_of_read : exec (.mfc0 rt rd) s =
    if s.hazards.afterMtc0 then s.resultFree rt else s.result rt (sext32 (low32 v)) := by
  change execMfc0 rt rd s = _
  rw [execMfc0, State.needCp0_of_usable hcp0, hread]
  rfl

theorem exec_dmfc0_of_read (h64 : Allows64 s) : exec (.dmfc0 rt rd) s =
    if s.hazards.afterMtc0 || !isCp0Reg64 rd then s.resultFree rt else s.result rt v := by
  change execDmfc0 rt rd s = _
  rw [execDmfc0, State.needCp0_of_usable hcp0, State.need64_of_allowed h64, hread]
  rfl

theorem mfc0_gprResult (h : s.hazards.afterMtc0 = false) : GprResult (.mfc0 rt rd) rt (sext32 (low32 v)) s :=
  gprResult_of_result (by rw [exec_mfc0_of_read hcp0 hread, h]; rfl)

/-- MFC0 completes with some value, right behind an MTC0 too (R775, U21). -/
theorem mfc0_completes : ∃ x, GprResult (.mfc0 rt rd) rt x s := by
  cases h : s.hazards.afterMtc0 with
  | false => exact ⟨_, mfc0_gprResult hcp0 hread h⟩
  | true => exact ⟨_, gprResult_of_resultFree (n := s.fresh) (by rw [exec_mfc0_of_read hcp0 hread, h]; rfl)⟩

theorem dmfc0_gprResult (h64 : Allows64 s) (h : s.hazards.afterMtc0 = false) (hrd : isCp0Reg64 rd = true) :
    GprResult (.dmfc0 rt rd) rt v s :=
  gprResult_of_result (by rw [exec_dmfc0_of_read hcp0 hread h64, h, hrd]; rfl)

theorem dmfc0_completes (h64 : Allows64 s) : ∃ x, GprResult (.dmfc0 rt rd) rt x s := by
  cases h : s.hazards.afterMtc0 || !isCp0Reg64 rd with
  | false => exact ⟨_, gprResult_of_result (by rw [exec_dmfc0_of_read hcp0 hread h64, h]; rfl)⟩
  | true => exact ⟨_, gprResult_of_resultFree (n := s.fresh) (by rw [exec_dmfc0_of_read hcp0 hread h64, h]; rfl)⟩

end MoveFrom

/-! ## The record of a write -/

theorem writesMapping_iff (rd : Reg) : writesMapping rd = true ↔ rd ∈ [0#5, 1#5, 2#5, 3#5] := by
  simp [writesMapping, or_assoc]

/-- The record behind a write of coprocessor 0, in the words of R772 and R775 to R778. -/
theorem State.afterCp0Write_eq (s : State) (rd : Reg) (c : Cp0) :
    s.agedHazards.afterCp0Write rd s.cp0 c = cp0Record s rd c := by
  have htranslation : translationWrite rd s.cp0 c = decide (rd ∈ [0#5, 1#5, 2#5, 3#5, 17#5] ∨
      c.status.um ≠ s.cp0.status.um ∨ c.status.exl ≠ s.cp0.status.exl ∨ c.status.erl ≠ s.cp0.status.erl ∨
      c.status.re ≠ s.cp0.status.re) := by
    rw [Bool.eq_iff_iff, translationWrite_iff, decide_eq_true_iff]
  simp only [Hazards.afterCp0Write, cp0Record, State.agedHazards_eq, htranslation, writesMapping_iff, Bool.and_eq_true,
    Bool.or_eq_true, beq_iff_eq, bne_iff_ne, ne_comm (a := s.cp0.status.il), ne_comm (a := s.cp0.status.dl)]
  rfl

theorem State.activeRegion_of_mem {s : State} {r : BitVec 3} (h : r ∈ s.activeRegions) : ActiveRegion s r := by
  simp only [State.activeRegions, List.mem_cons, List.mem_append, Option.mem_toList, List.mem_filterMap, regionOf_eq] at h
  rcases h with here | next | last | buffered
  · exact .inl here
  · refine .inr (.inr (.inr fun t ht => ?_))
    rw [next, ht.1]
    rfl
  · exact .inr (.inl last)
  · exact .inr (.inr (.inl buffered))

theorem State.changesActiveCalg_of_same {s : State} {c : Cp0}
    (h : ∀ r, ActiveRegion s r → calgField c.calg r = calgField s.cp0.calg r) : s.changesActiveCalg c = false := by
  refine List.any_eq_false.2 fun r hr => ?_
  rw [h r (State.activeRegion_of_mem hr), bne_self_eq_false]
  exact Bool.false_ne_true

/-! ## Moves to coprocessor 0 -/

/-- The latches behind a write of register `rd`: a write of Compare clears TimerPending (11_cp0_registers R96). -/
def State.eventsAfterWrite (s : State) (rd : Reg) : Events :=
  if rd = 11 then { s.events with timerPending := false } else s.events

/-- A write that no hazard rule forbids completes (R516); which free value comes next is not seen. -/
theorem cp0Result_of_writeCp0 {move : Reg → Instr} {s : State} {n : Nat} {rd : Reg} {data : DWord} {c : Cp0}
    (hexec : exec (move rd) s = ({ s with fresh := n } : State).writeCp0 rd data) (hwrite : s.cp0.write rd data = some c)
    (hmem : s.hazards.afterMem = false) (hmapping : writesMapping rd = true → (low32 s.pc).msb = true)
    (hcalg : rd = 17 → s.changesActiveCalg c = false) : Cp0Result move rd c (s.eventsAfterWrite rd) s := by
  have hunmapped : (!(low32 s.pc).msb && writesMapping rd) = false := by
    cases h : writesMapping rd with
    | false => exact Bool.and_false _
    | true => rw [hmapping h]; rfl
  have hfield : (rd == 17 && s.changesActiveCalg c) = false := by
    cases h : rd == 17 with
    | false => rfl
    | true => exact hcalg (eq_of_beq h)
  have hdone : ({ s with fresh := n } : State).writeCp0 rd data =
      .next { ({ s with fresh := n } : State).advance with
        cp0 := c
        events := s.eventsAfterWrite rd
        hazards := s.agedHazards.afterCp0Write rd s.cp0 c } := by
    unfold State.writeCp0
    simp only [hwrite, hmem, hunmapped, show ({ s with fresh := n } : State).changesActiveCalg c = s.changesActiveCalg c from rfl,
      hfield, Bool.false_and]
    rfl
  refine ⟨_, hexec.trans hdone, rfl, rfl, s.afterCp0Write_eq rd c, fun _ => rfl, ⟨rfl, rfl⟩, rfl, ⟨rfl, rfl, rfl⟩,
    ⟨rfl, rfl⟩, fun _ => rfl, rfl, rfl, rfl, rfl, rfl, ⟨rfl, rfl, rfl⟩⟩

/-- What a plain write does, and that no hazard rule speaks of it (11_cp0_registers R97, R100, R108 to R114). -/
theorem plainCp0Writes_write (s : State) (data : DWord) : ∀ p ∈ plainCp0Writes s (low32 data),
    s.cp0.write p.1 data = some p.2.1 ∧ p.2.2 = s.eventsAfterWrite p.1 ∧ writesMapping p.1 = false ∧ p.1 ≠ 17 ∧
      isCp0Reg64 p.1 = false := by
  simp only [plainCp0Writes, List.forall_mem_cons]
  have heccByte : (low32 data).extractLsb' 0 8 = (low32 data).truncate 8 := by
    rw [BitVec.truncate_eq_setWidth, BitVec.setWidth_eq_extractLsb' (by decide)]
  rw [heccByte]
  exact ⟨⟨rfl, rfl, rfl, by decide, rfl⟩, ⟨rfl, rfl, rfl, by decide, rfl⟩, ⟨rfl, rfl, rfl, by decide, rfl⟩,
    ⟨rfl, rfl, rfl, by decide, rfl⟩, ⟨rfl, rfl, rfl, by decide, rfl⟩, ⟨rfl, rfl, rfl, by decide, rfl⟩,
    ⟨rfl, rfl, rfl, by decide, rfl⟩, ⟨rfl, rfl, rfl, by decide, rfl⟩, ⟨rfl, rfl, rfl, by decide, rfl⟩,
    ⟨rfl, rfl, rfl, by decide, rfl⟩, ⟨rfl, rfl, rfl, by decide, rfl⟩, List.forall_mem_nil _⟩

/-- What a write of a base or bound does (11_cp0_registers R73 to R76). -/
theorem mappingWrites_write (s : State) (data : DWord) : ∀ p ∈ mappingWrites s (low32 data),
    s.cp0.write p.1 data = some p.2 ∧ s.events = s.eventsAfterWrite p.1 ∧ p.1 ≠ 17 ∧ isCp0Reg64 p.1 = false := by
  simp only [mappingWrites, List.forall_mem_cons]
  exact ⟨⟨rfl, rfl, by decide, rfl⟩, ⟨rfl, rfl, by decide, rfl⟩, ⟨rfl, rfl, by decide, rfl⟩, ⟨rfl, rfl, by decide, rfl⟩,
    List.forall_mem_nil _⟩

/-- What a write of a 64-bit register does: BadVAddr is read-only (11_cp0_registers R72, R114). -/
theorem doubleWrites_write (s : State) (data : DWord) :
    ∀ p ∈ [(8#5, s.cp0), (14#5, { s.cp0 with epc := data }), (30#5, { s.cp0 with errorEpc := data })],
      s.cp0.write p.1 data = some p.2 ∧ s.events = s.eventsAfterWrite p.1 ∧ writesMapping p.1 = false ∧ p.1 ≠ 17 ∧
        isCp0Reg64 p.1 = true := by
  simp only [List.forall_mem_cons]
  exact ⟨⟨rfl, rfl, rfl, by decide, rfl⟩, ⟨rfl, rfl, rfl, by decide, rfl⟩, ⟨rfl, rfl, rfl, by decide, rfl⟩,
    List.forall_mem_nil _⟩

theorem exec_dmtc0_of_reg64 {s : State} {rt rd : Reg} (hcp0 : Cp0Usable s) (h64 : Allows64 s)
    (hrd : isCp0Reg64 rd = true) : exec (.dmtc0 rt rd) s = s.writeCp0 rd (s.reg rt) := by
  change execDmtc0 rt rd s = _
  rw [execDmtc0, State.needCp0_of_usable hcp0, State.need64_of_allowed h64, hrd]
  rfl

section MoveTo
variable {s : State} {move : Reg → Instr} {n : Nat} {data : DWord} (hmem : s.hazards.afterMem = false)
include hmem

theorem cp0Result_of_plain
    (hexec : ∀ rd, isCp0Reg64 rd = false → exec (move rd) s = ({ s with fresh := n } : State).writeCp0 rd data) :
    ∀ p ∈ plainCp0Writes s (low32 data), Cp0Result move p.1 p.2.1 p.2.2 s := by
  intro p hp
  obtain ⟨hwrite, hevents, hmapping, hcalg, hrd⟩ := plainCp0Writes_write s data p hp
  rw [hevents]
  exact cp0Result_of_writeCp0 (hexec p.1 hrd) hwrite hmem (fun h => absurd h (ne_true_of_eq_false hmapping))
    fun h => absurd h hcalg

theorem cp0Result_of_mapping (hpc : (low32 s.pc).msb = true)
    (hexec : ∀ rd, isCp0Reg64 rd = false → exec (move rd) s = ({ s with fresh := n } : State).writeCp0 rd data) :
    ∀ p ∈ mappingWrites s (low32 data), Cp0Result move p.1 p.2 s.events s := by
  intro p hp
  obtain ⟨hwrite, hevents, hcalg, hrd⟩ := mappingWrites_write s data p hp
  rw [hevents]
  exact cp0Result_of_writeCp0 (hexec p.1 hrd) hwrite hmem (fun _ => hpc) fun h => absurd h hcalg

theorem cp0Result_of_double (p : Reg × Cp0)
    (hp : p ∈ [(8#5, s.cp0), (14#5, { s.cp0 with epc := data }), (30#5, { s.cp0 with errorEpc := data })])
    (hexec : isCp0Reg64 p.1 = true → exec (move p.1) s = s.writeCp0 p.1 data) : Cp0Result move p.1 p.2 s.events s := by
  obtain ⟨hwrite, hevents, hmapping, hcalg, hrd⟩ := doubleWrites_write s data p hp
  rw [hevents]
  exact cp0Result_of_writeCp0 (n := s.fresh) (hexec hrd) hwrite hmem
    (fun h => absurd h (ne_true_of_eq_false hmapping)) fun h => absurd h hcalg

theorem cp0Result_of_calg (hexec : exec (move 17) s = ({ s with fresh := n } : State).writeCp0 17 data)
    (hfields : ∀ r, ActiveRegion s r → calgField (low32 data &&& 0x77777777) r = calgField s.cp0.calg r) :
    Cp0Result move 17 { s.cp0 with calg := low32 data &&& 0x77777777 } s.events s :=
  cp0Result_of_writeCp0 hexec rfl hmem (fun h => absurd h (by decide)) fun _ => State.changesActiveCalg_of_same hfields

end MoveTo

end Sys2Proof.Machine

open Sys2Proof Sys2Proof.Machine

/-- Settles O36: MFC0 and DMFC0 give what the register reads as, or a free value. -/
theorem moveFromCp0 : Obligations.MoveFromCp0 := by
  intro s rt hcp0
  refine ⟨fun p hp => ?_, fun h64 hquiet => ?_⟩
  · obtain ⟨v, hread, hlow⟩ := s.readCp0_of_mem p hp
    refine ⟨fun hquiet => ?_, mfc0_completes hcp0 hread, dmfc0_completes hcp0 hread⟩
    rw [← hlow]
    exact mfc0_gprResult hcp0 hread hquiet
  · exact ⟨dmfc0_gprResult hcp0 rfl h64 hquiet rfl, dmfc0_gprResult hcp0 rfl h64 hquiet rfl,
      dmfc0_gprResult hcp0 rfl h64 hquiet rfl⟩

/-- Settles O37: every allowed write leaves the register's word, and its record; DMTC0 writes a free value into a 32-bit
register. -/
theorem moveToCp0 : Obligations.MoveToCp0 := by
  intro s rt v hcp0 hmem hv
  subst hv
  have mtc0 (rd : Reg) : exec (.mtc0 rt rd) s = s.writeCp0 rd (s.reg rt) := exec_mtc0_of_usable hcp0 rt
  have dmtc0 (h64 : Allows64 s) (rd : Reg) (hrd : isCp0Reg64 rd = false) :
      exec (.dmtc0 rt rd) s = ({ s with fresh := s.fresh + 1 } : State).writeCp0 rd (s.free 64) :=
    exec_dmtc0_of_usable hcp0 rt h64 hrd
  refine ⟨cp0Result_of_plain (n := s.fresh) hmem fun rd _ => mtc0 rd, fun p hp => ⟨?_, fun h64 => ?_⟩,
    fun hpc => cp0Result_of_mapping (n := s.fresh) hmem hpc fun rd _ => mtc0 rd,
    cp0Result_of_calg (n := s.fresh) hmem (mtc0 17), fun h64 => ⟨fun rd hrd => ?_, fun hpc rd hrd => ?_, ?_⟩⟩
  · exact cp0Result_of_double hmem p hp fun _ => mtc0 p.1
  · exact cp0Result_of_double hmem p hp fun hrd => exec_dmtc0_of_reg64 hcp0 h64 hrd
  · obtain ⟨p, hp, rfl⟩ := List.mem_map.1 (show rd ∈ (plainCp0Writes s (low32 (s.free 64))).map Prod.fst from hrd)
    exact ⟨_, p, hp, rfl, cp0Result_of_plain hmem (dmtc0 h64) p hp⟩
  · obtain ⟨p, hp, rfl⟩ := List.mem_map.1 (show rd ∈ (mappingWrites s (low32 (s.free 64))).map Prod.fst from hrd)
    exact ⟨_, p, hp, rfl, cp0Result_of_mapping hmem hpc (dmtc0 h64) p hp⟩
  · refine ⟨low32 (s.free 64), cp0Result_of_calg hmem (dmtc0 h64 17 rfl), fun r hactive hfield => ?_⟩
    rw [dmtc0 h64 17 rfl]
    exact State.writeCp0_activeCalg (c := { s.cp0 with calg := low32 (s.free 64) &&& 0x77777777 }) rfl hmem rfl rfl
      (State.changesActiveCalg_of_active hactive hfield)

end

section
/-!
PROOF. Sys2Proof/Proofs/Boundary.lean: what happens at an instruction boundary: standby and what ends it, the interrupt, the
inputs of the platform, NMI and resets between two instructions (46_trap_special R506; 60_exceptions R674 to R677, R701 to
R708; 80_system_interface R850 to R852; 70_reset_and_hazards R743, R744).
-/

namespace Sys2Proof.Machine

/-! ## A step by what arrives in it -/

theorem State.arrivals_of_cons {s : State} {a : Arrivals} {rest : List Arrivals} (h : s.inputs = a :: rest) :
    s.arrivals = a := by rw [State.arrivals, h]; rfl

theorem State.arrivals_of_nil {s : State} (h : s.inputs = []) : s.arrivals = Arrivals.quiet := by
  rw [State.arrivals, h]; rfl

/-- A step in which nothing arrives at the boundary and no reset comes is one cycle with the timer behind it. -/
theorem step_of_arrivals {s : State} {a : Arrivals} (ha : s.arrivals = a) (hbefore : a.before = [])
    (hreset : a.reset = none) :
    step s = ticked a.ticks (({ s with inputs := s.inputs.tail } : State).cycle a) := by
  change s.run = _
  rw [State.run, ha, State.runWith, hbefore, State.deliverAll]
  simp only [hreset]

theorem State.with_inputs_of_eq {s : State} {xs : List Arrivals} (h : s.inputs = xs) : { s with inputs := xs } = s := by
  subst h; rfl

theorem State.cycle_of_begun {s : State} {a : Arrivals} (hwithin : a.within = []) :
    s.cycle a = (s.begun a.hold).finish fun w t => t.execWord w := by
  rw [State.cycle, hwithin, Access.deliver_nil]

/-! ## The timer -/

/-- The timer moves Count and the timer's latches alone (11_cp0_registers R95, R96). -/
theorem State.timed_eq (s : State) (ticks : Option Nat) :
    ∃ (n : Word) (latch half : Bool), s.timed ticks =
      { s with
        cp0 := { s.cp0 with count := n }
        events := { s.events with timerPending := latch, countPhase := half } } := by
  cases ticks with
  | none =>
    cases h : s.events.countPhase with
    | true => exact ⟨_, _, _, by rw [State.timed, State.tick, h]; rfl⟩
    | false => exact ⟨s.cp0.count, s.events.timerPending, true, by rw [State.timed, State.tick, h]; rfl⟩
  | some n => exact ⟨_, _, s.events.countPhase, by rw [State.timed, State.countTimes_eq]⟩

/-- The default rate: Count advances in every second step (log 40). -/
theorem State.tick_eq (s : State) : s.tick =
    { s with
      cp0 := { s.cp0 with count := if s.events.countPhase then s.cp0.count + 1 else s.cp0.count }
      events := { s.events with
        countPhase := !s.events.countPhase
        timerPending := s.events.timerPending || (s.events.countPhase && s.cp0.count + 1 == s.cp0.compare) } } := by
  cases h : s.events.countPhase with
  | true => rw [State.tick, h]; rfl
  | false =>
    rw [State.tick, h, Bool.false_and, Bool.or_false]
    rfl

/-- A tick input of `n` advances Count `n` times. -/
theorem State.countTimes_ticked (s : State) (n : Nat) : Ticked n s (s.settled.countTimes n) := by
  rw [State.countTimes_eq]
  refine ⟨?_, rfl⟩
  simp only [Bool.or_eq_true, List.any_eq_true, List.mem_range, beq_iff_eq]
  refine or_congr_right ⟨fun ⟨k, hk, hcount⟩ => ⟨k + 1, by omega, by omega, hcount⟩, fun ⟨k, hpos, hk, hcount⟩ => ?_⟩
  exact ⟨k - 1, by omega, by rwa [Nat.sub_add_cancel hpos]⟩

/-! ## Standby -/

theorem State.wakes_iff (s : State) : s.wakes = true ↔ WakeAsserted s := by
  simp only [State.wakes, WakeAsserted, State.hardwareIp_eq, Bool.or_eq_true, bne_iff_ne, or_assoc]
  rfl

theorem State.wakes_of_not {s : State} (h : ¬WakeAsserted s) : s.wakes = false :=
  Bool.eq_false_iff.2 fun hw => h (s.wakes_iff.1 hw)

/-- In standby with nothing asserted a cycle does nothing (46_trap_special R506). -/
theorem State.begun_of_standby {s : State} (hstandby : s.standby = true) (h : ¬WakeAsserted s) (hold : Bool) :
    s.begun hold = .trap s := by
  rw [State.begun, hstandby, State.wakes_of_not h]
  rfl

/-- Awake, or woken by what is asserted, a cycle is that of the same machine awake. -/
theorem State.begun_of_awake {s : State} (h : s.standby = true → WakeAsserted s) (hold : Bool) :
    s.begun hold = s.awake.boundary hold := by
  have hasleep : (s.standby && !s.wakes) = false := by
    cases hstandby : s.standby with
    | false => rfl
    | true => rw [s.wakes_iff.2 (h hstandby)]; rfl
  rw [State.begun, hasleep]
  rfl

theorem step_of_standby {s : State} (hstandby : s.standby = true) (h : ¬WakeAsserted s) {a : Arrivals}
    (ha : s.arrivals = a) (hbefore : a.before = []) (hreset : a.reset = none) {u : State}
    (hu : State.deliverAll { s with inputs := s.inputs.tail } a.within = .ok u) :
    step s = .next (u.settled.timed a.ticks) := by
  rw [step_of_arrivals ha hbefore hreset, State.cycle, State.begun_of_standby (s := { s with inputs := s.inputs.tail }) hstandby h]
  simp only [Access.deliver, hu]
  rfl

/-- Behind a boundary, what is taken in place of an instruction ends the cycle. -/
theorem step_of_boundary_trap {s t : State} {a : Arrivals} (ha : s.arrivals = a) (hbefore : a.before = [])
    (hwithin : a.within = []) (hreset : a.reset = none) (hawake : s.standby = true → WakeAsserted s)
    (h : ({ s with inputs := s.inputs.tail, standby := false } : State).boundary a.hold = .trap t) :
    step s = .next (t.settled.timed a.ticks) := by
  rw [step_of_arrivals ha hbefore hreset, State.cycle_of_begun hwithin,
    State.begun_of_awake (s := { s with inputs := s.inputs.tail }) hawake]
  change ticked a.ticks ((State.boundary { s with inputs := s.inputs.tail, standby := false } a.hold).finish _) = _
  rw [h]
  rfl

/-! ## Interrupts -/

theorem State.interruptRequest_of {s : State} (hie : s.cp0.status.ie = true) (hexl : s.cp0.status.exl = false)
    (herl : s.cp0.status.erl = false) (hpending : (interruptLines s ++ s.cp0.cause.ip) &&& s.cp0.status.im ≠ 0#8) :
    s.interruptRequest = true := by
  rw [State.interruptRequest, Machine.interruptRequest, State.hardwareIp_eq, Status.interruptsEnabled, hie, hexl, herl,
    Bool.and_eq_true]
  exact ⟨bne_iff_ne.2 hpending, rfl⟩

/-- An enabled interrupt comes before the fetch (60_exceptions R701; log 41). -/
theorem State.boundary_of_interrupt {s : State} {hold : Bool} (hnmi : s.events.nmiPending = false)
    (hwatch : s.watchDue = false) (hrequest : s.interruptRequest = true) :
    s.boundary hold = if hold then s.fetch else .trap (s.takeException .int none) := by
  rw [State.boundary, hnmi, hwatch, hrequest]
  cases hold <;> rfl

/-! ## Inputs -/

/-- What is delivered leaves the list of what is still to come alone. -/
theorem State.deliver_inputs {s t : State} {i : Input} (h : s.deliver i = .ok t) : t.inputs = s.inputs := by
  obtain ⟨u, hu, rfl⟩ := State.deliver_ok h
  cases i with
  | externalRead => cases hu
  | _ => cases hu; rfl

/-- A step with one more input at the boundary is the step behind that input. -/
theorem step_of_deliver {s t : State} {a : Arrivals} {i : Input} {is : List Input} {rest : List Arrivals}
    (hinputs : s.inputs = { a with before := i :: is } :: rest)
    (h : State.deliver { s with inputs := rest } i = .ok t) :
    step s = step { t with inputs := { a with before := is } :: rest } := by
  have hrest : { t with inputs := rest } = t := State.with_inputs_of_eq (State.deliver_inputs h)
  change s.run = State.run { t with inputs := { a with before := is } :: rest }
  rw [State.run, State.arrivals_of_cons hinputs, hinputs, State.run, State.arrivals_of_cons rfl]
  change State.runWith { s with inputs := rest } _ = State.runWith { t with inputs := rest } _
  rw [hrest, State.runWith, State.runWith, State.deliverAll, h]
  rfl

end Sys2Proof.Machine

open Sys2Proof Sys2Proof.Machine

/-- Settles O17: a cycle in standby does nothing and the timer runs behind it; what is asserted makes it the cycle of the same
machine awake. -/
theorem standbyHolds : Obligations.StandbyHolds := by
  intro s hstandby
  refine ⟨fun hquiet => ⟨fun hinputs => ?_, fun n rest hinputs => ?_, fun is rest u hinputs hu => ?_⟩,
    fun hwake hnothing => ?_⟩
  · have hs : State.deliverAll { s with inputs := s.inputs.tail } [] = .ok s := by
      rw [State.with_inputs_of_eq (by rw [hinputs]; rfl)]
      rfl
    rw [step_of_standby hstandby hquiet (State.arrivals_of_nil hinputs) rfl rfl hs]
    exact congrArg Host.Outcome.next s.settled.tick_eq
  · refine ⟨_, step_of_standby hstandby hquiet (State.arrivals_of_cons hinputs) rfl rfl rfl, ?_⟩
    rw [hinputs]
    exact State.countTimes_ticked { s with inputs := rest } n
  · rw [step_of_standby hstandby hquiet (State.arrivals_of_cons hinputs) rfl rfl (by rw [hinputs]; exact hu)]
    rfl
  · obtain ⟨hbefore, hreset⟩ : s.arrivals.before = [] ∧ s.arrivals.reset = none := by
      cases hinputs : s.inputs with
      | nil => rw [State.arrivals_of_nil hinputs]; exact ⟨rfl, rfl⟩
      | cons a rest => rw [State.arrivals_of_cons hinputs]; exact hnothing a (by rw [hinputs]; rfl)
    rw [step_of_arrivals rfl hbefore hreset, step_of_arrivals (s := { s with standby := false }) rfl hbefore hreset,
      State.cycle, State.cycle, State.begun_of_awake (s := { s with inputs := s.inputs.tail }) fun _ => hwake]
    rfl

/-- Settles O13: the interrupt is taken in place of the fetch, unless the platform hides it. -/
theorem interruptTaken : Obligations.InterruptTaken := by
  intro s u a hbefore hwithin hreset hawake hnmi hwatch hie hexl herl hpending hu
  have hboundary (hold : Bool) : u.boundary hold = if hold then u.fetch else .trap (u.takeException .int none) := by
    subst hu
    exact State.boundary_of_interrupt hnmi hwatch (State.interruptRequest_of (s := s) hie hexl herl hpending)
  refine ⟨fun htaken => ?_, fun hhead hhold hticks w i s1 hfetch hdecode => ?_⟩
  · obtain ⟨b, hb, hbefore', hwithin', hreset', hhold⟩ :
        ∃ b, s.arrivals = b ∧ b.before = [] ∧ b.within = [] ∧ b.reset = none ∧ b.hold = false := by
      rcases htaken with hinputs | ⟨hhead, hhold⟩
      · exact ⟨_, State.arrivals_of_nil hinputs, rfl, rfl, rfl, rfl⟩
      · obtain ⟨rest, hinputs⟩ := List.head?_eq_some_iff.1 hhead
        exact ⟨a, State.arrivals_of_cons hinputs, hbefore, hwithin, hreset, hhold⟩
    have htrap : u.boundary b.hold = .trap (u.takeException .int none) := by rw [hboundary, hhold]; rfl
    rw [hu] at htrap
    obtain ⟨n, latch, half, htimed⟩ :=
      (State.takeException { s with inputs := s.inputs.tail, standby := false } .int none).settled.timed_eq b.ticks
    refine ⟨_, step_of_boundary_trap hb hbefore' hwithin' hreset' hawake htrap, ?_⟩
    rw [htimed]
    have hvector : (if s.cp0.status.bev then 0xFFFFFFFFBFC00200 else 0xFFFFFFFF80000000) +
        (if s.cp0.cause.iv then 0x200 else 0x180) =
        vector s.cp0.status.bev (if (Exc.int.isInt && s.cp0.cause.iv) = true then 0x200 else 0x180) := by
      cases s.cp0.status.bev <;> rfl
    have hepc : (if s.cp0.status.exl then s.cp0.epc else s.restartPc) = (if s.inDelaySlot then s.pc - 4 else s.pc) := by
      rw [hexl]; rfl
    have hbd : (if s.cp0.status.exl then s.cp0.cause.bd else s.inDelaySlot) = s.inDelaySlot := by rw [hexl]; rfl
    rw [hvector]
    exact ⟨rfl, rfl, rfl, hepc, hbd, rfl, rfl, rfl, rfl, rfl, fun _ => rfl, ⟨rfl, rfl⟩, rfl, ⟨rfl, rfl, rfl⟩, ⟨rfl, rfl⟩,
      fun _ => rfl⟩
  · obtain ⟨rest, hinputs⟩ := List.head?_eq_some_iff.1 hhead
    have hfetched : u.boundary a.hold = .ok w s1 := by rw [hboundary, hhold]; exact hfetch
    subst hu
    rw [stepAnswers_iff_ticked, step_of_arrivals (State.arrivals_of_cons hinputs) hbefore hreset,
      State.cycle_of_begun hwithin, State.begun_of_awake (s := { s with inputs := s.inputs.tail }) hawake, hticks]
    change ticked none ((State.boundary { s with inputs := s.inputs.tail, standby := false } a.hold).finish _) = _
    rw [hfetched]
    exact congrArg _ (State.execWord_of_decode_ok hdecode)

end

section
/-!
PROOF. Sys2Proof/Proofs/Inputs.lean: what the platform delivers at a boundary and within an instruction, and its tick input
(46_trap_special R506; 60_exceptions R702 to R706; 80_system_interface R814, R850 to R852; 11_cp0_registers R95, R96).
-/

namespace Sys2Proof.Machine

/-- A step without an event at its boundary executes the instruction at the PC; what arrives within it is delivered behind the
fetch. -/
theorem step_of_arrivals_fetch {s : State} {a : Arrivals} (ha : s.arrivals = a) (hbefore : a.before = [])
    (hreset : a.reset = none) (hdue : NothingDue { s with inputs := [] }) :
    step s = ticked a.ticks
      (((State.fetch { s with inputs := s.inputs.tail }).deliver a.within).finish fun w t => t.execWord w) := by
  obtain ⟨-, hstandby, hnmi, hwatch, hint⟩ := hdue
  have hboundary : ({ s with inputs := s.inputs.tail } : State).begun a.hold =
      State.fetch { s with inputs := s.inputs.tail } := by
    rw [State.begun_eq_boundary (by exact hstandby)]
    exact State.boundary_eq_fetch (s := { s with inputs := s.inputs.tail }) hnmi hwatch hint
  rw [step_of_arrivals ha hbefore hreset, State.cycle, hboundary]

/-- Standby behind an input that leaves the machine asleep: nothing was asserted before it and nothing behind it. -/
theorem State.standby_of_iff {s t : State} {b woken : Bool} {p : Prop} (hwoken : woken = true ↔ p)
    (h : b = true ↔ s.standby = true ∧ ¬WakeAsserted s ∧ ¬WakeAsserted t ∧ ¬p) :
    (s.standby && !s.wakes && !woken && !t.wakes) = b := by
  rw [Bool.eq_iff_iff, h, ← s.wakes_iff, ← t.wakes_iff, ← hwoken]
  simp only [Bool.and_eq_true, Bool.not_eq_true', Bool.not_eq_true]
  tauto

theorem State.deliver_pins (s : State) (int : BitVec 6) (nmi ext : Bool) :
    s.deliver (.pins int nmi ext) = .ok (s.woken.setPins int nmi ext).woken := rfl

theorem State.deliver_externalWrite (s : State) (addr data : Word) :
    s.deliver (.externalWrite addr data) =
      .ok (s.setEvents { s.events with intReg := intRegAfter s.events.intReg addr data }).awake := rfl

theorem State.deliver_externalNull (s : State) : s.deliver .externalNull = .ok s.awake := rfl

theorem State.deliver_agentWrite {s : State} (hplatform : s.platform = []) (addr : Word) (value : Byte) :
    s.deliver (.agentWrite addr value) = .ok { s.woken with mem := s.mem.set addr.toNat value } := by
  have hmem : writeByte s.platform s.mem addr.toNat value = s.mem.set addr.toNat value := by rw [hplatform]; rfl
  rw [← hmem]
  refine congrArg Except.ok (?_ : State.woken { s.woken with mem := _ } = _)
  rw [State.woken]
  change ({ s.woken with standby := (s.standby && !s.wakes) && !s.wakes, mem := _ } : State) = _
  rw [Bool.and_assoc, Bool.and_self]
  rfl

/-- The bits of the Interrupt register behind an external write: bits 22:16 of the data enable bits 6:0 (R850). -/
theorem intRegAfter_eq {old r : BitVec 7} {addr data : Word}
    (h : ∀ k : Nat, k < 7 → r.getLsbD k =
      if addr.extractLsb' 4 3 = 0 ∧ data.getLsbD (16 + k) = true then data.getLsbD k else old.getLsbD k) :
    intRegAfter old addr data = r := by
  refine BitVec.eq_of_getLsbD_eq fun k hk => ?_
  rw [h k hk, intRegAfter]
  by_cases haddr : addr.extractLsb' 4 3 = 0
  · rw [if_pos haddr]
    cases hen : data.getLsbD (16 + k) <;> simp [haddr, hen, hk]
  · rw [if_neg haddr, if_neg fun h => haddr h.1]

end Sys2Proof.Machine

open Sys2Proof Sys2Proof.Machine

/-- Settles O14: each input is delivered by itself, and the step is the step behind it. -/
theorem inputsDelivered : Obligations.InputsDelivered := by
  rintro s u a rest is int nmi ext addr data value rfl
  refine ⟨fun hinputs e standby he hiff => ?_, fun hinputs r hr => ?_, fun hinputs => ?_, fun hinputs hplatform standby hiff => ?_,
    fun hinputs => ?_, fun hinputs hdue w i s1 s2 hfetch hdecode hdeliver => ?_,
    fun n hinputs hdue w i s1 t hfetch hdecode hexec => ?_⟩
  · subst he
    have hstandby := State.standby_of_iff (woken := nmi && !s.events.nmiPin)
      (by rw [Bool.and_eq_true, Bool.not_eq_true']) hiff
    rw [step_of_deliver hinputs (State.deliver_pins _ int nmi ext), ← hstandby]
    rfl
  · rw [step_of_deliver hinputs (State.deliver_externalWrite _ addr data), ← intRegAfter_eq hr]
    rfl
  · rw [step_of_deliver hinputs (State.deliver_externalNull _)]
    rfl
  · have hstandby : (s.standby && !s.wakes) = standby := by
      rw [Bool.eq_iff_iff, hiff, ← s.wakes_iff, Bool.and_eq_true, Bool.not_eq_true', Bool.not_eq_true]
    rw [step_of_deliver hinputs (State.deliver_agentWrite (by exact hplatform) addr value), ← hstandby]
    rfl
  · change s.run = _
    rw [State.run, State.arrivals_of_cons hinputs]
    rfl
  · rw [stepAnswers_iff_ticked, step_of_arrivals_fetch (State.arrivals_of_cons hinputs) rfl rfl hdue, hinputs]
    change ticked none (((State.fetch { s with inputs := rest }).deliver is).finish _) = _
    rw [hfetch, Access.deliver, hdeliver]
    exact congrArg _ (State.execWord_of_decode_ok hdecode)
  · refine ⟨_, ?_, State.countTimes_ticked t n⟩
    rw [step_of_arrivals_fetch (State.arrivals_of_cons hinputs) rfl rfl hdue, hinputs]
    change ticked (some n) (((State.fetch { s with inputs := rest }).deliver []).finish _) = _
    rw [hfetch, Access.deliver_nil, Access.finish_of_ok, State.execWord_of_decode_ok hdecode, hexec]
    rfl

end

section
/-!
PROOF. Sys2Proof/Proofs/Resets.lean: a cold reset, a warm reset and an NMI between two instructions (60_exceptions R674 to
R677, R706; 70_reset_and_hazards R743 to R745).
-/

namespace Sys2Proof.Machine

/-- A reset between two instructions finds the machine as the last step left it. -/
theorem step_of_reset {s : State} {r : ResetRequest} {rest : List Arrivals} (hphase : r.phase = .boundary)
    (hinputs : s.inputs = onlyReset r :: rest) : step s = State.takeReset (State.settled { s with inputs := rest }) r := by
  change s.run = _
  rw [State.run, State.arrivals_of_cons hinputs, hinputs]
  change (match State.cutShort { s with inputs := rest } _ r.phase with | .error q => _ | .ok u => State.takeReset u r) = _
  rw [hphase]
  rfl

theorem State.interruptBus_restartPc (s : State) (lost : Nat) : (s.interruptBus lost).restartPc = s.restartPc := by
  simp only [State.restartPc, State.interruptBus_pc, State.interruptBus_inDelaySlot]

/-- With no line in transit the bus's interruption leaves the link alone. -/
theorem State.interruptBus_sameLink {s : State} (lost : Nat) (h : s.bus.lines = []) : SameLink s (s.interruptBus lost) := by
  refine ⟨?_, ?_, ?_⟩
  · exact State.interruptBus_keeps (by simp [h]) (fun x _ t => t.loseByte_llBit x) fun _ _ => rfl
  · exact State.interruptBus_keeps (by simp [h]) (fun x _ t => t.loseByte_llAddr x) fun _ _ => rfl
  · exact State.interruptBus_keeps (by simp [h]) (fun x _ t => t.loseByte_llSeen x) fun _ _ => rfl

end Sys2Proof.Machine

open Sys2Proof Sys2Proof.Machine

/-- Settles O12: a cold reset sets every register but memory and ErrorEPC, whatever state it finds. -/
theorem coldResetLeaves : Obligations.ColdResetLeaves := by
  intro s stream lost rest hinputs
  have hstep := step_of_reset rfl hinputs
  refine ⟨fun hreserved => ?_, fun hgood => ?_⟩
  · rw [hstep, State.takeReset]
    exact if_pos hreserved
  · refine ⟨_, hstep.trans (if_neg (ne_true_of_eq_false hgood)), rfl, rfl, rfl, rfl, rfl, rfl, rfl, rfl, rfl, rfl, rfl, rfl,
      rfl, ?_, rfl, rfl, rfl, ?_⟩
    · exact State.interruptBus_restartPc _ lost
    · exact State.interruptBus_sameBytesBut (State.settled { s with inputs := rest }) lost

/-- Settles O15: an NMI and a warm reset are the same soft reset of the registers; the NMI's step has the timer behind it. -/
theorem nmiAndWarmReset : Obligations.NmiAndWarmReset := by
  rintro s lost rest (⟨hinputs, hnmi, rfl⟩ | hinputs)
  · have hboundary (hold : Bool) : State.boundary { s with inputs := s.inputs.tail, standby := false } hold =
        .trap (State.takeNmi { s with inputs := s.inputs.tail, standby := false }) := if_pos hnmi
    have hstep := step_of_boundary_trap (State.arrivals_of_nil hinputs) rfl rfl rfl (fun _ => .inr (.inl hnmi))
      (hboundary _)
    obtain ⟨n, latch, half, htimed⟩ :=
      (State.takeNmi { s with inputs := s.inputs.tail, standby := false }).settled.timed_eq none
    refine ⟨_, hstep.trans (congrArg _ htimed), rfl, rfl, rfl, rfl, fun h => (h hinputs).elim, rfl, rfl, fun _ => rfl,
      ⟨rfl, rfl⟩, rfl, ⟨rfl, rfl, rfl⟩, ⟨rfl, rfl⟩, fun _ _ => rfl⟩
  · let v : State := State.settled { s with inputs := rest }
    have hcp0 : (v.interruptBus lost).warmReset.cp0 = { s.cp0 with
        errorEpc := s.restartPc
        status := { s.cp0.status with bev := true, sr := true, erl := true } } := by
      change ({ (v.interruptBus lost).cp0 with
        errorEpc := (v.interruptBus lost).restartPc
        status := { (v.interruptBus lost).cp0.status with bev := true, sr := true, erl := true } } : Cp0) = _
      rw [v.interruptBus_cp0 lost, v.interruptBus_restartPc lost]
      rfl
    have hcount : (v.interruptBus lost).warmReset.cp0.count = s.cp0.count := by rw [hcp0]
    refine ⟨_, step_of_reset rfl hinputs, rfl, rfl, rfl, ?_, fun _ => ⟨hcount, rfl, rfl⟩, rfl, rfl, ?_, ?_, ?_, ?_, ?_, ?_⟩
    · change (v.interruptBus lost).warmReset.cp0 = { s.cp0 with
        errorEpc := s.restartPc
        status := { s.cp0.status with bev := true, sr := true, erl := true }
        count := (v.interruptBus lost).warmReset.cp0.count }
      rw [hcount, hcp0]
    · exact fun r => State.reg_congr (v.interruptBus_gpr lost) r
    · exact ⟨v.interruptBus_hi lost, v.interruptBus_lo lost⟩
    · exact v.interruptBus_fpu lost
    · exact State.interruptBus_sameLink (s := v) lost rfl
    · exact State.interruptBus_sameCaches (s := v) rfl
    · exact v.interruptBus_sameBytesBut lost

end

section
/-!
PROOF. Sys2Proof/Proofs/MemoryStops.lean: what stops a load, a store, a conditional store or CACHE before it completes: the
hazard of a translation write, a reserved algorithm, the line in both ways, a match of DWatch, a bus that never accepts
(70_reset_and_hazards R772, R778; 60_exceptions R677, R679, R696; 80_system_interface R819; 93_implementation_defined U7, U8,
U11, U22, U23).
-/

namespace Sys2Proof.Machine

/-! ## What an access that stops answers -/

/-- What an access answers in the place of its value. -/
def Access.stopped {α : Type} : Access α → Option Result
  | .ok _ _ => none
  | .trap t => some (.next t)
  | .fault f => some (.fault f)
  | .refused q => some (.refused q)

theorem Access.finish_of_stopped {α : Type} {x : Access α} {r : Result} (h : x.stopped = some r)
    (k : α → State → Result) : x.finish k = r := by cases x <;> cases h <;> rfl

theorem Access.stopped_bind {α β : Type} {x : Access α} {r : Result} (h : x.stopped = some r)
    (f : α → State → Access β) : (x.bind f).stopped = some r := by cases x <;> cases h <;> rfl

section Span
variable {s : State} {sp : Span} {r : Result}

theorem State.load_stopped_of_address (h : (s.dataAddress sp.va sp.align false).stopped = some r) :
    (s.load sp).stopped = some r := Access.stopped_bind h _

theorem State.store_stopped_of_address (bs : List Byte) (h : (s.dataAddress sp.va sp.align true).stopped = some r) :
    (s.store sp bs).stopped = some r := Access.stopped_bind (Access.stopped_bind h _) _

variable {pa : Word} {alg : BitVec 3} (hhazard : NoMemHazard s) (hmap : MapsTo s sp.va pa alg)
  (ha : sp.va.toNat % sp.align = 0)
include hhazard hmap ha

theorem State.load_stopped_of_ready
    (h : (s.dataReady sp.va pa alg (sp.physical s.cp0.status.reverseEndian pa) false).stopped = some r) :
    (s.load sp).stopped = some r := by
  rw [State.load, State.dataAddress_of false hhazard hmap ha, Access.bind_of_ok]
  exact Access.stopped_bind h _

theorem State.store_stopped_of_ready (bs : List Byte)
    (h : (s.dataReady sp.va pa alg (sp.physical s.cp0.status.reverseEndian pa) true).stopped = some r) :
    (s.store sp bs).stopped = some r := by
  rw [State.store, State.storeReady, State.dataAddress_of true hhazard hmap ha, Access.bind_of_ok]
  exact Access.stopped_bind (Access.stopped_bind h _) _

/-- A load of the bytes `xs`, once everything is ready. -/
theorem State.load_of_ready {t : State} {xs : List Nat} (hxs : sp.physical s.cp0.status.reverseEndian pa = xs)
    (h : s.dataReady sp.va pa alg xs false = .ok () t) :
    s.load sp = .ok (t.readBytes pa alg xs, pa, alg) (t.afterRead alg) := by
  rw [State.load, State.dataAddress_of false hhazard hmap ha, Access.bind_of_ok]
  dsimp only
  rw [hxs, h, Access.bind_of_ok]

/-- A store of bytes at the addresses `xs`, once everything is ready, hangs when the bus never accepts it (80_system_interface
R819). -/
theorem State.store_of_ready (bs : List Byte) {t : State} {xs : List Nat}
    (hxs : sp.physical s.cp0.status.reverseEndian pa = xs) (h : s.dataReady sp.va pa alg xs true = .ok () t) :
    s.store sp bs = if alg ≠ 3 ∧ anyOf .silent t.platform xs = true then .fault .writeHangs
      else .ok () (t.writeStore sp.va pa alg (xs.zip bs)) := by
  rw [State.store, State.storeReady, State.dataAddress_of true hhazard hmap ha, Access.bind_of_ok]
  dsimp only
  rw [hxs, h, Access.bind_of_ok, Access.bind_of_ok]

end Span

/-! ## The forms -/

/-- `i` is a load of the bytes of `sp` with an end behind it. -/
structure LoadForm (s : State) (base : Reg) (offset : BitVec 16) (i : Instr) (n : Nat) (sp : Span) : Prop where
  va : sp.va = s.ea base offset
  align : sp.align = n
  exec_eq : ∃ k, exec i s = (s.load sp).finish k
  inDouble : ∀ pa alg, MapsTo s (s.ea base offset) pa alg → (s.ea base offset).toNat % n = 0 →
    InDouble pa (sp.physical s.cp0.status.reverseEndian pa)

section LoadForms
variable {s : State} {base rt : Reg} {offset : BitVec 16} {i : Instr}

theorem loadForm_aligned {n : Nat} (hn : n = 1 ∨ n = 2 ∨ n = 4 ∨ n = 8)
    (hexec : ∃ k, exec i s = (s.load (aligned (s.ea base offset) n)).finish k) :
    LoadForm s base offset i n (aligned (s.ea base offset) n) :=
  ⟨rfl, rfl, hexec, fun _ _ hmap ha => aligned_inDouble hmap hn ha⟩

theorem loadForm_part {size : Nat} (hsize : size = 4 ∨ size = 8) (left : Bool)
    (hexec : ∃ k, exec i s = (s.load (partSpan s.bigEndianCpu left size (s.ea base offset))).finish k) :
    LoadForm s base offset i 1 (partSpan s.bigEndianCpu left size (s.ea base offset)) :=
  ⟨partSpan_va _ _ _ _, partSpan_align _ _ _ _, hexec, fun _ _ hmap _ => partSpan_inDouble hmap hsize left⟩

end LoadForms

theorem exists_loadForm (s : State) (base rt : Reg) (offset : BitVec 16) :
    ∀ p ∈ loadForms base rt offset, MayExecute s p.1 → ∃ sp, LoadForm s base offset p.1 p.2 sp := by
  simp only [loadForms, List.forall_mem_cons]
  refine ⟨?lb, ?lbu, ?lh, ?lhu, ?lw, ?lwu, ?ld, ?lwl, ?lwr, ?ldl, ?ldr, ?ll, ?lld, ?lwc1, List.forall_mem_nil _⟩
  case lb | lbu | lh | lhu | lw | ll => exact fun _ => ⟨_, loadForm_aligned (by decide) ⟨_, rfl⟩⟩
  case lwu | ld | lld => exact fun may => ⟨_, loadForm_aligned (by decide) ⟨_, State.need64_of_allowed may _⟩⟩
  case lwl | lwr => exact fun _ => ⟨_, loadForm_part (.inl rfl) _ ⟨_, rfl⟩⟩
  case ldl | ldr => exact fun may => ⟨_, loadForm_part (.inr rfl) _ ⟨_, State.need64_of_allowed may _⟩⟩
  case lwc1 => exact fun may => ⟨_, loadForm_aligned (by decide) ⟨_, State.needCp1_of_usable may _⟩⟩

/-- SC and SCD, where they may execute, are a conditional store of their register's bytes. -/
theorem exists_conditional (s : State) (base rt : Reg) (offset : BitVec 16) :
    ∀ p ∈ conditionalForms base rt offset, MayExecute s p.1 →
      (p.2 = 4 ∨ p.2 = 8) ∧ ∃ v, exec p.1 s = s.storeConditional p.2 v base rt offset := by
  simp only [conditionalForms, List.forall_mem_cons]
  refine ⟨?sc, ?scd, List.forall_mem_nil _⟩
  case sc => exact fun _ => ⟨.inl trivial, _, rfl⟩
  case scd => exact fun may => ⟨.inr trivial, _, State.need64_of_allowed may _⟩

section Forms
variable {s : State} {base rt : Reg} {offset : BitVec 16} {r : Result}

/-- Every load and store answers what its address answers in place of a translation. -/
theorem exec_of_address_stopped :
    ∀ p ∈ (loadForms base rt offset).map (fun p => (p, false)) ++
        (storeForms base rt offset ++ conditionalForms base rt offset).map (fun p => (p, true)),
      MayExecute s p.1.1 → (s.dataAddress (s.ea base offset) p.1.2 p.2).stopped = some r → exec p.1.1 s = r := by
  simp only [List.forall_mem_append, List.forall_mem_map]
  refine ⟨fun p hp may h => ?load, fun p hp may h => ?store, fun p hp may h => ?conditional⟩
  case load =>
    obtain ⟨sp, hva, halign, ⟨k, hexec⟩, -⟩ := exists_loadForm s base rt offset p hp may
    rw [hexec]
    exact Access.finish_of_stopped (State.load_stopped_of_address (by rwa [hva, halign])) k
  case store =>
    obtain ⟨sp, bs, hva, halign, hexec, -⟩ := exists_storeOf s base rt offset p hp may
    rw [hexec]
    exact Access.finish_of_stopped (State.store_stopped_of_address bs (by rwa [hva, halign])) _
  case conditional =>
    obtain ⟨-, v, hexec⟩ := exists_conditional s base rt offset p hp may
    rw [hexec]
    exact Access.finish_of_stopped h _

variable {pa : Word} {alg : BitVec 3} (hhazard : NoMemHazard s) (hmap : MapsTo s (s.ea base offset) pa alg)
include hhazard hmap

/-- Every load and every store that is not conditional answers what its access answers behind the address. -/
theorem exec_of_ready_stopped :
    ∀ p ∈ (loadForms base rt offset).map (fun p => (p, false)) ++ (storeForms base rt offset).map (fun p => (p, true)),
      MayExecute s p.1.1 → (s.ea base offset).toNat % p.1.2 = 0 →
      ∃ xs, InDouble pa xs ∧
        ∀ r, (s.dataReady (s.ea base offset) pa alg xs p.2).stopped = some r → exec p.1.1 s = r := by
  simp only [List.forall_mem_append, List.forall_mem_map]
  refine ⟨fun p hp may ha => ?load, fun p hp may ha => ?store⟩
  case load =>
    obtain ⟨sp, hva, halign, ⟨k, hexec⟩, inDouble⟩ := exists_loadForm s base rt offset p hp may
    refine ⟨_, inDouble pa alg hmap ha, fun r h => ?_⟩
    rw [hexec]
    exact Access.finish_of_stopped
      (State.load_stopped_of_ready hhazard (by rwa [hva]) (by rwa [hva, halign]) (by rwa [hva])) k
  case store =>
    obtain ⟨sp, bs, hva, halign, hexec, inDouble⟩ := exists_storeOf s base rt offset p hp may
    refine ⟨_, inDouble pa alg hmap ha, fun r h => ?_⟩
    rw [hexec]
    exact Access.finish_of_stopped
      (State.store_stopped_of_ready hhazard (by rwa [hva]) (by rwa [hva, halign]) bs (by rwa [hva])) _

/-- A conditional store to the linked address that finds LLbit set answers as its store does. -/
theorem exec_conditional_of_ready_stopped (hbit : s.llBit = true) (hlinked : s.llSeen = true → s.llAddr = pa) :
    ∀ p ∈ conditionalForms base rt offset, MayExecute s p.1 → (s.ea base offset).toNat % p.2 = 0 →
      ∃ xs, InDouble pa xs ∧
        ∀ r, (s.dataReady (s.ea base offset) pa alg xs true).stopped = some r → exec p.1 s = r := by
  intro p hp may ha
  obtain ⟨hn, v, hexec⟩ := exists_conditional s base rt offset p hp may
  have hsame : (s.llSeen && s.llAddr != pa) = false := by
    cases hseen : s.llSeen with
    | false => rfl
    | true => simp [hlinked hseen]
  have hstore : exec p.1 s = (s.store (aligned (s.ea base offset) p.2)
      (toBytes s.bigEndianCpu p.2 v)).finish fun _ t => (t.setReg rt 1).doneMem := by
    rw [hexec, State.storeConditional]
    dsimp only
    rw [State.dataAddress_of true hhazard hmap ha, Access.finish_of_ok]
    dsimp only
    rw [hsame, hbit]
    rfl
  refine ⟨_, aligned_inDouble hmap (by omega) ha, fun r h => ?_⟩
  rw [hstore]
  exact Access.finish_of_stopped
    (State.store_stopped_of_ready (sp := aligned (s.ea base offset) p.2) hhazard hmap ha _ h) _

end Forms

/-! ## What stops an access behind its address -/

section Ready
variable {s : State} {va : DWord} {pa : Word} {alg : BitVec 3} {store : Bool}

theorem calgReserved_of_le (h : 4 ≤ alg.toNat) : calgReserved alg = true := by
  revert alg
  decide

theorem calgReserved_two : calgReserved 2#3 = false := by decide

/-- The state behind the draw of a match in its window. -/
theorem State.dataReady_eq (s : State) (va : DWord) (pa : Word) (alg : BitVec 3) (xs : List Nat) (store : Bool) :
    ∃ t, (t = s ∨ t = s.drawn) ∧ s.dataReady va pa alg xs store =
      if calgReserved alg then .refused .reservedCacheAlgorithm
      else if alg != 2 && t.dcache.lookup pa == .both then .refused .duplicateTag
      else
        match t.dataParityError va pa alg xs store with
        | some p => t.dataCacheError p pa alg xs store
        | none => t.dataRefilled pa alg xs store (s.dwatchNoticed va store) := by
  refine ⟨if s.dwatchUnsure va store then s.drawn else s, ?_, rfl⟩
  split
  · exact .inr rfl
  · exact .inl rfl

theorem State.dataReady_reserved (h : 4 ≤ alg.toNat) (xs : List Nat) :
    s.dataReady va pa alg xs store = .refused .reservedCacheAlgorithm := if_pos (calgReserved_of_le h)

theorem State.dataReady_both (halg : alg = 0 ∨ alg = 1 ∨ alg = 3) (h : s.dcache.lookup pa = .both) (xs : List Nat) :
    s.dataReady va pa alg xs store = .refused .duplicateTag := by
  have htwo : alg ≠ 2#3 := ne_two_of_cached halg
  obtain ⟨t, ht, hready⟩ := s.dataReady_eq va pa alg xs store
  have hlookup : t.dcache.lookup pa = .both := by rcases ht with rfl | rfl <;> exact h
  rw [hready, calgReserved_of_cached halg]
  simp [htwo, hlookup]

/-- An access whose bus traffic hangs does that, an error in what it reads or not (80_system_interface R819; log 7). -/
theorem State.dataReady_hangs {xs : List Nat} {f : Fault} (hquiet : s.dwatchMatches va store = false)
    (halg : alg = 2 ∨ (alg = 0 ∨ alg = 1 ∨ alg = 3) ∧ s.dcache.lookup pa ≠ .both)
    (h : s.busHangs pa alg xs store = some f) : s.dataReady va pa alg xs store = .fault f := by
  obtain ⟨hunsure, hnoticed⟩ := State.dwatch_of_no_match hquiet
  have hreserved : calgReserved alg = false := by
    rcases halg with rfl | ⟨halg, -⟩
    · rfl
    · exact calgReserved_of_cached halg
  have hboth : (alg != 2 && s.dcache.lookup pa == .both) = false := by
    rcases halg with rfl | ⟨-, hboth⟩
    · rfl
    · simp [hboth]
  rw [State.dataReady, hunsure, hnoticed, hreserved]
  simp only [Bool.false_eq_true, if_false, hboth]
  split
  · rw [State.dataCacheError, h]
  · rw [State.dataRefilled, h]
    rfl

end Ready

/-! ## A match of DWatch -/

section Watch
variable {s : State} {va : DWord} {pa : Word} {store : Bool}
  (hwindow : s.hazards.dwWindow = 0) (hexl : s.cp0.status.exl = false) (herl : s.cp0.status.erl = false)
  (hmatch : s.dwatchMatches va store = true)
include hwindow hmatch

theorem State.dwatch_of_match : s.dwatchUnsure va store = false ∧ s.dwatchNoticed va store = true := by
  simp [State.dwatchUnsure, State.dwatchNoticed, hmatch, hwindow]

include hexl herl

/-- A match in RAM is a Watch exception before anything else of the access (60_exceptions R679, R696). -/
theorem State.dataReady_watch {alg : BitVec 3} (hram : s.platform = [])
    (halg : alg = 2 ∨ (alg = 0 ∨ alg = 1 ∨ alg = 3) ∧ s.cp0.status.de = true ∧ s.dcache.lookup pa ≠ .both) (xs : List Nat) :
    s.dataReady va pa alg xs store = .trap (s.raised (.watch false true) none) := by
  obtain ⟨hunsure, hnoticed⟩ := State.dwatch_of_match hwindow hmatch
  have hready : s.dataReady va pa alg xs store = s.dataRefilled pa alg xs store true := by
    rcases halg with rfl | ⟨halg, hde, hboth⟩
    · have hparity : s.dataParityError va pa 2#3 xs store = none := by
        simp [State.dataParityError, (State.bus_ram hram).2.1]
      simp [State.dataReady, hunsure, hnoticed, hparity, calgReserved_two]
    · have hparity : s.dataParityError va pa alg xs store = none := by simp [State.dataParityError, hde]
      simp [State.dataReady, hunsure, hnoticed, hparity, calgReserved_of_cached halg, hboth]
  rw [hready, State.dataRefilled, Status.watchNow, hexl, herl]
  rfl

theorem State.conditionalFails_watch (hstore : store = true) :
    s.conditionalFails va = .trap (s.raised (.watch false true) none) := by
  subst hstore
  obtain ⟨hunsure, hnoticed⟩ := State.dwatch_of_match hwindow hmatch
  simp [State.conditionalFails, hunsure, hnoticed, Status.watchNow, hexl, herl]

end Watch

/-- A conditional store takes the Watch exception whether or not it would store (log 38). -/
theorem exec_conditional_watch {s : State} {base rt : Reg} {offset : BitVec 16} {pa : Word} {alg : BitVec 3}
    (hhazard : NoMemHazard s) (hmap : MapsTo s (s.ea base offset) pa alg)
    (hfails : s.conditionalFails (s.ea base offset) = .trap (s.raised (.watch false true) none))
    (hready : ∀ xs, s.dataReady (s.ea base offset) pa alg xs true = .trap (s.raised (.watch false true) none)) :
    ∀ p ∈ conditionalForms base rt offset, MayExecute s p.1 → (s.ea base offset).toNat % p.2 = 0 →
      exec p.1 s = .next (s.raised (.watch false true) none) := by
  intro p hp may ha
  obtain ⟨-, v, hexec⟩ := exists_conditional s base rt offset p hp may
  rw [hexec, State.storeConditional]
  dsimp only
  rw [State.dataAddress_of true hhazard hmap ha, Access.finish_of_ok]
  dsimp only
  split
  · rw [hfails, Access.finish_of_trap]
  · split
    · have hstore := State.store_of_dataReady_trap (sp := aligned (s.ea base offset) p.2) hhazard hmap ha
        (toBytes s.bigEndianCpu p.2 v) (hready _)
      rw [hstore, Access.finish_of_trap]
    · rw [hfails, Access.finish_of_trap]

/-! ## What hangs -/

theorem lineBytes_silent {platform : List Region} {base : Nat}
    (h : ∀ x ∈ lineBytes base, kindAt platform x = some .silent) : anyOf .silent platform (lineBytes base) = true := by
  have hmem : base + 0 ∈ lineBytes base := List.mem_map_of_mem (List.mem_range.mpr (by decide))
  exact List.any_eq_true.mpr ⟨_, hmem, beq_iff_eq.2 (h _ hmem)⟩

section Hangs
variable {s : State} {va : DWord} {pa : Word} {alg : BitVec 3} {xs : List Nat}

theorem State.busHangs_read (h : anyOf .silent s.platform xs = true) : s.busHangs pa 2#3 xs false = some .readHangs := by
  simp [State.busHangs, State.busReads, h]

/-- A store that needs no refill makes the bus read nothing. -/
theorem State.dataReady_storeQuiet (hquiet : s.dwatchMatches va true = false)
    (halg : alg = 2 ∨ alg = 0 ∧ s.dcache.lookup pa ≠ .both ∨ alg = 1 ∧ ∃ w, s.dcache.lookup pa = .hit w) :
    s.dataReady va pa alg xs true = .ok () s := by
  obtain ⟨hunsure, hnoticed⟩ := State.dwatch_of_no_match hquiet
  rcases halg with rfl | ⟨rfl, hboth⟩ | ⟨rfl, w, hhit⟩
  · exact State.dataReady_uncachedStore hquiet
  · have hneeds : s.needsRefill pa 0#3 true = false := rfl
    have hhangs : s.busHangs pa 0#3 xs true = none := by
      simp [State.busHangs, State.busReads, anyOf, State.victimHangs, hneeds]
    have hparity : s.dataParityError va pa 0#3 xs true = none := by
      simp only [State.dataParityError, hneeds]
      cases s.dcache.lookup pa <;> simp
    simp [State.dataReady, hunsure, hnoticed, calgReserved_of_cached, hboth, hparity, State.dataRefilled, hhangs, hneeds]
  · have hneeds : s.needsRefill pa 1#3 true = false := by simp [State.needsRefill, hhit]
    have hhangs : s.busHangs pa 1#3 xs true = none := by
      simp [State.busHangs, State.busReads, anyOf, State.victimHangs, hneeds]
    have hparity : s.dataParityError va pa 1#3 xs true = none := by simp [State.dataParityError, hhit]
    simp [State.dataReady, hunsure, hnoticed, calgReserved_of_cached, hhit, hparity, State.dataRefilled, hhangs, hneeds]

/-- The victim's write-back is what hangs when the read behind it is answered. -/
theorem State.busHangs_victim {store : Bool} {old : DLine} (halg : alg = 0 ∨ alg = 1 ∨ alg = 3)
    (hallocates : store = true → alg ≠ 0) (hmiss : s.dcache.lookup pa = .miss)
    (hold : old = s.dcache.line (s.dVictim (lineIndex pa)) (lineIndex pa)) (hdirty : old.dirty = true)
    (hvictim : ∀ x ∈ lineBytes (lineBase old.tag (lineIndex pa)), kindAt s.platform x = some .silent)
    (hread : ∀ x ∈ lineBytes (lineBaseOf pa), kindAt s.platform x ≠ some .silent) :
    s.busHangs pa alg xs store = some .writeHangs := by
  have htwo : alg ≠ 2#3 := ne_two_of_cached halg
  have hneeds := State.needsRefill_of_miss (store := store) halg hallocates hmiss
  have hback := lineBytes_silent hvictim
  have hread : anyOf .silent s.platform (lineBytes (lineBaseOf pa)) = false :=
    List.any_eq_false.mpr fun y hy => by simpa using hread y hy
  subst hold
  simp [State.busHangs, State.busReads, htwo, hneeds, hread, State.victimHangs, hdirty, hback]

end Hangs

/-- A store whose write is never accepted, past the cache or through a line of it (80_system_interface R819). -/
theorem storeForm_hangs {s : State} {base rt : Reg} {offset : BitVec 16} {pa : Word} {alg : BitVec 3} {p : Instr × Nat}
    (hhazard : NoMemHazard s) (hmap : MapsTo s (s.ea base offset) pa alg) (hp : p ∈ storeForms base rt offset)
    (may : MayExecute s p.1) (ha : (s.ea base offset).toNat % p.2 = 0)
    (halg : alg = 2 ∨ alg = 0 ∧ s.dcache.lookup pa ≠ .both ∨ alg = 1 ∧ ∃ w, s.dcache.lookup pa = .hit w)
    (hquiet : s.dwatchMatches (s.ea base offset) true = false)
    (hsilent : ∀ x ∈ doubleOf pa, kindAt s.platform x = some .silent) : exec p.1 s = .fault .writeHangs := by
  obtain ⟨sp, bs, hva, halign, hexec, inDouble⟩ := exists_storeOf s base rt offset p hp may
  have hthree : alg ≠ 3 := by rcases halg with rfl | ⟨rfl, -⟩ | ⟨rfl, -⟩ <;> decide
  have hbus := ((inDouble pa alg hmap ha).answers hsilent).anyOf
  rw [← hva] at hmap ha hquiet
  rw [← halign] at ha
  rw [hexec, State.store_of_ready hhazard hmap ha bs rfl (State.dataReady_storeQuiet hquiet halg), if_pos ⟨hthree, hbus⟩]
  rfl

/-! ## The address under a hazard, and CACHE -/

section Hazard
variable {s : State} {va : DWord} (align : Nat) (store : Bool)

theorem State.dataAddress_afterTransWrite (h : s.hazards.afterTransWrite = true) :
    s.dataAddress va align store = .refused .memoryBesideTranslationWrite := by
  simp [State.dataAddress, State.memHazard, h]

theorem State.dataAddress_mappedWindow (h : s.hazards.afterTransWrite = false) (hwindow : 0 < s.hazards.mappedWindow)
    (hkuseg : va.getLsbD 31 = false) : s.dataAddress va align store = .refused .mappedSpaceInWindow := by
  have hmsb : (low32 va).msb = false := by simpa [low32, BitVec.msb_eq_getLsbD_last] using hkuseg
  simp [State.dataAddress, State.memHazard, h, hwindow, hmsb]

end Hazard

section Cache
variable {s : State} {base : Reg} {op : BitVec 5} {offset : BitVec 16} {pa : Word} {alg : BitVec 3} (hcp0 : Cp0Usable s)
include hcp0

theorem exec_cache_of_address_stopped {r : Result} (h : (s.dataAddress (s.ea base offset) 1 false).stopped = some r) :
    exec (.cache base op offset) s = r := by
  change execCache base op offset s = _
  rw [execCache, State.needCp0_of_usable hcp0]
  exact Access.finish_of_stopped h _

variable (hhazard : NoMemHazard s) (hmap : MapsTo s (s.ea base offset) pa alg)
include hhazard hmap

theorem exec_cache_reserved (h : 4 ≤ alg.toNat) :
    exec (.cache base op offset) s = .refused .reservedCacheAlgorithm := by
  have htwo : ¬alg = 2 := by rintro rfl; exact absurd h (by decide)
  change execCache base op offset s = _
  rw [execCache, State.needCp0_of_usable hcp0]
  dsimp only
  rw [State.dataAddress_of false hhazard hmap (Nat.mod_one _), Access.finish_of_ok]
  dsimp only
  rw [if_neg htwo, if_pos (calgReserved_of_le h)]

/-- A dirty line whose write-back is never accepted (R238; 80_system_interface R819). -/
theorem exec_cache_hangs (halg : alg = 0 ∨ alg = 1 ∨ alg = 3)
    (hdirty : (s.dcache.line (wayOf (s.ea base offset)) (lineIndex pa)).dirty = true)
    (hsilent : ∀ x ∈ lineBytes (lineBase (s.dcache.line (wayOf (s.ea base offset)) (lineIndex pa)).tag (lineIndex pa)),
      kindAt s.platform x = some .silent) : exec (.cache base 0x01 offset) s = .fault .writeHangs := by
  obtain ⟨va, hva⟩ : ∃ va, va = s.ea base offset := ⟨_, rfl⟩
  have hop : cacheOperation 0x01 = some .indexWritebackInvalidateD := rfl
  rw [exec_cache_defined hcp0 hhazard hmap halg hop, ← hva]
  rw [← hva] at hdirty hsilent
  obtain ⟨l, hl⟩ : ∃ l, l = s.dcache.line (wayOf va) (lineIndex pa) := ⟨_, rfl⟩
  rw [← hl] at hdirty hsilent
  have htag : (s.drained.eccLine va l).tag = l.tag := by
    unfold State.eccLine
    split <;> rfl
  have hback : s.drained.writeBack va pa (wayOf va) (lineIndex pa) l = .fault .writeHangs := by
    rw [State.writeBack, hdirty, Bool.true_or, if_pos rfl, State.sendLine, State.sendChecked, htag]
    exact if_pos (lineBytes_silent hsilent)
  change ((s.drained.writeBack va pa _ _ (s.drained.dcache.line _ _)).bind _).finish _ = _
  rw [show s.drained.dcache.line (wayOf va) (lineIndex pa) = l from hl.symm, hback]
  rfl

end Cache

end Sys2Proof.Machine

open Sys2Proof Sys2Proof.Machine

/-- Settles O21: a match of DWatch is what every form answers behind its address. -/
theorem dataWatchTaken : Obligations.DataWatchTaken := by
  intro s base rt offset pa alg hhazard hwindow hram hmap halg hexl herl haddr
  have hmatch {store : Bool} (h : (if store then s.cp0.dwatch.w else s.cp0.dwatch.r) = true) :
      s.dwatchMatches (s.ea base offset) store = true := by
    rw [State.dwatchMatches, haddr, h, beq_self_eq_true]
    rfl
  have hready {store : Bool} (h : (if store then s.cp0.dwatch.w else s.cp0.dwatch.r) = true) (xs : List Nat) :=
    State.dataReady_watch hwindow hexl herl (hmatch h) (pa := pa) hram halg xs
  have htaken {i : Instr} (h : exec i s = .next (s.raised (.watch false true) none)) :
      ∃ t, exec i s = .next t ∧ ExceptionTaken 23 0 none s t ∧ t.cp0.cause.dw = true ∧ t.cp0.cause.iw = false :=
    ⟨_, h, s.raised_exceptionTaken (e := .watch false true) rfl none, rfl, rfl⟩
  have hforms := exec_of_ready_stopped hhazard hmap (rt := rt)
  simp only [List.map_append, List.forall_mem_append, List.forall_mem_map] at hforms ⊢
  obtain ⟨loads, stores⟩ := hforms
  refine ⟨fun p hp may ha hbit => ?_, fun p hp may ha hbit => ?_, fun p hp may ha hbit => ?_⟩
  · obtain ⟨xs, -, hexec⟩ := loads p hp may ha
    exact htaken (hexec _ (congrArg Access.stopped (hready (store := false) hbit xs)))
  · obtain ⟨xs, -, hexec⟩ := stores p hp may ha
    exact htaken (hexec _ (congrArg Access.stopped (hready (store := true) hbit xs)))
  · have hfails := State.conditionalFails_watch hwindow hexl herl (hmatch (store := true) hbit) rfl
    exact htaken (exec_conditional_watch hhazard hmap hfails (hready (store := true) hbit) p hp may ha)

/-- Settles O46: what stops an access is what every form answers in its place. -/
theorem memoryStops : Obligations.MemoryStops := by
  rintro s base r op offset pa alg va rfl
  have hforms : ∀ p ∈ loadForms base r offset ++ storeForms base r offset ++ conditionalForms base r offset,
      MayExecute s p.1 → ∃ store, ∀ x, (s.dataAddress (s.ea base offset) p.2 store).stopped = some x → exec p.1 s = x := by
    have := fun x => exec_of_address_stopped (s := s) (base := base) (rt := r) (offset := offset) (r := x)
    simp only [List.forall_mem_append, List.forall_mem_map] at this ⊢
    exact ⟨⟨fun p hp may => ⟨false, fun x => (this x).1 p hp may⟩, fun p hp may => ⟨true, fun x => (this x).2.1 p hp may⟩⟩,
      fun p hp may => ⟨true, fun x => (this x).2.2 p hp may⟩⟩
  refine ⟨fun hcp0 => ⟨fun h => ?_, fun h hwindow hkuseg => ?_, fun hh hm h => ?_, fun hh hm halg l hl hdirty hsilent => ?_⟩,
    fun p hp may => ⟨fun h => ?_, fun h hwindow hkuseg => ?_⟩, fun hhazard hmap => ?_, fun hram => ⟨fun ha => ?_, fun ha may => ?_⟩⟩
  · exact exec_cache_of_address_stopped hcp0 (congrArg Access.stopped (State.dataAddress_afterTransWrite 1 false h))
  · exact exec_cache_of_address_stopped hcp0 (congrArg Access.stopped (State.dataAddress_mappedWindow 1 false h hwindow hkuseg))
  · exact exec_cache_reserved hcp0 hh hm h
  · subst hl
    exact exec_cache_hangs hcp0 hh hm halg hdirty hsilent
  · obtain ⟨store, hexec⟩ := hforms p hp may
    exact hexec _ (congrArg Access.stopped (State.dataAddress_afterTransWrite p.2 store h))
  · obtain ⟨store, hexec⟩ := hforms p hp may
    exact hexec _ (congrArg Access.stopped (State.dataAddress_mappedWindow p.2 store h hwindow hkuseg))
  · have stops := exec_of_ready_stopped hhazard hmap (rt := r)
    have conditional := exec_conditional_of_ready_stopped hhazard hmap (rt := r)
    refine ⟨fun p hp may ha => ?plain, fun p hp may ha hbit hlinked => ?conditional,
      fun p hp may ha halg hquiet hsilent => ?read, fun p hp may ha halg hquiet hsilent => ?write,
      fun old hold halg hmiss hdirty hvictim hread p hp may ha hquiet hallocates => ?victim⟩
    case plain =>
      have hready : ∃ store xs, ∀ x, (s.dataReady (s.ea base offset) pa alg xs store).stopped = some x → exec p.1 s = x := by
        simp only [List.forall_mem_append, List.forall_mem_map] at stops
        rcases List.mem_append.1 hp with hp | hp
        · obtain ⟨xs, -, hexec⟩ := stops.1 p hp may ha
          exact ⟨false, xs, hexec⟩
        · obtain ⟨xs, -, hexec⟩ := stops.2 p hp may ha
          exact ⟨true, xs, hexec⟩
      obtain ⟨store, xs, hexec⟩ := hready
      exact ⟨fun h => hexec _ (congrArg Access.stopped (State.dataReady_reserved h xs)),
        fun halg hboth => hexec _ (congrArg Access.stopped (State.dataReady_both halg hboth xs))⟩
    case conditional =>
      obtain ⟨xs, -, hexec⟩ := conditional hbit hlinked p hp may ha
      exact ⟨fun h => hexec _ (congrArg Access.stopped (State.dataReady_reserved h xs)),
        fun halg hboth => hexec _ (congrArg Access.stopped (State.dataReady_both halg hboth xs))⟩
    case read =>
      subst halg
      simp only [List.forall_mem_append, List.forall_mem_map] at stops
      obtain ⟨xs, hdouble, hexec⟩ := stops.1 p hp may ha
      have hhangs := State.busHangs_read (pa := pa) (hdouble.answers hsilent).anyOf
      exact hexec _ (congrArg Access.stopped (State.dataReady_hangs hquiet (.inl rfl) hhangs))
    case write => exact storeForm_hangs hhazard hmap hp may ha halg hquiet hsilent
    case victim =>
      obtain ⟨xs, -, hexec⟩ := stops p hp may ha
      have hhangs := State.busHangs_victim (xs := xs) halg hallocates hmiss hold hdirty hvictim hread
      exact hexec _ (congrArg Access.stopped (State.dataReady_hangs hquiet (.inr ⟨halg, by simp [hmiss]⟩) hhangs))
  · exact loadLinked_uncached hram ha
  · exact (State.need64_of_allowed may _).trans (loadLinked_uncached hram ha)

end

section
/-!
PROOF. Sys2Proof/Proofs/PostponedWatch.lean: a match of IWatch or DWatch while EXL or ERL is set is latched, and taken at the
first boundary with both clear (60_exceptions R695).
-/

namespace Sys2Proof.Machine

theorem Status.watchNow_eq_false {t : Status} (h : t.exl = true ∨ t.erl = true) : t.watchNow = false := by
  rcases h with h | h <;> simp [Status.watchNow, h]

/-! ## The boundary -/

theorem State.boundary_of_watchDue {s : State} {hold : Bool} (hnmi : s.events.nmiPending = false)
    (hdue : s.watchDue = true) : s.boundary hold = .trap s.takePostponedWatch := by
  simp [State.boundary, hnmi, hdue]

/-! ## The latch of a fetch -/

/-- A fetch that has matched IWatch while EXL or ERL is set. -/
def State.postponeIwatch (s : State) : State := { s with events := { s.events with iwPend := true } }

theorem State.iwatchCheck_postponed {s : State} (hmatch : s.iwatchMatches = true) (hwindow : s.hazards.iwWindow = 0)
    (hlevel : s.cp0.status.exl = true ∨ s.cp0.status.erl = true) : s.iwatchCheck = .ok () s.postponeIwatch := by
  simp [State.iwatchCheck, hmatch, hwindow, Status.watchNow_eq_false hlevel, State.postponeIwatch]

theorem State.fetchUncached_ram {s : State} (hram : s.platform = []) (pa : Word) :
    s.fetchUncached pa =
      .ok (BitVec.ofNat 32 (fromBytes s.boot.bigEndian ((wordBytes pa).map s.mem.get))) s.singleRead := by
  simp [State.fetchUncached, hram, State.bus_ram hram]

/-! ## The latch of a data access -/

section Data
variable {s : State} {va : DWord} {pa : Word} {store : Bool} (hlevel : s.cp0.status.exl = true ∨ s.cp0.status.erl = true)
  (hwindow : s.hazards.dwWindow = 0) (hram : s.platform = []) (hmatch : s.dwatchMatches va store = true)
include hlevel hwindow hram hmatch

theorem State.dataReady_postponed (xs : List Nat) : s.dataReady va pa 2#3 xs store = .ok () s.postponeDwatch := by
  obtain ⟨hunsure, hnoticed⟩ := State.dwatch_of_match hwindow hmatch
  have hparity : s.dataParityError va pa 2#3 xs store = none := by
    simp [State.dataParityError, (State.bus_ram hram).2.1]
  have hrefilled : s.dataRefilled pa 2#3 xs store true = .ok () s.postponeDwatch := by
    have herror : s.postponeDwatch.busError xs = false := (State.bus_ram (s := s.postponeDwatch) hram).2.2 xs
    simp [State.dataRefilled, Status.watchNow_eq_false hlevel, State.busHangs_ram hram, herror]
  simp [State.dataReady, hunsure, hnoticed, hparity, hrefilled, calgReserved_two]

end Data

section Access
variable {s : State} {base rt : Reg} {offset : BitVec 16} {pa : Word} {n : Nat} {store : Bool} (hhazard : NoMemHazard s)
  (hmap : MapsTo s (s.ea base offset) pa 2) (ha : (s.ea base offset).toNat % n = 0) (hram : s.platform = [])
  (hready : s.dataReady (s.ea base offset) pa 2#3 (byteAddrs s pa n) store = .ok () s.postponeDwatch)
include hhazard hmap ha hram hready

/-- A load whose match is latched gives the bytes of memory. -/
theorem State.loadAligned_postponed (hstore : store = false) (signed : Bool) :
    s.loadAligned n signed base rt offset = (s.postponeDwatch.singleRead.setReg rt
      (if signed then (BitVec.ofNat (8 * n) (datum s.mem.get s pa n)).signExtend 64
        else BitVec.ofNat 64 (datum s.mem.get s pa n))).doneMem := by
  subst hstore
  have hxs := physical_aligned s (s.ea base offset) n pa
  have hbus : s.postponeDwatch.busByte = s.mem.get := (State.bus_ram (s := s.postponeDwatch) hram).1
  have hload : s.load (aligned (s.ea base offset) n) =
      .ok ((byteAddrs s pa n).map s.mem.get, pa, 2#3) s.postponeDwatch.singleRead := by
    rw [State.load_of_ready (sp := aligned (s.ea base offset) n) hhazard hmap ha hxs hready, State.readBytes, hbus]
    rfl
  rw [State.loadAligned, hload, Access.finish_of_ok, datum_eq]
  rfl

/-- A store whose match is latched stores its bytes. -/
theorem State.storeAligned_postponed (hstore : store = true) (hn : n = 1 ∨ n = 2 ∨ n = 4 ∨ n = 8) (v : Nat) :
    ∃ t, s.storeAligned n v base offset = .next t ∧ datum t.mem.get s pa n = v % 256 ^ n ∧
      SameBytesBut (byteAddrs s pa n) s t ∧ StoreFrame s.postponeDwatch t := by
  subst hstore
  have hxs := physical_aligned s (s.ea base offset) n pa
  have hstore : s.store (aligned (s.ea base offset) n) (toBytes s.bigEndianCpu n v) =
      .ok () (s.postponeDwatch.writeStore (s.ea base offset) pa 2#3 ((byteAddrs s pa n).zip (toBytes s.bigEndianCpu n v))) := by
    rw [State.store_of_ready (sp := aligned (s.ea base offset) n) hhazard hmap ha _ hxs hready]
    exact if_neg (by rw [show s.postponeDwatch.platform = [] from hram]; simp)
  have hbytes := alignedStoreBytes (s := s) (hmap.alignedTo hn ha) v
  rw [State.storeAligned, hstore, Access.finish_of_ok]
  refine ⟨_, State.doneMem_eq _, ?_, ?_, s.postponeDwatch.writeStore_uncached_frame _ pa _⟩
  · rw [datum_eq]
    have hread := State.map_mem_writeStore (s := s.postponeDwatch) hram (s.ea base offset) hbytes (alg := 2) (by decide)
    exact (congrArg (fromBytes s.bigEndianCpu) hread).trans (fromBytes_toBytes _ _ _)
  · exact State.writeStore_sameBytesBut (s := s.postponeDwatch) (pa := pa) (alg := 2) (s.ea base offset)

end Access

end Sys2Proof.Machine

open Sys2Proof Sys2Proof.Machine

/-- Settles O22: the boundary takes what is latched; a match under EXL or ERL sets its latch, and the fetch or the access goes
on. -/
theorem postponedWatch : Obligations.PostponedWatch := by
  refine ⟨fun s hinputs hstandby hnmi hexl herl hpend => ?boundary,
    fun s pa i hdue hlevel hram hmatch hiw hmapped htranslate halign hwf hbytes => ?fetch,
    fun s base rt offset pa hlevel hhazard hwindow hram hmap ha => ⟨fun hmatch => ?load, fun hmatch => ?store⟩⟩
  case boundary =>
    have hdue : s.watchDue = true := by
      rw [State.watchDue, Status.watchNow, hexl, herl]
      exact Bool.or_eq_true_iff.2 hpend
    refine ⟨s.takePostponedWatch, ?_, ?_⟩
    · change s.run = _
      rw [State.run_quiet hinputs, State.begun_eq_boundary hstandby, State.boundary_of_watchDue hnmi hdue]
      rfl
    · obtain ⟨entered, -, -⟩ := s.takeException_exceptionTaken (e := .watch s.events.iwPend s.events.dwPend) rfl none
      exact ⟨entered, rfl, rfl, rfl, rfl, hstandby⟩
  case fetch =>
    have hword : BitVec.ofNat 32 (fromBytes s.boot.bigEndian ((wordBytes pa).map s.mem.get)) = encode i := by
      rw [map_wordBytes]
      exact ofNat_fromBytes_of_memNumber hbytes
    have hfetch : s.fetch = .ok (encode i) s.postponeIwatch.singleRead := by
      rw [State.fetch, State.fetchAddress_aligned hmapped htranslate halign, Access.bind_of_ok]
      dsimp only
      rw [State.iwatchCheck_postponed hmatch hiw hlevel, Access.bind_of_ok, if_pos rfl,
        State.fetchUncached_ram (s := s.postponeIwatch) hram]
      exact congrArg (Access.ok · _) hword
    exact ⟨_, rfl, stepRunsDecoded s _ (encode i) i hdue hfetch (decode_encode i hwf)⟩
  case load =>
    have hexec := State.loadAligned_postponed (rt := rt) hhazard hmap ha hram
      (State.dataReady_postponed hlevel hwindow hram hmatch _) rfl true
    obtain ⟨t, ht, writes, ⟨-, -, hcp0, -, -, bytes, hevents, -⟩, advanced⟩ := gprLoad_uncached s.postponeDwatch rt _
    exact ⟨t, hexec.trans ht, writes, hevents, hcp0, bytes, advanced⟩
  case store =>
    obtain ⟨t, ht, hdatum, bytes, sameGpr, -, -, hcp0, -, -, ⟨hevents, -⟩, advanced, -⟩ :=
      State.storeAligned_postponed hhazard hmap ha hram (State.dataReady_postponed hlevel hwindow hram hmatch _) rfl
        (by decide) (s.reg rt).toNat
    exact ⟨t, ht, hdatum, hevents, hcp0, sameGpr, bytes, advanced⟩

end

section
/-!
PROOF. Sys2Proof/Proofs/FpOperations.lean: the end of an operation of the FPU, and what the arithmetic, the sign operations, the
compares and the transfers answer (48_fpu_state_and_rules R554 to R565, R580; 49_fpu_instructions R601 to R608, R625 to R635).
-/

namespace Sys2Proof.Machine

/-! ## The end of an operation (48_fpu_state_and_rules R558, R559, R565) -/

theorem fpTrap_eq_false_iff (c : FpCause) (enables : BitVec 5) :
    fpTrap c enables = false ↔ c.extractLsb' 0 5 &&& enables = 0#5 ∧ c.getLsbD 5 = false := by
  simp [fpTrap, and_comm]

section Store
variable {i : Instr} {s : State} {fd : Reg} {c : FpCause} {v : Word}

/-- FGR[fd] and FCR31 written, the end of an operation that does not trap. -/
theorem fgrResult_of_writes {f : Fcr31} (h : exec i s = ((s.setFcr31 f).setFgr fd v).done) : FgrResult i fd v f s := by
  refine ⟨_, h, ?_, fun g hg => ?_, rfl, ⟨fun _ => rfl, ⟨rfl, rfl⟩, rfl, ⟨rfl, rfl, rfl⟩, ⟨rfl, rfl⟩, fun _ => rfl,
    ⟨rfl, rfl, rfl, rfl, rfl, rfl⟩⟩, ⟨rfl, rfl, rfl⟩⟩
  · exact ((s.setFcr31 f).fgr_setFgr fd fd v).trans (if_pos rfl)
  · exact ((s.setFcr31 f).fgr_setFgr fd g v).trans (if_neg hg)

/-- A result whose cause has no enabled bit is stored, and the Flags accumulate. -/
theorem fgrResult_of_fpStore (h : exec i s = s.fpStore fd (.value c v))
    (htrap : fpTrap c s.fpu.fcr31.enables = false) :
    FgrResult i fd v { s.fpu.fcr31 with cause := c, flags := s.fpu.fcr31.flags ||| c.extractLsb' 0 5 } s := by
  refine fgrResult_of_writes (h.trans ?_)
  rw [State.fpStore, State.fpUnlessTrap, htrap]
  rfl

/-- The same of a result without a cause: the Flags stay. -/
theorem fgrResult_of_fpStore_exact (h : exec i s = s.fpStore fd (.value 0 v)) :
    FgrResult i fd v { s.fpu.fcr31 with cause := 0 } s := by
  have hresult := fgrResult_of_fpStore h (fpTrap_zero _)
  rwa [show (0 : FpCause).extractLsb' 0 5 = 0#5 from rfl, BitVec.or_zero] at hresult

theorem fpTrapResult_of_fpStore_value (h : exec i s = s.fpStore fd (.value c v))
    (htrap : fpTrap c s.fpu.fcr31.enables = true) : FpTrapResult i c s := by
  refine fpTrapResult_of_fpRaise (h.trans ?_)
  rw [State.fpStore, State.fpUnlessTrap, htrap]
  rfl

theorem fpTrapResult_of_fpStore_traps (h : exec i s = s.fpStore fd (.traps c)) : FpTrapResult i c s :=
  fpTrapResult_of_fpRaise h

/-- Invalid Operation with its default result (R562). -/
theorem invalid_of_fpStore (h : exec i s = s.fpStore fd (.value causeV qnanS)) :
    if s.fpu.fcr31.enables.getLsbD 4 then FpTrapResult i causeV s
    else FgrResult i fd 0x7FBFFFFF
      { s.fpu.fcr31 with cause := causeV, flags := s.fpu.fcr31.flags ||| 0b10000 } s := by
  have htrap := fpTrap_causeV s.fpu.fcr31.enables
  split
  case isTrue enabled => exact fpTrapResult_of_fpStore_value h (htrap.trans enabled)
  case isFalse disabled => exact fgrResult_of_fpStore h (htrap.trans (Bool.eq_false_iff.2 disabled))

end Store

/-! ## Operand screening (R565; log 30) -/

theorem screened_eq (xs : List Word) (r : FpResult) [Decidable (∃ x ∈ xs, fpClass x = .denorm ∨ fpClass x = .qnan)]
    [Decidable (∃ x ∈ xs, fpClass x = .snan)] :
    screened xs r = if ∃ x ∈ xs, fpClass x = .denorm ∨ fpClass x = .qnan then .traps causeE
      else if ∃ x ∈ xs, fpClass x = .snan then .value causeV 0x7FBFFFFF else r := by
  simp only [screened, List.any_eq_true, Bool.or_eq_true, beq_iff_eq]
  rfl

/-- Operands that are neither NaNs nor denormalized pass. -/
theorem screened_of_pass {xs : List Word} (r : FpResult) (h : ∀ x ∈ xs, fpClass x ∈ [.zero, .normal, .inf]) :
    screened xs r = r := by
  have hclass : ∀ x ∈ xs, fpClass x ≠ .denorm ∧ fpClass x ≠ .qnan ∧ fpClass x ≠ .snan := fun x hx => by
    have := h x hx
    cases hc : fpClass x <;> simp_all
  rw [screened_eq, if_neg, if_neg]
  · rintro ⟨x, hx, hsnan⟩
    exact (hclass x hx).2.2 hsnan
  · rintro ⟨x, hx, hdenorm | hqnan⟩
    · exact (hclass x hx).1 hdenorm
    · exact (hclass x hx).2.1 hqnan

section Operations
variable {s : State} (hcp1 : Cp1Usable s)
include hcp1

/-- The arithmetic, and what it screens. -/
theorem exec_eq_fpStore_arithmetic {ft fs fd : Reg} (hlegal : FpRegsLegal s [ft, fs, fd]) (a b : Word) (ha : a = s.fgr fs)
    (hb : b = s.fgr ft) :
    ∀ p ∈ [(Instr.addS ft fs fd, fpAdd s.fpu.fcr31 a b, [a, b]), (.subS ft fs fd, fpAdd s.fpu.fcr31 a (fpFlip b), [a, b]),
        (.mulS ft fs fd, fpMul s.fpu.fcr31 a b, [a, b]), (.divS ft fs fd, fpDiv s.fpu.fcr31 a b, [a, b]),
        (.sqrtS fs fd, fpSqrt s.fpu.fcr31 a, [a])],
      exec p.1 s = s.fpStore fd (screened p.2.2 p.2.1) := by
  have hone : FpRegsLegal s [fs, fd] := hlegal.imp_right List.forall_mem_of_forall_mem_cons
  subst ha hb
  simp only [List.forall_mem_cons]
  exact ⟨State.fpOp_of_legal hcp1 hlegal _, State.fpOp_of_legal hcp1 hlegal _, State.fpOp_of_legal hcp1 hlegal _,
    State.fpOp_of_legal hcp1 hlegal _, State.fpOp_of_legal hcp1 hone _, List.forall_mem_nil _⟩

variable {fs fd : Reg} (hlegal : FpRegsLegal s [fs, fd])
include hlegal

theorem exec_absS : exec (.absS fs fd) s = s.fpStore fd (screened [s.fgr fs] (fpAbs (s.fgr fs))) :=
  State.fpOp_of_legal hcp1 hlegal _

theorem exec_negS : exec (.negS fs fd) s = s.fpStore fd (screened [s.fgr fs] (fpNeg (s.fgr fs))) :=
  State.fpOp_of_legal hcp1 hlegal _

end Operations

/-! ## Signs (49_fpu_instructions R606, R608) -/

theorem bit_msb (x : Word) : bit x.msb = x.extractLsb' 31 1 := by
  ext k hk
  obtain rfl : k = 0 := by omega
  cases h : x.msb <;> simp_all [bit, BitVec.msb_eq_getLsbD_last]

/-- A single is its sign bit and its magnitude. -/
theorem bit_msb_append (x : Word) : bit x.msb ++ x.extractLsb' 0 31 = x := by
  rw [bit_msb, BitVec.extractLsb'_append_extractLsb'_eq_extractLsb' (by decide)]
  simp

theorem fpAbs_eq (x : Word) : fpAbs x = .value 0 (0#1 ++ x.extractLsb' 0 31) := by
  refine congrArg (FpResult.value 0) ?_
  calc x &&& 0x7FFFFFFF
      = (bit x.msb ++ x.extractLsb' 0 31) &&& (0#1 ++ BitVec.allOnes 31) := by rw [bit_msb_append]; rfl
    _ = 0#1 ++ x.extractLsb' 0 31 := by rw [BitVec.and_append, BitVec.and_zero, BitVec.and_allOnes]

theorem fpFlip_eq (x : Word) : fpFlip x = bit (!x.msb) ++ x.extractLsb' 0 31 := by
  have hbit : bit x.msb ^^^ 1#1 = bit (!x.msb) := by cases x.msb <;> rfl
  calc x ^^^ 0x80000000
      = (bit x.msb ++ x.extractLsb' 0 31) ^^^ (1#1 ++ 0#31) := by rw [bit_msb_append]; rfl
    _ = bit (!x.msb) ++ x.extractLsb' 0 31 := by rw [BitVec.xor_append, BitVec.xor_zero, hbit]

theorem fpNeg_eq (x : Word) : fpNeg x = .value 0 (bit (!x.msb) ++ x.extractLsb' 0 31) :=
  congrArg (FpResult.value 0) (fpFlip_eq x)

end Sys2Proof.Machine

open Sys2Proof Sys2Proof.Machine

/-- Settles O53: each operation ends in `fpStore` of its screened result. -/
theorem fpArithmetic : Obligations.FpArithmetic := by
  intro s ft fs fd hcp1 hlegal a b ha hb p hp r hr
  have hexec : exec p.1 s = s.fpStore fd r := by
    rw [hr, exec_eq_fpStore_arithmetic hcp1 hlegal a b ha hb p hp, screened_eq]
  clear hr
  cases r with
  | traps c => exact fpTrapResult_of_fpStore_traps hexec
  | value c v =>
    dsimp only
    split
    case isTrue quiet => exact fgrResult_of_fpStore hexec ((fpTrap_eq_false_iff _ _).2 quiet)
    case isFalse traps =>
      exact fpTrapResult_of_fpStore_value hexec (Bool.eq_true_of_not_eq_false fun h => traps ((fpTrap_eq_false_iff _ _).1 h))

/-- Settles O56: the operands that pass the screening change in their sign bit alone (`fpAbs_eq`, `fpNeg_eq`). -/
theorem fpSign : Obligations.FpSign := by
  intro s fs fd hcp1 hlegal
  have habs := exec_absS hcp1 hlegal
  have hneg := exec_negS hcp1 hlegal
  refine ⟨fgrResult_of_fpStore_exact (State.fpOp_of_legal hcp1 hlegal _), fun hclass => ?_, fun i hi => ?_⟩
  · have hpass : ∀ x ∈ [s.fgr fs], fpClass x ∈ [.zero, .normal, .inf] := by simpa using hclass
    rw [screened_of_pass _ hpass, fpAbs_eq] at habs
    rw [screened_of_pass _ hpass, fpNeg_eq] at hneg
    exact ⟨fgrResult_of_fpStore_exact habs, fgrResult_of_fpStore_exact hneg⟩
  · obtain ⟨r, hexec⟩ : ∃ r, exec i s = s.fpStore fd (screened [s.fgr fs] r) := by
      simp only [List.mem_cons, List.not_mem_nil, or_false] at hi
      rcases hi with rfl | rfl
      · exact ⟨_, habs⟩
      · exact ⟨_, hneg⟩
    rw [screened_eq] at hexec
    refine ⟨fun hclass => ?_, fun hclass => ?_⟩
    · have hstop : ∃ x ∈ [s.fgr fs], fpClass x = .denorm ∨ fpClass x = .qnan := by simpa using hclass
      rw [if_pos hstop] at hexec
      exact fpTrapResult_of_fpStore_traps hexec
    · rw [if_neg (by simp [hclass]), if_pos (by simp [hclass])] at hexec
      exact invalid_of_fpStore hexec

end

section
/-!
PROOF. Sys2Proof/Proofs/FpCompares.lean: the compares and the transfers of the FPU (48_fpu_state_and_rules R554, R580;
49_fpu_instructions R625 to R635).
-/

namespace Sys2Proof.Machine

/-! ## The relation of two operands (R580) -/

section Relation
variable {a b : Word} {nan less equal : Prop} (hnan : nan ↔ fpClass a ∈ [.snan, .qnan] ∨ fpClass b ∈ [.snan, .qnan])
include hnan

theorem unordered_iff : (isNan a || isNan b) = true ↔ nan := by
  rw [Bool.or_eq_true, isNan_iff, isNan_iff, hnan]

/-- Bits 2 to 0 of the condition ask for less, equal and unordered (R626). -/
theorem fpCondition_iff (hless : less ↔ ¬nan ∧ fpScaled a < fpScaled b) (hequal : equal ↔ ¬nan ∧ fpScaled a = fpScaled b)
    (cond : BitVec 4) :
    fpCondition cond a b = true ↔ cond.getLsbD 0 = true ∧ nan ∨ cond.getLsbD 2 = true ∧ less ∨ cond.getLsbD 1 = true ∧ equal := by
  rw [fpCondition]
  split
  case isTrue h =>
    have h := (unordered_iff hnan).1 h
    simp [hless, hequal, h]
  case isFalse h =>
    have h : ¬nan := fun hn => h ((unordered_iff hnan).2 hn)
    simp [hless, hequal, h]

end Relation

/-! ## The end of a compare (R625) -/

/-- FCR31 written and nothing else but what is on record. -/
theorem State.setFcr31_advance_ends (s : State) (f : Fcr31) (r : Hazards) :
    ∀ t, t = { (s.setFcr31 f).advance with hazards := r } →
      t.fpu = { s.fpu with fcr31 := f } ∧ FrameFpu s t ∧ Advanced s t := by
  rintro t rfl
  exact ⟨rfl, ⟨fun _ => rfl, ⟨rfl, rfl⟩, rfl, ⟨rfl, rfl, rfl⟩, ⟨rfl, rfl⟩, fun _ => rfl, ⟨rfl, rfl, rfl, rfl, rfl, rfl⟩⟩,
    ⟨rfl, rfl, rfl⟩⟩

theorem State.fpCompared_eq (s : State) (cond : BitVec 4) (a b : Word) {c : FpCause} (hc : compareCause cond a b = c) :
    s.fpCompared cond a b =
      { (s.setFcr31 { s.fpu.fcr31 with
          c := fpCondition cond a b, cause := c, flags := s.fpu.fcr31.flags ||| c.extractLsb' 0 5 }).advance with
        hazards := (s.fpCompared cond a b).hazards } := by
  subst hc
  rfl

section Compare
variable {i : Instr} {s : State} {cond : BitVec 4} {ft fs : Reg} (hcp1 : Cp1Usable s) (hlegal : FpRegsLegal s [ft, fs])
  (h : exec i s = s.fpCompare cond ft fs)
include hcp1 hlegal h

/-- A compare whose cause does not trap writes FCR31 alone. -/
theorem ends_of_fpCompare {c : FpCause} (hc : compareCause cond (s.fgr fs) (s.fgr ft) = c)
    (htrap : fpTrap c s.fpu.fcr31.enables = false) :
    ∃ t, exec i s = .next t ∧
      t.fpu.fcr31 = { s.fpu.fcr31 with
        c := fpCondition cond (s.fgr fs) (s.fgr ft), cause := c, flags := s.fpu.fcr31.flags ||| c.extractLsb' 0 5 } ∧
      t.fpu.fgr = s.fpu.fgr ∧ FrameFpu s t ∧ Advanced s t := by
  obtain ⟨fpu, frame, advanced⟩ := s.setFcr31_advance_ends _ _ _ (s.fpCompared_eq cond (s.fgr fs) (s.fgr ft) hc)
  refine ⟨s.fpCompared cond (s.fgr fs) (s.fgr ft), ?_, by rw [fpu], by rw [fpu], frame, advanced⟩
  rw [h, State.fpCompare, State.fpOp_of_legal hcp1 hlegal, State.fpUnlessTrap, hc, htrap]
  rfl

theorem fpTrapResult_of_fpCompare {c : FpCause} (hc : compareCause cond (s.fgr fs) (s.fgr ft) = c)
    (htrap : fpTrap c s.fpu.fcr31.enables = true) : FpTrapResult i c s := by
  refine fpTrapResult_of_fpRaise ?_
  rw [h, State.fpCompare, State.fpOp_of_legal hcp1 hlegal, State.fpUnlessTrap, hc, htrap]
  rfl

end Compare

theorem compareCause_eq (cond : BitVec 4) (a b : Word) {nan : Prop} (hnan : (isNan a || isNan b) = true ↔ nan) :
    (¬(cond.getLsbD 3 = true ∧ nan) → compareCause cond a b = 0) ∧
    (cond.getLsbD 3 = true → nan → compareCause cond a b = causeV) := by
  have hsignals : (cond.getLsbD 3 && (isNan a || isNan b)) = true ↔ cond.getLsbD 3 = true ∧ nan := by
    rw [Bool.and_eq_true, hnan]
  exact ⟨fun h => if_neg fun k => h (hsignals.1 k), fun hsignal h => if_pos (hsignals.2 ⟨hsignal, h⟩)⟩

/-! ## The sixteen conditions (R626) -/

/-- The condition code of each compare. -/
theorem encode_compare (ft fs : Reg) :
    ∀ p ∈ [(Instr.cFS ft fs, 0x0#4), (.cUnS ft fs, 0x1#4), (.cEqS ft fs, 0x2#4), (.cUeqS ft fs, 0x3#4),
        (.cOltS ft fs, 0x4#4), (.cUltS ft fs, 0x5#4), (.cOleS ft fs, 0x6#4), (.cUleS ft fs, 0x7#4), (.cSfS ft fs, 0x8#4),
        (.cNgleS ft fs, 0x9#4), (.cSeqS ft fs, 0xA#4), (.cNglS ft fs, 0xB#4), (.cLtS ft fs, 0xC#4),
        (.cNgeS ft fs, 0xD#4), (.cLeS ft fs, 0xE#4), (.cNgtS ft fs, 0xF#4)],
      encode p.1 = 0b010001#6 ++ 0b10000#5 ++ ft ++ fs ++ 0#5 ++ (0b11#2 ++ p.2) := by
  simp only [List.forall_mem_cons]
  exact ⟨rfl, rfl, rfl, rfl, rfl, rfl, rfl, rfl, rfl, rfl, rfl, rfl, rfl, rfl, rfl, rfl, List.forall_mem_nil _⟩

theorem append_function (x : BitVec 26) (cond : BitVec 4) : x ++ (0b11#2 ++ cond) = x ++ 0b11#2 ++ cond := by
  rw [BitVec.append_assoc]
  rfl

/-- Each compare is the compare of a code with the condition it names. -/
theorem exec_eq_fpCompare_condition (s : State) (ft fs : Reg) (nan less equal : Prop) :
    ∀ p ∈ [(Instr.cFS ft fs, False, false), (.cUnS ft fs, nan, false), (.cEqS ft fs, equal, false),
        (.cUeqS ft fs, equal ∨ nan, false), (.cOltS ft fs, less, false), (.cUltS ft fs, less ∨ nan, false),
        (.cOleS ft fs, less ∨ equal, false), (.cUleS ft fs, less ∨ equal ∨ nan, false), (.cSfS ft fs, False, true),
        (.cNgleS ft fs, nan, true), (.cSeqS ft fs, equal, true), (.cNglS ft fs, equal ∨ nan, true),
        (.cLtS ft fs, less, true), (.cNgeS ft fs, less ∨ nan, true), (.cLeS ft fs, less ∨ equal, true),
        (.cNgtS ft fs, less ∨ equal ∨ nan, true)],
      ∃ cond : BitVec 4, exec p.1 s = s.fpCompare cond ft fs ∧ cond.getLsbD 3 = p.2.2 ∧
        (cond.getLsbD 0 = true ∧ nan ∨ cond.getLsbD 2 = true ∧ less ∨ cond.getLsbD 1 = true ∧ equal ↔ p.2.1) := by
  have code (k : BitVec 4) (b0 b1 b2 : Bool) (h0 : k.getLsbD 0 = b0) (h1 : k.getLsbD 1 = b1) (h2 : k.getLsbD 2 = b2) :
      (k.getLsbD 0 = true ∧ nan ∨ k.getLsbD 2 = true ∧ less ∨ k.getLsbD 1 = true ∧ equal ↔
        (b2 = true ∧ less) ∨ (b1 = true ∧ equal) ∨ (b0 = true ∧ nan)) := by rw [h0, h1, h2]; tauto
  simp only [List.forall_mem_cons]
  refine ⟨⟨0x0, rfl, rfl, (code 0x0 false false false rfl rfl rfl).trans (by simp)⟩,
    ⟨0x1, rfl, rfl, (code 0x1 true false false rfl rfl rfl).trans (by simp)⟩,
    ⟨0x2, rfl, rfl, (code 0x2 false true false rfl rfl rfl).trans (by simp)⟩,
    ⟨0x3, rfl, rfl, (code 0x3 true true false rfl rfl rfl).trans (by simp)⟩,
    ⟨0x4, rfl, rfl, (code 0x4 false false true rfl rfl rfl).trans (by simp)⟩,
    ⟨0x5, rfl, rfl, (code 0x5 true false true rfl rfl rfl).trans (by simp)⟩,
    ⟨0x6, rfl, rfl, (code 0x6 false true true rfl rfl rfl).trans (by simp)⟩,
    ⟨0x7, rfl, rfl, (code 0x7 true true true rfl rfl rfl).trans (by simp)⟩,
    ⟨0x8, rfl, rfl, (code 0x8 false false false rfl rfl rfl).trans (by simp)⟩,
    ⟨0x9, rfl, rfl, (code 0x9 true false false rfl rfl rfl).trans (by simp)⟩,
    ⟨0xA, rfl, rfl, (code 0xA false true false rfl rfl rfl).trans (by simp)⟩,
    ⟨0xB, rfl, rfl, (code 0xB true true false rfl rfl rfl).trans (by simp)⟩,
    ⟨0xC, rfl, rfl, (code 0xC false false true rfl rfl rfl).trans (by simp)⟩,
    ⟨0xD, rfl, rfl, (code 0xD true false true rfl rfl rfl).trans (by simp)⟩,
    ⟨0xE, rfl, rfl, (code 0xE false true true rfl rfl rfl).trans (by simp)⟩,
    ⟨0xF, rfl, rfl, (code 0xF true true true rfl rfl rfl).trans (by simp)⟩, List.forall_mem_nil _⟩

/-! ## The transfers (R630 to R635) -/

section Transfers
variable {s : State} (hcp1 : Cp1Usable s) (rt : Reg)
include hcp1

theorem exec_ctc1 : exec (.ctc1 rt 31) s =
    if fpTrap (Fcr31.ofWord (low32 (s.reg rt))).cause (Fcr31.ofWord (low32 (s.reg rt))).enables then
      .next (s.trappedFcr31 (Fcr31.ofWord (low32 (s.reg rt))))
    else .next (s.wroteFcr31 (Fcr31.ofWord (low32 (s.reg rt)))) := State.needCp1_of_usable hcp1 _

theorem exec_ctc1_other {fs : Reg} (h : fs ≠ 31) : exec (.ctc1 rt fs) s = .refused .ctc1Reserved :=
  (State.needCp1_of_usable hcp1 _).trans (if_neg h)

/-- CFC1 of a number that is no control register gives any value (U25; log 37). -/
theorem exists_gprResult_cfc1 (fs : Reg) : ∃ v, GprResult (.cfc1 rt fs) rt v s := by
  have hexec : exec (.cfc1 rt fs) s = if fs = 0 then (s.setReg rt (sext32 fcr0Word)).done
      else if fs = 31 then (s.setReg rt (sext32 s.fpu.fcr31.toWord)).done
      else (s.setReg rt (s.free 64)).drawn.done := State.needCp1_of_usable hcp1 _
  split at hexec
  · exact ⟨_, gprResult_of_result hexec⟩
  · split at hexec
    · exact ⟨_, gprResult_of_result hexec⟩
    · exact ⟨_, gprResult_of_resultFree (n := s.fresh) hexec⟩

end Transfers

end Sys2Proof.Machine

open Sys2Proof Sys2Proof.Machine

/-- Settles O58: each compare is `fpCompare` of its code (`exec_eq_fpCompare_condition`), whose bits are asked in turn
(`fpCondition_iff`). -/
theorem fpCompare : Obligations.FpCompare := by
  intro s ft fs hcp1 hlegal a b ha hb nan less equal hnan hless hequal
  subst ha hb
  refine ⟨fun p hp => (encode_compare ft fs p hp).trans (append_function _ _), fun p hp => ?_⟩
  obtain ⟨cond, hexec, hsignal, hbits⟩ := exec_eq_fpCompare_condition s ft fs nan less equal p hp
  obtain ⟨hquiet, hinvalid⟩ := compareCause_eq cond (s.fgr fs) (s.fgr ft) (unordered_iff hnan)
  have hcond := (fpCondition_iff hnan hless hequal cond).trans hbits
  have hflags : s.fpu.fcr31.flags ||| (0 : FpCause).extractLsb' 0 5 = s.fpu.fcr31.flags := BitVec.or_zero
  rw [hsignal] at hquiet hinvalid
  refine ⟨fun h => ?_, fun hsig hn hdisabled => ?_, fun hsig hn henabled => ?_⟩
  · obtain ⟨t, ht, hfcr, hfgr, frame, advanced⟩ := ends_of_fpCompare hcp1 hlegal hexec (hquiet h) (fpTrap_zero _)
    rw [hflags] at hfcr
    have hc := congrArg Fcr31.c hfcr
    exact ⟨t, ht, hc ▸ hcond, by rw [hc]; exact hfcr, hfgr, frame, advanced⟩
  · obtain ⟨t, ht, hfcr, hfgr, frame, advanced⟩ :=
      ends_of_fpCompare hcp1 hlegal hexec (hinvalid hsig hn) ((fpTrap_causeV _).trans hdisabled)
    have hc := congrArg Fcr31.c hfcr
    exact ⟨t, ht, hc ▸ hcond, by rw [hc]; exact hfcr, hfgr, frame, advanced⟩
  · exact fpTrapResult_of_fpCompare hcp1 hlegal hexec (hinvalid hsig hn) ((fpTrap_causeV _).trans henabled)

/-- Settles O59: the transfers write one register; CTC1 writes FCR31 and then asks whether a Cause bit traps. -/
theorem fpTransfers : Obligations.FpTransfers := by
  intro s rt fs hcp1
  refine ⟨gprResult_of_result (State.needCp1_of_usable hcp1 _), ?_, gprResult_of_result (State.needCp1_of_usable hcp1 _),
    gprResult_of_result (State.needCp1_of_usable hcp1 _), exists_gprResult_cfc1 hcp1 rt fs,
    fun v new hv hnew => ?_, fun h => exec_ctc1_other hcp1 rt h⟩
  · exact fgrResult_of_writes (f := s.fpu.fcr31) (State.needCp1_of_usable hcp1 _)
  · obtain rfl : new = Fcr31.ofWord (low32 (s.reg rt)) := by rw [hnew, hv]; rfl
    have hexec := exec_ctc1 hcp1 rt
    have htrap := fpTrap_eq_false_iff (Fcr31.ofWord (low32 (s.reg rt))).cause (Fcr31.ofWord (low32 (s.reg rt))).enables
    generalize Fcr31.ofWord (low32 (s.reg rt)) = new at *
    refine ⟨fun hcause hflags => ?_, fun htraps => ?_⟩
    · rw [htrap.2 ⟨hflags, hcause⟩] at hexec
      obtain ⟨fpu, frame, advanced⟩ := s.setFcr31_advance_ends new (s.wroteFcr31 new).hazards _ rfl
      refine ⟨_, hexec, fpu, frame, advanced, ?_⟩
      rw [← bne_eq_decide_ne, ← State.agedHazards_eq]
      rfl
    · have htrue : fpTrap new.cause new.enables = true := Bool.eq_true_of_not_eq_false fun h => by
        obtain ⟨hflags, hcause⟩ := htrap.1 h
        rcases htraps with hE | hF
        · exact Bool.false_ne_true (hcause.symm.trans hE)
        · exact hF hflags
      rw [htrue] at hexec
      obtain ⟨entered, fpu, outside⟩ := (s.setFcr31 new).raised_exceptionTaken (e := .fpe) rfl none
      exact ⟨_, hexec, entered, outside, fpu⟩

end

section
/-!
PROOF. Sys2Proof/Proofs/FpRoundingCore.lean: a real magnitude rounded to 24 bits, and what that is among the finite singles
(48_fpu_state_and_rules R555, R566, R569, R570). Magnitudes are real numbers in units of 2^-149.
-/

namespace Sys2Proof.Machine

/-! ## A magnitude between two neighbours -/

/-- `y` is the fraction `t` of the way from `q` to `q + 1` in units of `2^z`, `q` having 24 bits. -/
structure Split (y : ℝ) (q : ℕ) (z : ℤ) (t : ℝ) : Prop where
  low : 2 ^ 23 ≤ q
  high : q < 2 ^ 24
  nonneg : 0 ≤ t
  lt_one : t < 1
  eq : y = (q + t) * (2 : ℝ) ^ z

/-- The directed modes that round a magnitude with this sign up. -/
def Away (mode : RoundMode) (neg : Bool) : Prop := mode = .rp ∧ neg = false ∨ mode = .rm ∧ neg = true

/-- The mode takes the upper neighbour (R555). -/
def GoesUp (mode : RoundMode) (neg : Bool) (q : ℕ) (t : ℝ) : Prop :=
  mode = .rn ∧ (1 / 2 < t ∨ t = 1 / 2 ∧ q % 2 = 1) ∨ Away mode neg ∧ t ≠ 0

/-- `sig * 2^e` is `y` rounded to 24 bits in the mode, its exponent not bounded (R566). -/
def Rounds (mode : RoundMode) (neg : Bool) (y : ℝ) (sig : ℕ) (e : ℤ) (inexact : Bool) : Prop :=
  ∃ q z t, Split y q z t ∧ (inexact = true ↔ t ≠ 0) ∧ 2 ^ 23 ≤ sig ∧ sig < 2 ^ 24 ∧
    (¬GoesUp mode neg q t → sig = q ∧ e + 149 = z) ∧
    (GoesUp mode neg q t → sig = q + 1 ∧ e + 149 = z ∨ q + 1 = 2 ^ 24 ∧ sig = 2 ^ 23 ∧ e + 149 = z + 1)

/-! ## The magnitude that an operation hands to the rounding -/

/-- `x` stands for the magnitude `y`: exactly, or as an odd number of 27 bits between whose neighbours `y` lies. -/
def Magnitude.Of (x : Magnitude) (y : ℝ) : Prop :=
  0 < x.m ∧ (y = x.m * 2 ^ (x.e + 149) ∨
    x.m % 2 = 1 ∧ 2 ^ 26 ≤ x.m ∧ ((x.m : ℝ) - 1) * 2 ^ (x.e + 149) < y ∧ y < ((x.m : ℝ) + 1) * 2 ^ (x.e + 149))

/-- The real remainder `ry` of a division by `d` lies as the integer remainder `r` does: below, at or above the half, zero or
not. -/
structure SameSide (r : ℕ) (ry : ℝ) (d : ℕ) : Prop where
  nonneg : 0 ≤ ry
  lt : ry < d
  above : d < 2 * r ↔ (d : ℝ) < 2 * ry
  half : 2 * r = d ↔ 2 * ry = (d : ℝ)
  zero : r ≠ 0 ↔ ry ≠ 0

theorem sameSide_self {r d : ℕ} (h : r < d) : SameSide r (r : ℝ) d where
  nonneg := Nat.cast_nonneg r
  lt := Nat.cast_lt.mpr h
  above := by exact_mod_cast Iff.rfl
  half := by exact_mod_cast Iff.rfl
  zero := by exact_mod_cast Iff.rfl

/-- An odd remainder of a multiple of four tells where everything between its neighbours lies. -/
theorem sameSide_of_odd {r d c : ℕ} {ry : ℝ} (hodd : r % 2 = 1) (hd : d % 4 = 0) (h : r < d) (hc : 0 < c)
    (hlow : ((r : ℝ) - 1) * c < ry) (hhigh : ry < ((r : ℝ) + 1) * c) : SameSide (r * c) ry (d * c) := by
  obtain ⟨k, rfl⟩ : ∃ k, d = 4 * k := ⟨d / 4, by omega⟩
  have hc' : (0 : ℝ) < c := Nat.cast_pos.mpr hc
  have hr1 : (1 : ℝ) ≤ r := by exact_mod_cast (show 1 ≤ r by omega)
  have hrd : (r : ℝ) + 1 ≤ 4 * k := by exact_mod_cast (show r + 1 ≤ 4 * k by omega)
  have hpos : 0 < ry := lt_of_le_of_lt (mul_nonneg (sub_nonneg.mpr hr1) hc'.le) hlow
  have hside : r + 1 ≤ 2 * k ∨ 2 * k + 1 ≤ r := by omega
  refine ⟨hpos.le, by push_cast; nlinarith, ?_, ?_, ?_⟩
  · push_cast
    rcases hside with hb | ha
    · have hb' : (r : ℝ) + 1 ≤ 2 * k := by exact_mod_cast hb
      refine ⟨fun hlt => absurd hlt (not_lt.mpr (by nlinarith)), fun hlt => absurd hlt (not_lt.mpr (by nlinarith))⟩
    · have ha' : (2 : ℝ) * k + 1 ≤ r := by exact_mod_cast ha
      exact ⟨fun _ => by nlinarith, fun _ => by nlinarith⟩
  · push_cast
    rcases hside with hb | ha
    · have hb' : (r : ℝ) + 1 ≤ 2 * k := by exact_mod_cast hb
      exact ⟨fun heq => absurd heq (by nlinarith), fun heq => absurd heq (by nlinarith)⟩
    · have ha' : (2 : ℝ) * k + 1 ≤ r := by exact_mod_cast ha
      exact ⟨fun heq => absurd heq (by nlinarith), fun heq => absurd heq (by nlinarith)⟩
  · exact ⟨fun _ => hpos.ne', fun _ => (Nat.mul_pos (by omega) hc).ne'⟩

theorem roundsUp_iff (mode : RoundMode) (neg : Bool) (q : ℕ) {r d : ℕ} {ry : ℝ} (hd : 0 < d) (h : SameSide r ry d) :
    roundsUp mode neg q r d = true ↔ GoesUp mode neg q (ry / d) := by
  have hd' : (0 : ℝ) < d := Nat.cast_pos.mpr hd
  have habove : 1 / 2 < ry / d ↔ (d : ℝ) < 2 * ry := by rw [lt_div_iff₀ hd']; constructor <;> intro <;> linarith
  have hhalf : ry / d = 1 / 2 ↔ 2 * ry = (d : ℝ) := by rw [div_eq_iff hd'.ne']; constructor <;> intro <;> linarith
  have hzero : ry / d ≠ 0 ↔ r ≠ 0 := by rw [h.zero, ne_eq, div_eq_zero_iff, not_or, and_iff_left hd'.ne']
  rw [GoesUp, habove, hhalf, hzero, ← h.above, ← h.half, Away]
  cases mode <;> cases neg <;> simp [roundsUp]

/-! ## Rounding to 24 bits (R566) -/

/-- The size of the shifted magnitude and of the shift that leaves 24 bits of it. -/
theorem shift_bounds {m : ℕ} (h : 0 < m) {k : ℕ} (hk : k = Nat.log2 (m * 2 ^ 24) - 23) :
    2 ^ (k + 23) ≤ m * 2 ^ 24 ∧ m * 2 ^ 24 < 2 ^ (k + 24) ∧ (2 ^ 26 ≤ m → 27 ≤ k) := by
  have hne : m * 2 ^ 24 ≠ 0 := by positivity
  have hlog : 24 ≤ Nat.log2 (m * 2 ^ 24) := (Nat.le_log2 hne).2 (by omega)
  have hkl : k + 23 = Nat.log2 (m * 2 ^ 24) := by omega
  refine ⟨?_, ?_, fun hm => ?_⟩
  · rw [hkl]
    exact Nat.log2_self_le hne
  · rw [show k + 24 = Nat.log2 (m * 2 ^ 24) + 1 by omega]
    exact Nat.lt_log2_self
  · have : 50 ≤ Nat.log2 (m * 2 ^ 24) := (Nat.le_log2 hne).2 (by omega)
    omega

/-- A magnitude between the neighbours of an odd `m` is a quotient and a remainder that lies as the remainder of `m`. -/
theorem sameSide_of_between {m d c q : ℕ} {u y : ℝ} (hodd : m % 2 = 1) (hd : 4 ∣ d) (hdpos : 0 < d) (hc : 0 < c)
    (hdiv : m * c = q * (d * c) + m % d * c) (hu : 0 < u) (hlow : ((m : ℝ) - 1) * (c * u) < y)
    (hhigh : y < ((m : ℝ) + 1) * (c * u)) :
    ∃ ry : ℝ, SameSide (m % d * c) ry (d * c) ∧ y = (q * (d * c : ℕ) + ry) * u := by
  have hdiv' : (m : ℝ) * c = q * (d * c : ℕ) + (m % d : ℕ) * c := by exact_mod_cast hdiv
  have hl : (((m % d : ℕ) : ℝ) - 1) * c < y / u - q * (d * c : ℕ) := by
    rw [lt_sub_iff_add_lt, lt_div_iff₀ hu]
    calc (((m % d : ℕ) - 1) * c + q * (d * c : ℕ)) * u = (m - 1) * (c * u) := by linear_combination -u * hdiv'
      _ < y := hlow
  have hh : y / u - q * (d * c : ℕ) < (((m % d : ℕ) : ℝ) + 1) * c := by
    rw [sub_lt_iff_lt_add, div_lt_iff₀ hu]
    calc y < (m + 1) * (c * u) := hhigh
      _ = (((m % d : ℕ) + 1) * c + q * (d * c : ℕ)) * u := by linear_combination u * hdiv'
  have hodd' : m % d % 2 = 1 := by rw [Nat.mod_mod_of_dvd _ (dvd_trans (by decide) hd), hodd]
  refine ⟨_, sameSide_of_odd hodd' (Nat.mod_eq_zero_of_dvd hd) (Nat.mod_lt _ hdpos) hc hl hh, ?_⟩
  rw [add_sub_cancel, div_mul_cancel₀ y hu.ne']

/-- The remainder of the shifted magnitude tells where the real magnitude lies. -/
theorem Magnitude.Of.remainder {x : Magnitude} {y : ℝ} (h : x.Of y) {k c : ℕ} (hc : c = 2 ^ 24)
    (hk : k = Nat.log2 (x.m * c) - 23) :
    ∃ ry : ℝ, SameSide (x.m * c % 2 ^ k) ry (2 ^ k) ∧
      y = ((x.m * c / 2 ^ k : ℕ) * (2 ^ k : ℕ) + ry) * 2 ^ (x.e - 24 + 149) := by
  obtain ⟨hpos, hy⟩ := h
  have hlarge : 2 ^ 26 ≤ x.m → 27 ≤ k := (shift_bounds hpos (hc ▸ hk)).2.2
  have hcpos : 0 < c := hc ▸ Nat.two_pow_pos 24
  have hunit : (2 : ℝ) ^ (x.e + 149) = c * 2 ^ (x.e - 24 + 149) := by
    rw [hc, Nat.cast_pow, Nat.cast_ofNat, ← zpow_natCast, ← zpow_add₀ two_ne_zero]
    congr 1
    push_cast
    ring
  have hdiv : x.m * c = x.m * c / 2 ^ k * 2 ^ k + x.m * c % 2 ^ k := (Nat.div_add_mod' (x.m * c) (2 ^ k)).symm
  have hupos : (0 : ℝ) < 2 ^ (x.e - 24 + 149) := zpow_pos two_pos _
  rcases hy with hexact | ⟨hodd, hm, hlow, hhigh⟩
  · refine ⟨_, sameSide_self (Nat.mod_lt _ (Nat.two_pow_pos k)), ?_⟩
    have hdiv' : (x.m : ℝ) * c = (x.m * c / 2 ^ k : ℕ) * (2 ^ k : ℕ) + (x.m * c % 2 ^ k : ℕ) := by exact_mod_cast hdiv
    rw [hexact, hunit, ← hdiv', mul_assoc]
  · obtain ⟨j, hj⟩ : ∃ j, k = j + 24 := ⟨k - 24, by have := hlarge hm; omega⟩
    have hj3 : 2 ≤ j := by have := hlarge hm; omega
    have hpow : 2 ^ k = 2 ^ j * c := by rw [hj, hc, pow_add]
    have hrem : x.m * c % 2 ^ k = x.m % 2 ^ j * c := by rw [hpow, Nat.mul_mod_mul_right]
    rw [hunit] at hlow hhigh
    rw [hrem, hpow] at hdiv ⊢
    exact sameSide_of_between hodd (pow_dvd_pow 2 hj3) (Nat.two_pow_pos j) hcpos hdiv hupos hlow hhigh

theorem Magnitude.Of.split {x : Magnitude} {y : ℝ} (h : x.Of y) {k : ℕ} (hk : k = Nat.log2 (x.m * 2 ^ 24) - 23) :
    ∃ ry : ℝ, SameSide (x.m * 2 ^ 24 % 2 ^ k) ry (2 ^ k) ∧
      Split y (x.m * 2 ^ 24 / 2 ^ k) (x.e - 24 + k + 149) (ry / (2 ^ k : ℕ)) := by
  obtain ⟨hlow, hhigh, -⟩ := shift_bounds h.1 hk
  obtain ⟨ry, hside, hy⟩ := h.remainder rfl hk
  have hd : (0 : ℝ) < (2 ^ k : ℕ) := by positivity
  refine ⟨ry, hside, ?_, ?_, div_nonneg hside.nonneg hd.le, (div_lt_one hd).2 hside.lt, ?_⟩
  · rw [Nat.le_div_iff_mul_le (by positivity), ← pow_add, add_comm]
    exact hlow
  · rw [Nat.div_lt_iff_lt_mul (by positivity), ← pow_add, add_comm]
    exact hhigh
  · have hz : (2 : ℝ) ^ (x.e - 24 + k + 149) = (2 ^ k : ℕ) * 2 ^ (x.e - 24 + 149) := by
      rw [Nat.cast_pow, Nat.cast_ofNat, ← zpow_natCast, ← zpow_add₀ (by norm_num)]
      congr 1
      ring
    rw [hy, hz, ← mul_assoc, add_mul _ (ry / _), div_mul_cancel₀ _ hd.ne']

/-- `round24` is the rounding to 24 bits. -/
theorem Magnitude.Of.round24_rounds {x : Magnitude} {y : ℝ} (h : x.Of y) (mode : RoundMode) (neg : Bool) :
    Rounds mode neg y (x.round24 mode neg).1 (x.round24 mode neg).2.1 (x.round24 mode neg).2.2 := by
  obtain ⟨k, hk⟩ : ∃ k, k = Nat.log2 (x.m * 2 ^ 24) - 23 := ⟨_, rfl⟩
  obtain ⟨ry, hside, hsplit⟩ := h.split hk
  have hup := roundsUp_iff mode neg (x.m * 2 ^ 24 / 2 ^ k) (by positivity) hside
  have hinexact : (x.m * 2 ^ 24 % 2 ^ k != 0) = true ↔ ry / (2 ^ k : ℕ) ≠ 0 := by
    rw [bne_iff_ne, hside.zero, ne_eq, ne_eq, div_eq_zero_iff, or_iff_left (by positivity)]
  have hlow := hsplit.low
  have hhigh := hsplit.high
  refine ⟨_, _, _, hsplit, ?_⟩
  rw [Magnitude.round24, ← hk, roundShift]
  dsimp only
  by_cases hr : roundsUp mode neg (x.m * 2 ^ 24 / 2 ^ k) (x.m * 2 ^ 24 % 2 ^ k) (2 ^ k) = true
  · rw [if_pos hr]
    split
    case isTrue htop =>
      exact ⟨hinexact, le_refl _, by norm_num, fun hn => absurd (hup.1 hr) hn, fun _ => .inr ⟨htop, rfl, by ring⟩⟩
    case isFalse htop =>
      exact ⟨hinexact, by omega, by omega, fun hn => absurd (hup.1 hr) hn, fun _ => .inl ⟨rfl, rfl⟩⟩
  · rw [if_neg hr, if_neg (by omega)]
    exact ⟨hinexact, hlow, hhigh, fun _ => ⟨rfl, rfl⟩, fun hg => absurd (hup.2 hg) hr⟩

/-! ## The neighbours -/

/-- `v`, with the significand `sig`, is the one of the neighbours `a` and `b` of `y` that the mode takes. -/
structure Takes (mode : RoundMode) (neg : Bool) (y : ℝ) (q : ℕ) (a b v : ℝ) (sig : ℕ) : Prop where
  le : a ≤ y
  lt : y < b
  down : v = a ∧ sig % 2 = q % 2 ∨ v = b ∧ sig % 2 = (q + 1) % 2
  nearest : mode = .rn → (v = b ↔ a + b < 2 * y ∨ a + b = 2 * y ∧ q % 2 = 1)
  away : Away mode neg → (v = b ↔ y ≠ a)
  toward : mode ≠ .rn → ¬Away mode neg → v = a

theorem not_rn_of_away {mode : RoundMode} {neg : Bool} (h : Away mode neg) : mode ≠ .rn := by
  rcases h with ⟨rfl, -⟩ | ⟨rfl, -⟩ <;> decide

theorem Split.goesUp_iff {y t : ℝ} {q : ℕ} {z : ℤ} (h : Split y q z t) (mode : RoundMode) (neg : Bool) {a b : ℝ}
    (ha : a = q * 2 ^ z) (hb : b = (q + 1) * 2 ^ z) :
    (mode = .rn → (GoesUp mode neg q t ↔ a + b < 2 * y ∨ a + b = 2 * y ∧ q % 2 = 1)) ∧
    (Away mode neg → (GoesUp mode neg q t ↔ y ≠ a)) ∧ (mode ≠ .rn → ¬Away mode neg → ¬GoesUp mode neg q t) := by
  have hu : (0 : ℝ) < 2 ^ z := zpow_pos two_pos _
  have hy := h.eq
  have habove : 1 / 2 < t ↔ a + b < 2 * y := by
    rw [ha, hb, hy, show (q : ℝ) * 2 ^ z + (q + 1) * 2 ^ z = (2 * q + 1) * 2 ^ z by ring,
      show 2 * (((q : ℝ) + t) * 2 ^ z) = (2 * q + 2 * t) * 2 ^ z by ring, mul_lt_mul_iff_of_pos_right hu]
    constructor <;> intro <;> linarith
  have hhalf : t = 1 / 2 ↔ a + b = 2 * y := by
    rw [ha, hb, hy, show (q : ℝ) * 2 ^ z + (q + 1) * 2 ^ z = (2 * q + 1) * 2 ^ z by ring,
      show 2 * (((q : ℝ) + t) * 2 ^ z) = (2 * q + 2 * t) * 2 ^ z by ring, mul_left_inj' hu.ne']
    constructor <;> intro <;> linarith
  have hzero : t ≠ 0 ↔ y ≠ a := by
    rw [ha, hy, ne_eq, ne_eq, mul_left_inj' hu.ne', add_eq_left]
  rw [← habove, ← hhalf, ← hzero]
  refine ⟨?_, fun haway => ?_, fun hrn haway => ?_⟩
  · rintro rfl
    simp [GoesUp, Away]
  · simp [GoesUp, not_rn_of_away haway, haway]
  · simp [GoesUp, hrn, haway]

/-- What rounds to 24 bits takes one of two neighbours with 24 bits. -/
theorem Rounds.takes {mode : RoundMode} {neg : Bool} {y v : ℝ} {sig : ℕ} {e : ℤ} {inexact : Bool}
    (h : Rounds mode neg y sig e inexact) (hv : v = sig * 2 ^ (e + 149)) :
    ∃ (q : ℕ) (z : ℤ) (a b : ℝ), a = q * 2 ^ z ∧ b = (q + 1) * 2 ^ z ∧ 2 ^ 23 ≤ q ∧ q < 2 ^ 24 ∧
      Takes mode neg y q a b v sig ∧ (inexact = true ↔ y ≠ a) ∧ (v = a → e + 149 = z) ∧
      (v = b → sig = q + 1 ∧ e + 149 = z ∨ q + 1 = 2 ^ 24 ∧ e + 149 = z + 1) := by
  obtain ⟨q, z, t, hsplit, hinexact, -, hsig, hdown, hup⟩ := h
  obtain ⟨a, ha⟩ : ∃ a : ℝ, a = q * 2 ^ z := ⟨_, rfl⟩
  obtain ⟨b, hb⟩ : ∃ b : ℝ, b = (q + 1) * 2 ^ z := ⟨_, rfl⟩
  obtain ⟨hrn, haway, htoward⟩ := hsplit.goesUp_iff mode neg ha hb
  have hu : (0 : ℝ) < 2 ^ z := zpow_pos two_pos _
  have hab : a < b := by rw [ha, hb]; exact mul_lt_mul_of_pos_right (lt_add_one _) hu
  have hle : a ≤ y := by
    rw [ha, hsplit.eq]
    exact mul_le_mul_of_nonneg_right (le_add_of_nonneg_right hsplit.nonneg) hu.le
  have hlt : y < b := by
    rw [hb, hsplit.eq]
    exact mul_lt_mul_of_pos_right (add_lt_add_right hsplit.lt_one _) hu
  have hzero : t ≠ 0 ↔ y ≠ a := by rw [ha, hsplit.eq, ne_eq, ne_eq, mul_left_inj' hu.ne', add_eq_left]
  have hvb : v = b ↔ GoesUp mode neg q t := by
    constructor
    · intro hvb
      by_contra hn
      obtain ⟨hs, hz⟩ := hdown hn
      rw [hs, hz, ← ha] at hv
      exact hab.ne (hv.symm.trans hvb)
    · intro hg
      rcases hup hg with ⟨hs, hz⟩ | ⟨htop, hs, hz⟩
      · rw [hv, hs, hz, hb, Nat.cast_add, Nat.cast_one]
      · have htop' : (q : ℝ) + 1 = 2 ^ 24 := by exact_mod_cast htop
        rw [hv, hs, hz, hb, htop', zpow_add_one₀ two_ne_zero]
        push_cast
        ring
  refine ⟨q, z, a, b, ha, hb, hsplit.low, hsplit.high, ⟨hle, hlt, ?_, fun h => hvb.trans (hrn h),
    fun h => hvb.trans (haway h), fun h h' => ?_⟩, hinexact.trans hzero, fun hva => ?_, fun h => ?_⟩
  · by_cases hg : GoesUp mode neg q t
    · exact .inr ⟨hvb.2 hg, by rcases hup hg with ⟨hs, -⟩ | ⟨htop, hs, -⟩ <;> omega⟩
    · obtain ⟨hs, hz⟩ := hdown hg
      exact .inl ⟨by rw [hv, hs, hz, ha], by rw [hs]⟩
  · obtain ⟨hs, hz⟩ := hdown (htoward h h')
    rw [hv, hs, hz, ha]
  · exact (hdown fun hg => hab.ne (hva.symm.trans (hvb.2 hg))).2
  · exact (hup (hvb.1 h)).imp_right fun ⟨htop, _, hz⟩ => ⟨htop, hz⟩

theorem Rounds.sig_bounds {mode : RoundMode} {neg : Bool} {y : ℝ} {sig : ℕ} {e : ℤ} {inexact : Bool}
    (h : Rounds mode neg y sig e inexact) : 2 ^ 23 ≤ sig ∧ sig < 2 ^ 24 := by
  obtain ⟨_, _, _, -, -, hlow, hhigh, -, -⟩ := h
  exact ⟨hlow, hhigh⟩

/-- The rounded magnitude is the magnitude exactly where it is not inexact. -/
theorem Rounds.exact_iff {mode : RoundMode} {neg : Bool} {y v : ℝ} {sig : ℕ} {e : ℤ} {inexact : Bool}
    (h : Rounds mode neg y sig e inexact) (hv : v = sig * 2 ^ (e + 149)) : inexact = false ↔ v = y := by
  obtain ⟨q, z, a, b, ha, hb, -, -, takes, hinexact, -, -⟩ := h.takes hv
  rw [← Bool.not_eq_true, hinexact, not_not]
  have hlt := takes.lt
  have hle := takes.le
  rcases takes.down with ⟨rfl, -⟩ | ⟨hvb, -⟩
  · exact eq_comm
  · refine ⟨fun hya => ?_, fun hvy => absurd (hvb.symm.trans hvy) hlt.ne'⟩
    exfalso
    by_cases hrn : mode = .rn
    · rcases (takes.nearest hrn).1 hvb with h | ⟨h, -⟩ <;> linarith
    · by_cases haway : Away mode neg
      · exact (takes.away haway).1 hvb hya
      · linarith [takes.toward hrn haway]

/-! ## The singles around a magnitude -/

/-- A magnitude of a finite single. -/
def IsSingle (n : ℝ) : Prop := ∃ sg sh : ℕ, sg < 2 ^ 24 ∧ n = sg * 2 ^ sh

theorem isSingle_zero : IsSingle 0 := ⟨0, 0, by norm_num, by norm_num⟩

/-- `v` is the magnitude that the mode selects for `y` among those of the finite singles; `even` says that the last bit of its
significand is 0. -/
structure SelectsMagnitude (mode : RoundMode) (neg : Bool) (y v : ℝ) (even : Prop) : Prop where
  nearest : mode = .rn → ∀ n, IsSingle n → |v - y| ≤ |n - y| ∧ (|v - y| = |n - y| → n = v ∨ even)
  away : Away mode neg → y ≤ v ∧ ∀ n, IsSingle n → y ≤ n → v ≤ n
  toward : mode ≠ .rn → ¬Away mode neg → v ≤ y ∧ ∀ n, IsSingle n → n ≤ y → n ≤ v

/-- Where no single lies between the neighbours, the one that the mode takes is what it selects. -/
theorem Takes.selects {mode : RoundMode} {neg : Bool} {y : ℝ} {q : ℕ} {a b v : ℝ} {sig : ℕ} (h : Takes mode neg y q a b v sig)
    (houtside : ∀ n, IsSingle n → n ≤ a ∨ b ≤ n) : SelectsMagnitude mode neg y v (sig % 2 = 0) := by
  obtain ⟨hle, hlt, hv, hnearest, haway, htoward⟩ := h
  refine ⟨fun hrn n hn => ?_, fun hw => ?_, fun hrn hw => ?_⟩
  · have hup := hnearest hrn
    have hfar : |n - y| = y - n ∧ n ≤ a ∨ |n - y| = n - y ∧ b ≤ n := by
      rcases houtside n hn with hna | hbn
      · exact .inl ⟨by rw [abs_sub_comm, abs_of_nonneg (by linarith)], hna⟩
      · exact .inr ⟨abs_of_nonneg (by linarith), hbn⟩
    rcases hv with ⟨rfl, hsig⟩ | ⟨rfl, hsig⟩
    · have hnot := mt hup.2 (by linarith : ¬v = b)
      rw [not_or, not_lt, not_and] at hnot
      obtain ⟨hhalf, htie⟩ := hnot
      rw [abs_sub_comm v y, abs_of_nonneg (by linarith : (0 : ℝ) ≤ y - v)]
      rcases hfar with ⟨hd, hna⟩ | ⟨hd, hbn⟩
      · exact ⟨by rw [hd]; linarith, fun heq => .inl (by rw [hd] at heq; linarith)⟩
      · refine ⟨by rw [hd]; linarith, fun heq => .inr ?_⟩
        rw [hd] at heq
        have := htie (by linarith)
        omega
    · rw [abs_of_nonneg (by linarith : (0 : ℝ) ≤ v - y)]
      rcases hup.1 rfl with hhalf | ⟨hhalf, hodd⟩
      · rcases hfar with ⟨hd, hna⟩ | ⟨hd, hbn⟩
        · exact ⟨by rw [hd]; linarith, fun heq => by rw [hd] at heq; linarith⟩
        · exact ⟨by rw [hd]; linarith, fun heq => .inl (by rw [hd] at heq; linarith)⟩
      · exact ⟨by rcases hfar with ⟨hd, _⟩ | ⟨hd, _⟩ <;> rw [hd] <;> linarith, fun _ => .inr (by omega)⟩
  · have hup := haway hw
    by_cases hya : y = a
    · have hva : v = a := by
        rcases hv with ⟨hva, -⟩ | ⟨hvb, -⟩
        · exact hva
        · exact absurd hya (hup.1 hvb)
      exact ⟨by linarith, fun n _ hn => by linarith⟩
    · have hvb : v = b := hup.2 hya
      refine ⟨by linarith, fun n hn hyn => ?_⟩
      rcases houtside n hn with hna | hbn
      · exact absurd (le_antisymm (hyn.trans hna) hle) hya
      · linarith
  · have hva := htoward hrn hw
    refine ⟨by linarith, fun n hn hny => ?_⟩
    rcases houtside n hn with hna | hbn <;> linarith

/-- Between neighbours whose unit is at least that of the singles, or below the smallest normal number, there is no single. -/
theorem single_outside {q : ℕ} {z : ℤ} {a b n : ℝ} (ha : a = q * 2 ^ z) (hb : b = (q + 1) * 2 ^ z) (hq : 2 ^ 23 ≤ q)
    (hz : 0 ≤ z ∨ z = -1 ∧ q + 1 = 2 ^ 24) (hn : IsSingle n) : n ≤ a ∨ b ≤ n := by
  obtain ⟨sg, sh, hsg, rfl⟩ := hn
  rcases hz with hz | ⟨rfl, htop⟩
  · obtain ⟨k, rfl⟩ := Int.eq_ofNat_of_zero_le hz
    rw [zpow_natCast] at ha hb
    have hnat : sg * 2 ^ sh ≤ q * 2 ^ k ∨ (q + 1) * 2 ^ k ≤ sg * 2 ^ sh := by
      rcases Nat.lt_or_ge sh k with hlt | hge
      · left
        calc sg * 2 ^ sh ≤ 2 ^ 24 * 2 ^ sh := Nat.mul_le_mul_right _ hsg.le
          _ = 2 ^ 23 * 2 ^ (sh + 1) := by ring
          _ ≤ q * 2 ^ k := Nat.mul_le_mul hq (Nat.pow_le_pow_right two_pos hlt)
      · obtain ⟨j, rfl⟩ := Nat.exists_eq_add_of_le hge
        rw [pow_add, mul_comm (2 ^ k), ← mul_assoc]
        rcases Nat.lt_or_ge q (sg * 2 ^ j) with hlt | hge
        · exact .inr (Nat.mul_le_mul_right _ hlt)
        · exact .inl (Nat.mul_le_mul_right _ hge)
    rw [ha, hb]
    exact_mod_cast hnat
  · obtain ⟨m, hm⟩ : ∃ m, m = sg * 2 ^ sh := ⟨_, rfl⟩
    have hmr : (sg : ℝ) * 2 ^ sh = m := by exact_mod_cast hm.symm
    have hqr : (q : ℝ) + 1 = 2 ^ 24 := by exact_mod_cast htop
    rw [zpow_neg_one] at ha hb
    rw [hmr, ha, hb, hqr]
    rcases Nat.lt_or_ge m (2 ^ 23) with hlt | hge
    · left
      have : (m : ℝ) + 1 ≤ 2 ^ 23 := by exact_mod_cast hlt
      linarith
    · right
      have : (2 : ℝ) ^ 23 ≤ m := by exact_mod_cast hge
      linarith

/-- What rounds to a number in the range of the singles is rounded as the singles ask for. -/
theorem Rounds.selects {mode : RoundMode} {neg : Bool} {y v : ℝ} {sig : ℕ} {e : ℤ} {inexact : Bool}
    (h : Rounds mode neg y sig e inexact) (hv : v = sig * 2 ^ (e + 149)) (he : 0 ≤ e + 149) :
    SelectsMagnitude mode neg y v (sig % 2 = 0) := by
  obtain ⟨q, z, a, b, ha, hb, hlow, hhigh, takes, -, hdown, hup⟩ := h.takes hv
  refine takes.selects fun n hn => single_outside ha hb hlow ?_ hn
  rcases takes.down with ⟨hva, -⟩ | ⟨hvb, -⟩
  · exact .inl (hdown hva ▸ he)
  · rcases hup hvb with ⟨-, hz⟩ | ⟨htop, hz⟩ <;> omega

/-! ## The ends of the range (R566, R569, R570) -/

/-- The magnitude `y` rounds to `2^23 * 2^w` or more: from half a unit below that on to the nearest, from anything above the
24-bit number next below it on away from zero, from that number on toward zero. -/
def Reaches (mode : RoundMode) (neg : Bool) (y : ℝ) (w : ℤ) : Prop :=
  (mode = .rn → (2 ^ 25 - 1) * 2 ^ (w - 2) ≤ y) ∧ (Away mode neg → (2 ^ 24 - 1) * 2 ^ (w - 1) < y) ∧
  (mode ≠ .rn → ¬Away mode neg → 2 ^ 23 * 2 ^ w ≤ y)

section Reaches
variable {mode : RoundMode} {neg : Bool} {y : ℝ} {w : ℤ}

/-- The three thresholds in units of `2^(w - 2)`. -/
theorem reaches_iff_scaled {p : ℝ} (hp : p = 2 ^ (w - 2)) : Reaches mode neg y w ↔
    (mode = .rn → (2 ^ 25 - 1) * p ≤ y) ∧ (Away mode neg → (2 ^ 25 - 2) * p < y) ∧
      (mode ≠ .rn → ¬Away mode neg → 2 ^ 25 * p ≤ y) := by
  have hw1 : (2 : ℝ) ^ (w - 1) = p * 2 := by rw [hp, ← zpow_add_one₀ two_ne_zero]; congr 1; ring
  have hw0 : (2 : ℝ) ^ w = p * 2 * 2 := by rw [← hw1, ← zpow_add_one₀ two_ne_zero]; congr 1; ring
  rw [Reaches, ← hp, hw1, hw0, show ((2 : ℝ) ^ 24 - 1) * (p * 2) = (2 ^ 25 - 2) * p by ring,
    show (2 : ℝ) ^ 23 * (p * 2 * 2) = 2 ^ 25 * p by ring]

theorem reaches_of_le {p : ℝ} (hp : p = 2 ^ (w - 2)) (h : 2 ^ 25 * p ≤ y) : Reaches mode neg y w := by
  have hppos : 0 < p := hp ▸ zpow_pos two_pos _
  exact (reaches_iff_scaled hp).2 ⟨fun _ => by linarith, fun _ => by linarith, fun _ _ => h⟩

theorem not_reaches_of_le {p : ℝ} (hp : p = 2 ^ (w - 2)) (h : y ≤ (2 ^ 25 - 2) * p) : ¬Reaches mode neg y w := by
  have hppos : 0 < p := hp ▸ zpow_pos two_pos _
  intro hr
  obtain ⟨hrn, haway, htoward⟩ := (reaches_iff_scaled hp).1 hr
  by_cases h1 : mode = .rn
  · linarith [hrn h1]
  · by_cases h2 : Away mode neg
    · linarith [haway h2]
    · linarith [htoward h1 h2]

/-- Between the 24-bit number next below `2^23 * 2^w` and that, the mode decides. -/
theorem Takes.reaches_iff {p a b v : ℝ} {q sig : ℕ} (h : Takes mode neg y q a b v sig) (hp : p = 2 ^ (w - 2))
    (hodd : q % 2 = 1) (ha : a = (2 ^ 25 - 2) * p) (hb : b = 2 ^ 25 * p) : v = b ↔ Reaches mode neg y w := by
  have hppos : 0 < p := hp ▸ zpow_pos two_pos _
  obtain ⟨hle, hlt, -, hnearest, haway, htoward⟩ := h
  rw [reaches_iff_scaled hp]
  by_cases h1 : mode = .rn
  · have h2 : ¬Away mode neg := fun h2 => not_rn_of_away h2 h1
    subst h1
    rw [hnearest rfl]
    simp only [h2, hodd, true_imp_iff, false_imp_iff, and_true, ne_eq, not_true_eq_false]
    rw [← le_iff_lt_or_eq, ha, hb]
    constructor <;> intro <;> linarith
  · by_cases h2 : Away mode neg
    · rw [haway h2]
      simp only [h1, h2, true_imp_iff, false_imp_iff, and_true, true_and, not_true_eq_false, ne_eq, not_false_eq_true]
      rw [← ha]
      exact ⟨fun hne => lt_of_le_of_ne hle (Ne.symm hne), fun hl => hl.ne'⟩
    · have hva := htoward h1 h2
      simp only [h1, h2, true_imp_iff, false_imp_iff, true_and, ne_eq, not_false_eq_true]
      exact ⟨fun hvb => by linarith, fun hl => by linarith⟩

end Reaches

theorem Rounds.reaches_iff {mode : RoundMode} {neg : Bool} {y v : ℝ} {sig : ℕ} {e : ℤ} {inexact : Bool}
    (h : Rounds mode neg y sig e inexact) (hv : v = sig * 2 ^ (e + 149)) (w : ℤ) :
    w ≤ e + 149 ↔ Reaches mode neg y w := by
  obtain ⟨q, z, a, b, ha, hb, hlow, hhigh, takes, -, hdown, hup⟩ := h.takes hv
  have hle := takes.le
  have hlt := takes.lt
  obtain ⟨p, hp⟩ : ∃ p : ℝ, p = 2 ^ (w - 2) := ⟨_, rfl⟩
  have hppos : 0 < p := hp ▸ zpow_pos two_pos _
  have hlow' : (2 : ℝ) ^ 23 ≤ q := by exact_mod_cast hlow
  have hhigh' : (q : ℝ) + 1 ≤ 2 ^ 24 := by exact_mod_cast hhigh
  have heither : e + 149 = z ∨ q + 1 = 2 ^ 24 ∧ v = b ∧ e + 149 = z + 1 := by
    rcases takes.down with ⟨hva, -⟩ | ⟨hvb, -⟩
    · exact .inl (hdown hva)
    · rcases hup hvb with ⟨-, hz⟩ | ⟨htop, hz⟩
      · exact .inl hz
      · exact .inr ⟨htop, hvb, hz⟩
  have hscale {j : ℤ} (hj : z = w - 2 + j) : (2 : ℝ) ^ z = p * 2 ^ j := by rw [hj, zpow_add₀ two_ne_zero, ← hp]
  rcases lt_trichotomy z (w - 1) with hz | hz | hz
  · have hu : (2 : ℝ) ^ z ≤ p := hp ▸ zpow_le_zpow_right₀ one_le_two (by omega)
    have hbp : b ≤ 2 ^ 24 * p := hb ▸ mul_le_mul hhigh' hu (zpow_pos two_pos _).le (by positivity)
    exact iff_of_false (by omega) (not_reaches_of_le hp (by linarith))
  · have hu : (2 : ℝ) ^ z = p * 2 := by rw [hscale (j := 1) (by omega), zpow_one]
    by_cases htop : q + 1 = 2 ^ 24
    · have htop' : (q : ℝ) + 1 = 2 ^ 24 := by exact_mod_cast htop
      have hq' : (q : ℝ) = 2 ^ 24 - 1 := by linarith
      have hb' : b = 2 ^ 25 * p := by rw [hb, hu, htop']; ring
      have ha' : a = (2 ^ 25 - 2) * p := by rw [ha, hu, hq']; ring
      rw [← takes.reaches_iff hp (by omega) ha' hb']
      refine ⟨fun hwe => ?_, fun hvb => ?_⟩
      · rcases heither with hze | ⟨-, hvb, -⟩
        · omega
        · exact hvb
      · rcases hup hvb with ⟨hs, hze⟩ | ⟨-, hze⟩
        · have := h.sig_bounds
          omega
        · omega
    · have hq' : (q : ℝ) + 1 ≤ 2 ^ 24 - 1 := by
        have : (q : ℝ) + 1 + 1 ≤ 2 ^ 24 := by exact_mod_cast (show q + 1 + 1 ≤ 2 ^ 24 by omega)
        linarith
      have hbp : b ≤ (2 ^ 24 - 1) * (p * 2) := by
        rw [hb, hu]
        exact mul_le_mul_of_nonneg_right hq' (by positivity)
      refine iff_of_false (fun hwe => ?_) (not_reaches_of_le hp (by linarith))
      rcases heither with hze | ⟨htop', -⟩
      · omega
      · exact htop htop'
  · have hu : p * 4 ≤ (2 : ℝ) ^ z := by
      rw [show p * 4 = p * 2 ^ (2 : ℤ) by norm_num, hp, ← zpow_add₀ two_ne_zero]
      exact zpow_le_zpow_right₀ one_le_two (by omega)
    have hap : 2 ^ 23 * (p * 4) ≤ a := ha ▸ mul_le_mul hlow' hu (by positivity) (by positivity)
    exact iff_of_true (by rcases heither with hze | ⟨-, -, hze⟩ <;> omega) (reaches_of_le hp (by linarith))

end Sys2Proof.Machine

end

section
/-!
PROOF. Sys2Proof/Proofs/FpSingles.lean: the finite singles as numbers, and the rounding statements said of real magnitudes
(48_fpu_state_and_rules R555, R561 to R564).
-/

namespace Sys2Proof.Machine

/-! ## Classes and values (R561 to R564) -/

theorem fpFrac_lt (x : Word) : fpFrac x < 2 ^ 23 := BitVec.isLt _

theorem fpExp_lt (x : Word) : fpExp x < 256 := BitVec.isLt _

theorem fpSig_lt (x : Word) : fpSig x < 2 ^ 24 := by
  have := fpFrac_lt x
  rw [fpSig]
  split <;> omega

theorem fpClass_normal_iff (x : Word) : fpClass x = .normal ↔ fpExp x ≠ 0 ∧ fpExp x ≠ 255 := by
  rw [fpClass]
  split_ifs <;> simp_all

theorem fpClass_zero_iff (x : Word) : fpClass x = .zero ↔ fpExp x = 0 ∧ fpFrac x = 0 := by
  rw [fpClass]
  split_ifs <;> simp_all

theorem fpSig_of_normal {x : Word} (h : fpClass x = .normal) : 2 ^ 23 ≤ fpSig x := by
  rw [fpSig, if_neg ((fpClass_normal_iff x).1 h).1]
  omega

/-- The magnitude of a finite single. -/
theorem abs_fpScaled (x : Word) : |fpScaled x| = (fpSig x * 2 ^ fpShift x : Nat) := by
  rw [fpScaled]
  split
  · rw [abs_neg, Nat.abs_cast]
  · rw [Nat.abs_cast]

theorem isSingle_fpScaled (x : Word) : IsSingle |(fpScaled x : ℝ)| := by
  refine ⟨fpSig x, fpShift x, fpSig_lt x, ?_⟩
  rw [← Int.cast_abs, abs_fpScaled]
  push_cast
  rfl

theorem fpScaled_of_zero {x : Word} (h : fpClass x = .zero) : fpScaled x = 0 := by
  obtain ⟨hexp, hfrac⟩ := (fpClass_zero_iff x).1 h
  simp [fpScaled, fpSig, hexp, hfrac]

/-- The sign of a nonzero number is its sign bit. -/
theorem fpScaled_neg_iff {x : Word} (h : fpClass x = .normal) : fpScaled x ≠ 0 ∧ (fpScaled x < 0 ↔ x.msb = true) := by
  have hpos : 0 < fpSig x * 2 ^ fpShift x := Nat.mul_pos (by have := fpSig_of_normal h; omega) (Nat.two_pow_pos _)
  rw [fpScaled]
  generalize fpSig x * 2 ^ fpShift x = m at hpos
  cases x.msb <;> simp <;> omega

/-! ## The number that a rounding encodes -/

theorem extractLsb'_middle {m n k : ℕ} (a : BitVec m) (b : BitVec n) (c : BitVec k) :
    (a ++ b ++ c).extractLsb' k n = b := by
  refine BitVec.eq_of_getLsbD_eq fun i hi => ?_
  simp [BitVec.getLsbD_append, hi]

theorem extractLsb'_low {m k : ℕ} (a : BitVec m) (c : BitVec k) : (a ++ c).extractLsb' 0 k = c := by
  refine BitVec.eq_of_getLsbD_eq fun i hi => ?_
  simp [BitVec.getLsbD_append, hi]

section Encode
variable (neg : Bool) (sig : ℕ) (e : ℤ)

theorem fpExp_encodeNormal : fpExp (encodeNormal neg sig e) = (e + 150).toNat % 256 :=
  (congrArg BitVec.toNat (extractLsb'_middle (bit neg) _ _)).trans (BitVec.toNat_ofNat _ _)

theorem fpFrac_encodeNormal : fpFrac (encodeNormal neg sig e) = sig % 2 ^ 23 :=
  (congrArg BitVec.toNat (extractLsb'_low (bit neg ++ BitVec.ofNat 8 _) (BitVec.ofNat 23 sig))).trans
    (BitVec.toNat_ofNat _ _)

theorem msb_encodeNormal : (encodeNormal neg sig e).msb = neg := by
  have hhigh : (encodeNormal neg sig e).getLsbD 31 = (bit neg ++ BitVec.ofNat 8 (e + 150).toNat).getLsbD 8 :=
    BitVec.getLsbD_append (x := bit neg ++ BitVec.ofNat 8 (e + 150).toNat)
  have hbit : (bit neg ++ BitVec.ofNat 8 (e + 150).toNat).getLsbD 8 = (bit neg).getLsbD 0 :=
    BitVec.getLsbD_append (x := bit neg)
  rw [BitVec.msb_eq_getLsbD_last, hhigh, hbit, getLsbD_bit]
  rfl

theorem lsb_encodeNormal : (encodeNormal neg sig e).getLsbD 0 = decide (sig % 2 = 1) := by
  have h : (encodeNormal neg sig e).getLsbD 0 = (BitVec.ofNat 23 sig).getLsbD 0 :=
    BitVec.getLsbD_append (x := bit neg ++ BitVec.ofNat 8 (e + 150).toNat)
  rw [h, BitVec.getLsbD_ofNat, Nat.testBit_zero]
  rfl

variable {neg sig e} (hlow : 2 ^ 23 ≤ sig) (hhigh : sig < 2 ^ 24) (he : 0 ≤ e + 149) (hmax : e + 149 ≤ 253)
include hlow hhigh he hmax

omit hlow hhigh in
/-- A normal number is encoded. -/
theorem fpClass_encodeNormal : fpClass (encodeNormal neg sig e) = .normal := by
  rw [fpClass_normal_iff, fpExp_encodeNormal]
  omega

theorem fpScaled_encodeNormal :
    (fpScaled (encodeNormal neg sig e) : ℝ) = if neg then -((sig : ℝ) * 2 ^ (e + 149)) else (sig : ℝ) * 2 ^ (e + 149) := by
  have hexp : fpExp (encodeNormal neg sig e) = (e + 149).toNat + 1 := by rw [fpExp_encodeNormal]; omega
  have hsig : fpSig (encodeNormal neg sig e) = sig := by
    rw [fpSig, hexp, if_neg (by omega), fpFrac_encodeNormal]
    omega
  have hpow : (2 : ℝ) ^ (e + 149) = 2 ^ (e + 149).toNat := by
    rw [← zpow_natCast, Int.toNat_of_nonneg he]
  rw [fpScaled, msb_encodeNormal, hsig, fpShift, hexp, Nat.add_sub_cancel, hpow]
  split <;> push_cast <;> rfl

end Encode

/-! ## The statements of rounding, of real magnitudes (R555) -/

section Signed
variable {mode : RoundMode} {neg : Bool} {y m : ℝ} {even : Prop}

/-- To the nearest a single of the other sign is never nearer. -/
theorem SelectsMagnitude.nearest_signed (h : SelectsMagnitude mode neg y m even) (hy : 0 ≤ y) (hrn : mode = .rn) {t : ℝ}
    (ht : IsSingle |t|) : |m - y| ≤ |t - y| ∧ (|m - y| = |t - y| → t = m ∨ even) := by
  rcases le_or_gt 0 t with hpos | hneg
  · rw [abs_of_nonneg hpos] at ht
    exact h.nearest hrn t ht
  · have hzero := (h.nearest hrn 0 isSingle_zero).1
    rw [zero_sub, abs_neg, abs_of_nonneg hy] at hzero
    have hfar : |t - y| = y - t := by rw [abs_of_nonpos (by linarith), neg_sub]
    exact ⟨by linarith, fun heq => by linarith⟩

variable {x s : ℝ} (h : SelectsMagnitude mode neg |x| m even) (hneg : neg = true ↔ x < 0)
  (hs : s = if neg then -m else m) (hm : 0 ≤ m)
include h hneg hs

theorem SelectsMagnitude.rn (hrn : mode = .rn) {t : ℝ} (ht : IsSingle |t|) :
    |s - x| ≤ |t - x| ∧ (|s - x| = |t - x| → t = s ∨ even) := by
  cases neg with
  | false =>
    have hx : 0 ≤ x := not_lt.1 fun hx => Bool.false_ne_true (hneg.2 hx)
    have hsel := h.nearest_signed (abs_nonneg x) hrn ht
    rw [abs_of_nonneg hx] at hsel
    rw [hs]
    exact hsel
  | true =>
    have hsel := h.nearest_signed (t := -t) (abs_nonneg x) hrn (by rwa [abs_neg])
    rw [abs_of_neg (hneg.1 rfl)] at hsel
    have hflip (k : ℝ) : |-k - -x| = |k - x| := by rw [← abs_neg, neg_sub, neg_sub_neg, abs_sub_comm]
    have hms : m = -s := by rw [hs, if_pos rfl, neg_neg]
    rw [hms, hflip, hflip, neg_inj] at hsel
    exact hsel

include hm

theorem SelectsMagnitude.rz (hrz : mode = .rz) :
    |s| ≤ |x| ∧ 0 ≤ s * x ∧ ∀ t, IsSingle |t| → |t| ≤ |x| → |t| ≤ |s| := by
  subst hrz
  have haway : ¬Away .rz neg := by simp [Away]
  obtain ⟨hle, hmax⟩ := h.toward (by decide) haway
  have habs : |s| = m := by rw [hs]; split <;> simp [abs_of_nonneg hm]
  rw [habs]
  refine ⟨hle, ?_, fun t ht => hmax _ ht⟩
  rw [hs]
  split
  case isTrue hn => exact mul_nonneg_of_nonpos_of_nonpos (by linarith) (hneg.1 hn).le
  case isFalse hn => exact mul_nonneg hm (not_lt.1 fun hx => hn (hneg.2 hx))

theorem SelectsMagnitude.rp (hrp : mode = .rp) : x ≤ s ∧ ∀ t, IsSingle |t| → x ≤ t → s ≤ t := by
  subst hrp
  cases neg with
  | false =>
    have hx : 0 ≤ x := not_lt.1 fun hx => Bool.false_ne_true (hneg.2 hx)
    obtain ⟨hge, hmin⟩ := h.away (.inl ⟨rfl, rfl⟩)
    rw [abs_of_nonneg hx] at hge hmin
    rw [hs]
    exact ⟨hge, fun t ht hxt => hmin t (by rwa [abs_of_nonneg (hx.trans hxt)] at ht) hxt⟩
  | true =>
    obtain ⟨hle, hmax⟩ := h.toward (by decide) (by simp [Away])
    rw [abs_of_neg (hneg.1 rfl)] at hle hmax
    rw [hs, if_pos rfl]
    refine ⟨by linarith, fun t ht hxt => ?_⟩
    rcases le_or_gt 0 t with hpos | hlt
    · linarith
    · rw [abs_of_neg hlt] at ht
      linarith [hmax _ ht (by linarith)]

theorem SelectsMagnitude.rm (hrm : mode = .rm) : s ≤ x ∧ ∀ t, IsSingle |t| → t ≤ x → t ≤ s := by
  subst hrm
  cases neg with
  | false =>
    have hx : 0 ≤ x := not_lt.1 fun hx => Bool.false_ne_true (hneg.2 hx)
    obtain ⟨hle, hmax⟩ := h.toward (by decide) (by simp [Away])
    rw [abs_of_nonneg hx] at hle hmax
    rw [hs]
    refine ⟨hle, fun t ht htx => ?_⟩
    rcases le_or_gt 0 t with hpos | hlt
    · rw [abs_of_nonneg hpos] at ht
      exact hmax t ht htx
    · exact hlt.le.trans hm
  | true =>
    obtain ⟨hge, hmin⟩ := h.away (.inr ⟨rfl, rfl⟩)
    rw [abs_of_neg (hneg.1 rfl)] at hge hmin
    rw [hs, if_pos rfl]
    refine ⟨by linarith, fun t ht htx => ?_⟩
    rw [abs_of_neg (lt_of_le_of_lt htx (hneg.1 rfl))] at ht
    linarith [hmin _ ht (by linarith)]

end Signed

/-- `v` rounds `x / d` when its magnitude is what the mode selects for `|x / d|`. -/
theorem roundsTo_of_selects {mode : RoundMode} {neg : Bool} {x : ℤ} {d : ℕ} {v : Word} {m : ℝ} {even : Prop} (hd : 0 < d)
    (h : SelectsMagnitude mode neg |(x : ℝ) / d| m even) (hneg : neg = decide (x < 0)) (hfinite : fpFinite v)
    (hv : (fpScaled v : ℝ) = if neg then -m else m) (hm : 0 ≤ m) (heven : even → v.getLsbD 0 = false) :
    RoundsTo mode x d v := by
  have hd' : (0 : ℝ) < d := Nat.cast_pos.mpr hd
  have hneg' : neg = true ↔ (x : ℝ) / d < 0 := by
    rw [hneg, decide_eq_true_iff, div_lt_iff₀ hd', zero_mul, Int.cast_lt_zero]
  have hle (k : ℤ) : x ≤ k * d ↔ (x : ℝ) / d ≤ k := by rw [div_le_iff₀ hd']; exact_mod_cast Iff.rfl
  have hge (k : ℤ) : k * d ≤ x ↔ (k : ℝ) ≤ x / d := by rw [le_div_iff₀ hd']; exact_mod_cast Iff.rfl
  have habs (k : ℤ) : |k * d| ≤ |x| ↔ |(k : ℝ)| ≤ |(x : ℝ) / d| := by
    rw [abs_div, abs_of_pos hd', le_div_iff₀ hd', abs_mul, Nat.abs_cast]
    exact_mod_cast Iff.rfl
  have hdist (k : ℤ) : ((|k * d - x| : ℤ) : ℝ) = |(k : ℝ) - x / d| * d := by
    rw [← abs_of_pos hd', ← abs_mul, abs_of_pos hd', sub_mul, div_mul_cancel₀ _ hd'.ne']
    push_cast
    rfl
  have hdist_le (k l : ℤ) : |k * d - x| ≤ |l * d - x| ↔ |(k : ℝ) - x / d| ≤ |(l : ℝ) - x / d| := by
    rw [← Int.cast_le (R := ℝ), hdist, hdist, mul_le_mul_iff_of_pos_right hd']
  have hdist_eq (k l : ℤ) : |k * d - x| = |l * d - x| ↔ |(k : ℝ) - x / d| = |(l : ℝ) - x / d| := by
    rw [← Int.cast_inj (α := ℝ), hdist, hdist, mul_left_inj' hd'.ne']
  refine ⟨hfinite, ?_⟩
  cases mode with
  | rn =>
    intro w _
    obtain ⟨hnear, htie⟩ := h.rn hneg' hv rfl (isSingle_fpScaled w)
    rw [hdist_le, hdist_eq]
    exact ⟨hnear, fun heq => (htie heq).imp (fun h => by exact_mod_cast h) heven⟩
  | rz =>
    obtain ⟨hbelow, hsign, hmax⟩ := h.rz hneg' hv hm rfl
    refine ⟨(habs _).2 hbelow, ?_, fun w _ hw => by exact_mod_cast hmax _ (isSingle_fpScaled w) ((habs _).1 hw)⟩
    rw [← mul_div_assoc, le_div_iff₀ hd', zero_mul] at hsign
    exact_mod_cast hsign
  | rp =>
    obtain ⟨hbelow, hmin⟩ := h.rp hneg' hv hm rfl
    exact ⟨(hle _).2 hbelow, fun w _ hw => by exact_mod_cast hmin _ (isSingle_fpScaled w) ((hle _).1 hw)⟩
  | rm =>
    obtain ⟨habove, hmax⟩ := h.rm hneg' hv hm rfl
    exact ⟨(hge _).2 habove, fun w _ hw => by exact_mod_cast hmax _ (isSingle_fpScaled w) ((hge _).1 hw)⟩

/-- The same of a square root: the squares compared. -/
theorem rootRoundsTo_of_selects {mode : RoundMode} {x : ℤ} {v : Word} {even : Prop} (hx : 0 ≤ x)
    (h : SelectsMagnitude mode false √(x : ℝ) (fpScaled v : ℝ) even) (hfinite : fpFinite v) (hv : 0 ≤ fpScaled v)
    (heven : even → v.getLsbD 0 = false) : RootRoundsTo mode x v := by
  have hv' : (0 : ℝ) ≤ fpScaled v := by exact_mod_cast hv
  have hx' : (0 : ℝ) ≤ x := by exact_mod_cast hx
  obtain ⟨y, hy⟩ : ∃ y, y = √(x : ℝ) := ⟨_, rfl⟩
  have hy0 : 0 ≤ y := hy ▸ Real.sqrt_nonneg _
  have hyx : y ^ 2 = x := hy ▸ Real.sq_sqrt hx'
  rw [← hy] at h
  have single {w : Word} (hw : 0 ≤ fpScaled w) : (0 : ℝ) ≤ fpScaled w ∧ IsSingle (fpScaled w : ℝ) := by
    have hw' : (0 : ℝ) ≤ fpScaled w := by exact_mod_cast hw
    exact ⟨hw', abs_of_nonneg hw' ▸ isSingle_fpScaled w⟩
  have hle (k : ℤ) (hk : (0 : ℝ) ≤ k) : x ≤ k ^ 2 ↔ y ≤ k := by
    rw [← Int.cast_le (R := ℝ), ← hyx, Int.cast_pow, sq_le_sq₀ hy0 hk]
  have hge (k : ℤ) (hk : (0 : ℝ) ≤ k) : k ^ 2 ≤ x ↔ (k : ℝ) ≤ y := by
    rw [← Int.cast_le (R := ℝ), ← hyx, Int.cast_pow, sq_le_sq₀ hk hy0]
  refine ⟨hfinite, hv, ?_⟩
  have toward (hrn : mode ≠ .rn) (haway : ¬Away mode false) :
      fpScaled v ^ 2 ≤ x ∧ ∀ w, fpFinite w → 0 ≤ fpScaled w → fpScaled w ^ 2 ≤ x → fpScaled w ≤ fpScaled v := by
    obtain ⟨hbelow, hmax⟩ := h.toward hrn haway
    refine ⟨(hge _ hv').2 hbelow, fun w _ hw hwx => ?_⟩
    obtain ⟨hw', hsingle⟩ := single hw
    exact_mod_cast hmax _ hsingle ((hge _ hw').1 hwx)
  cases mode with
  | rn =>
    intro w _ hw
    obtain ⟨hw', hsingle⟩ := single hw
    have hsum : (0 : ℝ) ≤ fpScaled v + fpScaled w := add_nonneg hv' hw'
    have hfour : (4 * x : ℝ) = (2 * y) ^ 2 := by rw [← hyx]; ring
    have hcast : ((4 * x : ℤ) : ℝ) = (2 * y) ^ 2 ∧ (((fpScaled v + fpScaled w) ^ 2 : ℤ) : ℝ) = (fpScaled v + fpScaled w) ^ 2 :=
      ⟨by rw [← hfour]; push_cast; rfl, by push_cast; rfl⟩
    have h2y : 0 ≤ 2 * y := by linarith
    obtain ⟨hnear, htie⟩ := h.nearest rfl _ hsingle
    rw [← Int.cast_le (R := ℝ), ← Int.cast_le (R := ℝ), ← Int.cast_inj (α := ℝ), hcast.1, hcast.2, sq_le_sq₀ h2y hsum,
      sq_le_sq₀ hsum h2y, sq_eq_sq₀ hsum h2y]
    refine ⟨fun hlt => ?_, fun hlt => ?_, fun heq => ?_⟩
    · have hlt : (fpScaled v : ℝ) < fpScaled w := by exact_mod_cast hlt
      rcases abs_cases ((fpScaled v : ℝ) - y) with h1 | h1 <;> rcases abs_cases ((fpScaled w : ℝ) - y) with h2 | h2 <;> linarith
    · have hlt : (fpScaled w : ℝ) < fpScaled v := by exact_mod_cast hlt
      rcases abs_cases ((fpScaled v : ℝ) - y) with h1 | h1 <;> rcases abs_cases ((fpScaled w : ℝ) - y) with h2 | h2 <;> linarith
    · have hmid : (fpScaled v : ℝ) - y = -(fpScaled w - y) := by linarith
      exact (htie (by rw [hmid, abs_neg])).imp (fun h => by exact_mod_cast h) heven
  | rz => exact toward (by decide) (by simp [Away])
  | rm => exact toward (by decide) (by simp [Away])
  | rp =>
    obtain ⟨habove, hmin⟩ := h.away (.inl ⟨rfl, rfl⟩)
    refine ⟨(hle _ hv').2 habove, fun w _ hw hwx => ?_⟩
    obtain ⟨hw', hsingle⟩ := single hw
    exact_mod_cast hmin _ hsingle ((hle _ hw').1 hwx)

end Sys2Proof.Machine

end

section
/-!
PROOF. Sys2Proof/Proofs/FpResults.lean: what RoundResult gives in the range of the singles and beyond its ends, and the exact
magnitudes of sums, products, quotients and roots (48_fpu_state_and_rules R566 to R570; 49_fpu_instructions R601 to R605).
-/

namespace Sys2Proof.Machine

/-! ## RoundResult (R566) -/

theorem inexactCause_eq_zero_iff (inexact : Bool) : inexactCause inexact = 0 ↔ inexact = false := by
  cases inexact <;> decide

theorem inexactCause_eq (inexact : Bool) : inexactCause inexact = 0 ∨ inexactCause inexact = causeI := by
  cases inexact
  · exact .inl rfl
  · exact .inr rfl

section RoundResult
variable {x : Magnitude} {y : ℝ} (h : x.Of y) (f : Fcr31) (neg : Bool) {mode : RoundMode}
  (hmode : mode = RoundMode.ofBits f.rm)
include h hmode

theorem Magnitude.Of.roundResult_eq : ∃ sig e inexact, Rounds mode neg y sig e inexact ∧
    roundResult f neg x =
      if 127 < e + 23 then .value (causeO ||| causeI) (overflowDefault mode neg)
      else if e + 23 < -126 then underflow f mode neg inexact
      else .value (inexactCause inexact) (encodeNormal neg sig e) := by
  obtain ⟨⟨sig, e, inexact⟩, hr⟩ : ∃ r, x.round24 mode neg = r := ⟨_, rfl⟩
  have hrounds := h.round24_rounds mode neg
  rw [hr] at hrounds
  refine ⟨sig, e, inexact, hrounds, ?_⟩
  rw [roundResult, ← hmode, hr]

theorem roundResult_overflow (hover : Reaches mode neg y 254) :
    roundResult f neg x = .value (causeO ||| causeI) (overflowDefault mode neg) := by
  obtain ⟨sig, e, inexact, hrounds, heq⟩ := h.roundResult_eq f neg hmode
  have he := (hrounds.reaches_iff rfl 254).2 hover
  rw [heq, if_pos (by omega)]

theorem roundResult_tiny (htiny : ¬Reaches mode neg y 0) :
    ∃ inexact, roundResult f neg x = underflow f mode neg inexact := by
  obtain ⟨sig, e, inexact, hrounds, heq⟩ := h.roundResult_eq f neg hmode
  have he := mt (hrounds.reaches_iff rfl 0).1 htiny
  exact ⟨inexact, by rw [heq, if_neg (by omega), if_pos (by omega)]⟩

theorem roundResult_normal (hlow : Reaches mode neg y 0) (hhigh : ¬Reaches mode neg y 254) :
    ∃ sig e inexact, Rounds mode neg y sig e inexact ∧ 0 ≤ e + 149 ∧ e + 149 ≤ 253 ∧
      roundResult f neg x = .value (inexactCause inexact) (encodeNormal neg sig e) := by
  obtain ⟨sig, e, inexact, hrounds, heq⟩ := h.roundResult_eq f neg hmode
  have he0 := (hrounds.reaches_iff rfl 0).2 hlow
  have he1 := mt (hrounds.reaches_iff rfl 254).1 hhigh
  exact ⟨sig, e, inexact, hrounds, he0, by omega, by rw [heq, if_neg (by omega), if_neg (by omega)]⟩

/-- A result without a cause or with Inexact alone is a normal number. -/
theorem roundResult_value {c : FpCause} {v : Word} (hr : roundResult f neg x = .value c v) (hc : c = 0 ∨ c = causeI) :
    ∃ sig e inexact, Rounds mode neg y sig e inexact ∧ 0 ≤ e + 149 ∧ e + 149 ≤ 253 ∧
      c = inexactCause inexact ∧ v = encodeNormal neg sig e := by
  by_cases hover : Reaches mode neg y 254
  · rw [roundResult_overflow h f neg hmode hover] at hr
    injection hr with hcause
    subst hcause
    exact absurd hc (by decide)
  · by_cases htiny : Reaches mode neg y 0
    · obtain ⟨sig, e, inexact, hrounds, he0, he1, hvalue⟩ := roundResult_normal h f neg hmode htiny hover
      rw [hvalue] at hr
      injection hr with hcause hword
      exact ⟨sig, e, inexact, hrounds, he0, he1, hcause.symm, hword.symm⟩
    · obtain ⟨inexact, hvalue⟩ := roundResult_tiny h f neg hmode htiny
      rw [hvalue, underflow] at hr
      split_ifs at hr
      · injection hr with hcause
        subst hcause
        exact absurd hc (by decide)
      · cases hr

end RoundResult

/-- What an encoded rounding is: a finite single that the mode selects. -/
theorem Rounds.encoded {mode : RoundMode} {neg : Bool} {y : ℝ} {sig : ℕ} {e : ℤ} {inexact : Bool} {v : Word}
    (h : Rounds mode neg y sig e inexact) (he0 : 0 ≤ e + 149) (he1 : e + 149 ≤ 253) (hv : v = encodeNormal neg sig e) :
    ∃ m : ℝ, 0 < m ∧ (fpScaled v : ℝ) = (if neg then -m else m) ∧ fpFinite v ∧
      SelectsMagnitude mode neg y m (sig % 2 = 0) ∧ (sig % 2 = 0 → v.getLsbD 0 = false) ∧
      (inexactCause inexact = 0 ↔ m = y) := by
  obtain ⟨hlow, hhigh⟩ := h.sig_bounds
  have hpos : (0 : ℝ) < sig * 2 ^ (e + 149) := mul_pos (by exact_mod_cast (by omega : 0 < sig)) (zpow_pos two_pos _)
  subst hv
  refine ⟨_, hpos, fpScaled_encodeNormal hlow hhigh he0 he1, .inr (.inr (fpClass_encodeNormal he0 he1)), h.selects rfl he0,
    fun heven => ?_, (inexactCause_eq_zero_iff _).trans (h.exact_iff rfl)⟩
  rw [lsb_encodeNormal, decide_eq_false_iff_not]
  omega

/-! ## The ends of the range, of exact values (R569, R570) -/

theorem reaches_iff_ite {mode : RoundMode} {neg : Bool} {y : ℝ} {w : ℤ} {p : ℝ} (hp : p = 2 ^ (w - 2))
    [Decidable (Away mode neg)] : Reaches mode neg y w ↔
      if mode = .rn then (2 ^ 25 - 1) * p ≤ y else if Away mode neg then (2 ^ 25 - 2) * p < y else 2 ^ 25 * p ≤ y := by
  rw [reaches_iff_scaled hp]
  by_cases hrn : mode = .rn
  · subst hrn
    simp [Away]
  · by_cases haway : Away mode neg <;> simp [hrn, haway]

section Range
variable {mode : RoundMode} {x : ℤ} {d : ℕ} (hx : x ≠ 0) (hd : 0 < d)
include hx

theorem roundsAway_iff : RoundsAway mode x ↔ Away mode (decide (x < 0)) := by
  have hpos : decide (x < 0) = false ↔ 0 < x := by rw [decide_eq_false_iff_not]; omega
  rw [RoundsAway, Away, hpos, decide_eq_true_iff]

include hd

theorem overflows_iff : Overflows mode x d ↔ Reaches mode (decide (x < 0)) (|(x : ℝ)| / d) 254 := by
  classical
  have hd' : (0 : ℝ) < d := Nat.cast_pos.mpr hd
  have hp : (2 : ℝ) ^ 252 = 2 ^ ((254 : ℤ) - 2) := by norm_num
  rw [Overflows, reaches_iff_ite hp, le_div_iff₀ hd', lt_div_iff₀ hd', le_div_iff₀ hd']
  by_cases hrn : mode = .rn
  · rw [if_pos hrn, if_pos hrn]
    exact_mod_cast Iff.rfl
  · rw [if_neg hrn, if_neg hrn]
    by_cases haway : RoundsAway mode x
    · rw [if_pos haway, if_pos ((roundsAway_iff hx).1 haway),
        show ((2 : ℝ) ^ 25 - 2) * 2 ^ 252 = (2 ^ 24 - 1) * 2 ^ 253 by norm_num]
      exact_mod_cast Iff.rfl
    · rw [if_neg haway, if_neg (mt (roundsAway_iff hx).2 haway), show (2 : ℝ) ^ 25 * 2 ^ 252 = 2 ^ 277 by rw [← pow_add],
        ← Int.cast_le (R := ℝ), Int.cast_mul, Int.cast_pow, Int.cast_ofNat, Int.cast_natCast, Int.cast_abs]

theorem tiny_iff : Tiny mode x d ↔ ¬Reaches mode (decide (x < 0)) (|(x : ℝ)| / d) 0 := by
  classical
  have hd' : (0 : ℝ) < d := Nat.cast_pos.mpr hd
  have hp : (1 / 4 : ℝ) = 2 ^ ((0 : ℤ) - 2) := by norm_num
  rw [Tiny, reaches_iff_ite hp, le_div_iff₀ hd', lt_div_iff₀ hd', le_div_iff₀ hd']
  by_cases hrn : mode = .rn
  · rw [if_pos hrn, if_pos hrn, not_le, show ((2 : ℝ) ^ 25 - 1) * (1 / 4) * d = (2 ^ 25 - 1) * d / 4 by ring,
      lt_div_iff₀ (by norm_num), mul_comm |(x : ℝ)|]
    exact_mod_cast Iff.rfl
  · rw [if_neg hrn, if_neg hrn]
    by_cases haway : RoundsAway mode x
    · rw [if_pos haway, if_pos ((roundsAway_iff hx).1 haway), not_lt,
        show ((2 : ℝ) ^ 25 - 2) * (1 / 4) * d = (2 ^ 24 - 1) * d / 2 by ring, le_div_iff₀ (by norm_num), mul_comm |(x : ℝ)|]
      exact_mod_cast Iff.rfl
    · rw [if_neg haway, if_neg (mt (roundsAway_iff hx).2 haway), not_le,
        show (2 : ℝ) ^ 25 * (1 / 4) * d = 2 ^ 23 * d by ring]
      exact_mod_cast Iff.rfl

end Range

/-! ## The magnitudes of the operations (49_fpu_instructions R601 to R605) -/

theorem abs_fpScaled_zpow (x : Word) : |(fpScaled x : ℝ)| = fpSig x * 2 ^ (fpShift x : ℤ) := by
  rw [← Int.cast_abs, abs_fpScaled, zpow_natCast]
  push_cast
  rfl

/-- An integer in units of `2^e`. -/
theorem Magnitude.of_natAbs {x : ℤ} (hx : x ≠ 0) (e : ℤ) :
    (⟨x.natAbs, e⟩ : Magnitude).Of (|(x : ℝ)| * 2 ^ (e + 149)) :=
  ⟨Int.natAbs_pos.2 hx, .inl (by rw [Nat.cast_natAbs, Int.cast_abs])⟩

/-- The bits of the root from the top down: what is found so far and one more unit of the next place lie around it. -/
theorem isqrt_spec {n k r : ℕ} (hlow : r * r ≤ n) (hhigh : n < (r + 2 ^ k) * (r + 2 ^ k)) :
    isqrt n k r * isqrt n k r ≤ n ∧ n < (isqrt n k r + 1) * (isqrt n k r + 1) := by
  induction k generalizing r with
  | zero => exact ⟨hlow, hhigh⟩
  | succ k ih =>
    rw [isqrt]
    split
    case isTrue h =>
      refine ih h ?_
      rwa [add_assoc, ← two_mul, ← Nat.pow_succ']
    case isFalse h => exact ih hlow (not_le.1 h)

section Operands
variable {a b : Word} (ha : fpClass a = .normal)
include ha

theorem fpSig_pos : (0 : ℝ) < fpSig a := by
  have := fpSig_of_normal ha
  exact_mod_cast (by omega : 0 < fpSig a)

section Two
variable (hb : fpClass b = .normal)
include hb

theorem product_of : (⟨fpSig a * fpSig b, (fpShift a : ℤ) + fpShift b - 298⟩ : Magnitude).Of
    (|((fpScaled a * fpScaled b : ℤ) : ℝ)| / (2 ^ 149 : ℕ)) := by
  have hpos : 0 < fpSig a * fpSig b :=
    Nat.mul_pos (by have := fpSig_of_normal ha; omega) (by have := fpSig_of_normal hb; omega)
  refine ⟨hpos, .inl ?_⟩
  have hunit : (2 : ℝ) ^ ((fpShift a : ℤ) + fpShift b - 298 + 149) =
      2 ^ (fpShift a : ℤ) * 2 ^ (fpShift b : ℤ) / (2 ^ 149 : ℕ) := by
    rw [show (fpShift a : ℤ) + fpShift b - 298 + 149 = fpShift a + fpShift b - (149 : ℕ) by push_cast; ring,
      zpow_sub₀ two_ne_zero, zpow_add₀ two_ne_zero, zpow_natCast _ 149, Nat.cast_pow, Nat.cast_ofNat]
  rw [Int.cast_mul, abs_mul, abs_fpScaled_zpow, abs_fpScaled_zpow, hunit, Nat.cast_mul]
  ring

theorem quotient_of : (quotient a b).Of
    (|((fpScaled a * 2 ^ 149 * (fpScaled b).sign : ℤ) : ℝ)| / (fpScaled b).natAbs) := by
  have hsa := fpSig_of_normal ha
  have hsb := fpSig_of_normal hb
  have hsb' := fpSig_lt b
  have hbpos := fpSig_pos hb
  obtain ⟨n, hn⟩ : ∃ n, n = fpSig a * 2 ^ 28 := ⟨_, rfl⟩
  obtain ⟨u, hu⟩ : ∃ u : ℝ, u = 2 ^ ((fpShift a : ℤ) - fpShift b - 29 + 149) := ⟨_, rfl⟩
  have hupos : 0 < u := hu ▸ zpow_pos two_pos _
  have hy : |((fpScaled a * 2 ^ 149 * (fpScaled b).sign : ℤ) : ℝ)| / (fpScaled b).natAbs = 2 * (n / fpSig b) * u := by
    have hsign : |((fpScaled b).sign : ℝ)| = 1 := by
      rw [← Int.cast_abs, Int.abs_sign_of_ne_zero (fpScaled_neg_iff hb).1, Int.cast_one]
    have hu' : u = 2 ^ (fpShift a : ℤ) / 2 ^ (fpShift b : ℤ) * 2 ^ 120 := by
      rw [hu, show (fpShift a : ℤ) - fpShift b - 29 + 149 = fpShift a - fpShift b + (120 : ℕ) by push_cast; ring,
        zpow_add₀ two_ne_zero, zpow_sub₀ two_ne_zero, zpow_natCast _ 120]
    rw [Int.cast_mul, abs_mul, hsign, mul_one, Int.cast_mul, abs_mul, abs_fpScaled_zpow, Nat.cast_natAbs, Int.cast_abs,
      abs_fpScaled_zpow, hu', hn]
    have hp : (0 : ℝ) < 2 ^ (fpShift b : ℤ) := zpow_pos two_pos _
    push_cast
    rw [abs_of_pos (by positivity)]
    field_simp
    norm_num
  have hdiv : n = fpSig b * (n / fpSig b) + n % fpSig b := (Nat.div_add_mod n (fpSig b)).symm
  have hdiv' : (n : ℝ) = fpSig b * (n / fpSig b : ℕ) + (n % fpSig b : ℕ) := by exact_mod_cast hdiv
  have hrem : n % fpSig b < fpSig b := Nat.mod_lt _ (by omega)
  have hlarge : 2 ^ 27 ≤ n / fpSig b := by
    rw [Nat.le_div_iff_mul_le (by omega)]
    omega
  rw [hy, quotient, ← hn]
  by_cases hexact : n % fpSig b = 0
  · rw [if_pos hexact]
    refine ⟨by dsimp only; omega, .inl ?_⟩
    dsimp only
    rw [← hu, hdiv', hexact]
    push_cast
    field_simp
    ring
  · rw [if_neg hexact]
    have hquot : (n : ℝ) / fpSig b = (n / fpSig b : ℕ) + (n % fpSig b : ℕ) / fpSig b := by
      rw [div_eq_iff hbpos.ne', add_mul, div_mul_cancel₀ _ hbpos.ne', mul_comm _ (fpSig b : ℝ)]
      exact hdiv'
    have hfrac0 : (0 : ℝ) < (n % fpSig b : ℕ) / fpSig b := div_pos (Nat.cast_pos.2 (Nat.pos_of_ne_zero hexact)) hbpos
    have hfrac1 : ((n % fpSig b : ℕ) : ℝ) / fpSig b < 1 := (div_lt_one hbpos).2 (Nat.cast_lt.2 hrem)
    refine ⟨by dsimp only; omega, .inr ⟨by dsimp only; omega, by dsimp only; omega, ?_, ?_⟩⟩
    · dsimp only
      rw [← hu]
      push_cast
      exact mul_lt_mul_of_pos_right (by rw [hquot]; linarith) hupos
    · dsimp only
      rw [← hu]
      push_cast
      exact mul_lt_mul_of_pos_right (by rw [hquot]; linarith) hupos

end Two

omit ha in
/-- The magnitude of a root is twice the root of an integer, in a power of two. -/
theorem sqrt_eq (hpos : a.msb = false) {o n : ℕ} {e : ℤ} (hn : n = fpSig a * 2 ^ o * 2 ^ 32)
    (he : (fpShift a : ℤ) - 149 - o = 2 * (e + 17)) :
    √((fpScaled a * 2 ^ 149 : ℤ) : ℝ) = 2 * √(n : ℝ) * 2 ^ (e + 149) := by
  have hupos : (0 : ℝ) < 2 ^ (e + 149) := zpow_pos two_pos _
  have hscaled : (fpScaled a : ℝ) = fpSig a * 2 ^ (fpShift a : ℤ) := by
    rw [← abs_fpScaled_zpow, abs_of_nonneg]
    rw [fpScaled, hpos, if_neg Bool.false_ne_true, Int.cast_natCast]
    exact Nat.cast_nonneg _
  have hsq : ((fpScaled a * 2 ^ 149 : ℤ) : ℝ) = n * (2 * 2 ^ (e + 149)) ^ 2 := by
    have hpow : (2 * (2 : ℝ) ^ (e + 149)) ^ 2 = 2 ^ (fpShift a : ℤ) * 2 ^ 149 / (2 ^ o * 2 ^ 32) := by
      rw [eq_div_iff (by positivity), ← zpow_natCast _ 149, ← zpow_natCast _ o, ← zpow_natCast _ 32, ← zpow_one_add₀ two_ne_zero,
        ← zpow_natCast _ 2, ← zpow_mul, ← zpow_add₀ two_ne_zero, ← zpow_add₀ two_ne_zero, ← zpow_add₀ two_ne_zero]
      congr 1
      push_cast
      linarith
    rw [hpow, hn]
    push_cast
    rw [hscaled]
    field_simp
    ring
  rw [hsq, Real.sqrt_mul (Nat.cast_nonneg n), Real.sqrt_sq (by positivity)]
  ring

theorem root_of (hpos : a.msb = false) : (root a).Of √((fpScaled a * 2 ^ 149 : ℤ) : ℝ) := by
  have hsa := fpSig_of_normal ha
  have hsa' := fpSig_lt a
  obtain ⟨o, ho, hodd⟩ : ∃ o : ℕ, (fpShift a % 2 = 0 ∧ o = 1 ∨ fpShift a % 2 = 1 ∧ o = 0) ∧
      (if fpShift a % 2 == 0 then 2 else 1) = 2 ^ o ∧ (if fpShift a % 2 == 0 then (1 : ℤ) else 0) = o := by
    rcases Nat.mod_two_eq_zero_or_one (fpShift a) with h | h
    · exact ⟨1, .inl ⟨h, rfl⟩, by simp [h], by simp [h]⟩
    · exact ⟨0, .inr ⟨h, rfl⟩, by simp [h], by simp [h]⟩
  obtain ⟨htwo, hone⟩ := hodd
  obtain ⟨n, hn⟩ : ∃ n, n = fpSig a * 2 ^ o * 2 ^ 32 := ⟨_, rfl⟩
  obtain ⟨e, he⟩ : ∃ e : ℤ, e = ((fpShift a : ℤ) - 149 - o) / 2 - 17 := ⟨_, rfl⟩
  have hy := sqrt_eq hpos hn (e := e) (by omega)
  have hupos : (0 : ℝ) < 2 ^ (e + 149) := zpow_pos two_pos _
  have hbounds : 2 ^ 55 ≤ n ∧ n < 2 ^ 58 := by rcases ho with ⟨-, rfl⟩ | ⟨-, rfl⟩ <;> omega
  obtain ⟨r, hr⟩ : ∃ r, r = isqrt n 29 0 := ⟨_, rfl⟩
  obtain ⟨hlow, hhigh⟩ : r * r ≤ n ∧ n < (r + 1) * (r + 1) := hr ▸ isqrt_spec (by omega) (by omega)
  have hlarge : 2 ^ 27 ≤ r := by
    by_contra hlt
    have : (r + 1) * (r + 1) ≤ 2 ^ 27 * 2 ^ 27 := Nat.mul_le_mul (by omega) (by omega)
    omega
  rw [root, htwo, hone, ← hn, ← he, ← hr, hy]
  by_cases hexact : r * r = n
  · rw [if_pos hexact]
    refine ⟨by dsimp only; omega, .inl ?_⟩
    rw [← hexact, Nat.cast_mul, Real.sqrt_mul_self (Nat.cast_nonneg r)]
    push_cast
    ring
  · rw [if_neg hexact]
    have hrlow : (r : ℝ) < √(n : ℝ) := by
      refine Real.lt_sqrt_of_sq_lt ?_
      exact_mod_cast (by rw [sq]; omega : r ^ 2 < n)
    have hrhigh : √(n : ℝ) < (r : ℝ) + 1 := by
      rw [Real.sqrt_lt' (by positivity)]
      exact_mod_cast (by rw [sq]; omega : n < (r + 1) ^ 2)
    refine ⟨by dsimp only; omega, .inr ⟨by dsimp only; omega, by dsimp only; omega, ?_, ?_⟩⟩
    · push_cast
      exact mul_lt_mul_of_pos_right (by linarith) hupos
    · push_cast
      exact mul_lt_mul_of_pos_right (by linarith) hupos

end Operands

end Sys2Proof.Machine

end

section
/-!
PROOF. Sys2Proof/Proofs/FpRounding.lean: sums, products, quotients and roots of normal numbers, rounded
(48_fpu_state_and_rules R555, R566, R567; 49_fpu_instructions R601).
-/

namespace Sys2Proof.Machine

/-! ## The operations on nonzero numbers are RoundResult of their exact value -/

theorem isInf_eq_false {x : Word} (h : fpClass x ≠ .inf) : isInf x = false := beq_eq_false_iff_ne.2 h

theorem isZero_eq_false {x : Word} (h : fpClass x ≠ .zero) : isZero x = false := beq_eq_false_iff_ne.2 h

theorem fpClass_ne_of_normal {x : Word} (h : fpClass x = .normal) : fpClass x ≠ .inf ∧ fpClass x ≠ .zero := by
  rw [h]
  exact ⟨by decide, by decide⟩

section Operations
variable (f : Fcr31) {a b : Word}

theorem fpAdd_eq_roundInt (ha : fpClass a ≠ .inf) (hb : fpClass b ≠ .inf) (hx : fpScaled a + fpScaled b ≠ 0) :
    fpAdd f a b = roundInt f (fpScaled a + fpScaled b) (-149) := by
  rw [fpAdd, isInf_eq_false ha, isInf_eq_false hb]
  exact if_neg hx

variable (ha : fpClass a = .normal)
include ha

theorem fpSqrt_eq_roundResult (hpos : a.msb = false) : fpSqrt f a = roundResult f false (root a) := by
  obtain ⟨hinf, hzero⟩ := fpClass_ne_of_normal ha
  rw [fpSqrt, isZero_eq_false hzero, isInf_eq_false hinf, hpos]
  rfl

variable (hb : fpClass b = .normal)
include hb

/-- The sign of a product and of a quotient. -/
theorem xor_msb_eq : (xor a.msb b.msb) = decide (fpScaled a * fpScaled b < 0) := by
  obtain ⟨hane, hasign⟩ := fpScaled_neg_iff ha
  obtain ⟨hbne, hbsign⟩ := fpScaled_neg_iff hb
  rw [Bool.eq_iff_iff, decide_eq_true_iff, mul_neg_iff]
  cases hsa : a.msb <;> cases hsb : b.msb <;> simp [hsa, hsb] at hasign hbsign ⊢ <;> omega

theorem quotient_sign : (xor a.msb b.msb) = decide (fpScaled a * 2 ^ 149 * (fpScaled b).sign < 0) := by
  rw [xor_msb_eq ha hb]
  refine decide_eq_decide.2 ?_
  rw [mul_neg_iff]
  rcases lt_trichotomy (fpScaled b) 0 with h | h | h
  · rw [Int.sign_eq_neg_one_of_neg h]
    omega
  · exact absurd h (fpScaled_neg_iff hb).1
  · rw [Int.sign_eq_one_of_pos h]
    omega

theorem fpMul_eq_roundResult : fpMul f a b = roundResult f (decide (fpScaled a * fpScaled b < 0))
    { m := fpSig a * fpSig b, e := (fpShift a : Int) + fpShift b - 298 } := by
  obtain ⟨hainf, hazero⟩ := fpClass_ne_of_normal ha
  obtain ⟨hbinf, hbzero⟩ := fpClass_ne_of_normal hb
  rw [fpMul, isInf_eq_false hainf, isInf_eq_false hbinf, isZero_eq_false hazero, isZero_eq_false hbzero, xor_msb_eq ha hb]
  rfl

theorem fpDiv_eq_roundResult :
    fpDiv f a b = roundResult f (decide (fpScaled a * 2 ^ 149 * (fpScaled b).sign < 0)) (quotient a b) := by
  obtain ⟨hainf, hazero⟩ := fpClass_ne_of_normal ha
  obtain ⟨hbinf, hbzero⟩ := fpClass_ne_of_normal hb
  rw [fpDiv, isInf_eq_false hainf, isInf_eq_false hbinf, isZero_eq_false hazero, isZero_eq_false hbzero, quotient_sign ha hb]
  rfl

end Operations

/-- The exact value `x / d` of a sum, product or quotient (in units of 2^-149) and what the operation gives. -/
def ExactResult (f : Fcr31) (a b : Word) (x : ℤ) (d : ℕ) (r : FpResult) : Prop :=
  x = fpScaled a + fpScaled b ∧ d = 1 ∧ r = fpAdd f a b ∨
  x = fpScaled a * fpScaled b ∧ d = 2 ^ 149 ∧ r = fpMul f a b ∨
  fpClass b = .normal ∧ x = fpScaled a * 2 ^ 149 * (fpScaled b).sign ∧ d = (fpScaled b).natAbs ∧ r = fpDiv f a b

/-- A nonzero exact value is handed to RoundResult as a magnitude with its sign. -/
theorem ExactResult.rounds {f : Fcr31} {a b : Word} {x : ℤ} {d : ℕ} {r : FpResult} (h : ExactResult f a b x d r)
    (ha : fpClass a ∈ [.zero, .normal]) (hb : fpClass b ∈ [.zero, .normal]) (hx : x ≠ 0) :
    0 < d ∧ ∃ m : Magnitude, r = roundResult f (decide (x < 0)) m ∧ m.Of (|(x : ℝ)| / d) := by
  have hinf {w : Word} (hw : fpClass w ∈ [.zero, .normal]) : fpClass w ≠ .inf := by
    rintro h
    simp [h] at hw
  have hnormal {w : Word} (hw : fpClass w ∈ [.zero, .normal]) (hne : fpScaled w ≠ 0) : fpClass w = .normal := by
    simp only [List.mem_cons, List.not_mem_nil, or_false] at hw
    exact hw.resolve_left fun hz => hne (fpScaled_of_zero hz)
  rcases h with ⟨rfl, rfl, rfl⟩ | ⟨rfl, rfl, rfl⟩ | ⟨hb', rfl, rfl, rfl⟩
  · refine ⟨one_pos, _, fpAdd_eq_roundInt f (hinf ha) (hinf hb) hx, ?_⟩
    have hof := Magnitude.of_natAbs hx (-149)
    rwa [show (-149 : ℤ) + 149 = 0 by rfl, zpow_zero, mul_one, ← div_one |_|, ← Nat.cast_one] at hof
  · have ha' := hnormal ha (left_ne_zero_of_mul hx)
    have hb' := hnormal hb (right_ne_zero_of_mul hx)
    exact ⟨Nat.two_pow_pos _, _, fpMul_eq_roundResult f ha' hb', product_of ha' hb'⟩
  · have ha' := hnormal ha (left_ne_zero_of_mul (left_ne_zero_of_mul hx))
    exact ⟨Int.natAbs_pos.2 (fpScaled_neg_iff hb').1, _, fpDiv_eq_roundResult f ha' hb', quotient_of ha' hb'⟩

/-! ## Results in the range -/

/-- A result without a cause or with Inexact alone is rounded as the mode says (R555). -/
theorem roundsTo_of_value {f : Fcr31} {mode : RoundMode} {m : Magnitude} {x : ℤ} {d : ℕ} {c : FpCause} {v : Word}
    (hmode : mode = RoundMode.ofBits f.rm) (hd : 0 < d) (hof : m.Of (|(x : ℝ)| / d))
    (hvalue : roundResult f (decide (x < 0)) m = .value c v) (hc : c = 0 ∨ c = causeI) :
    RoundsTo mode x d v ∧ (c = 0 ↔ fpScaled v * d = x) := by
  have hd' : (0 : ℝ) < d := Nat.cast_pos.mpr hd
  obtain ⟨sig, e, inexact, hrounds, he0, he1, rfl, hv⟩ := roundResult_value hof f _ hmode hvalue hc
  obtain ⟨k, hk, hscaled, hfinite, hselects, heven, hexact⟩ := hrounds.encoded he0 he1 hv
  have habs : |(x : ℝ)| / d = |(x : ℝ) / d| := by rw [abs_div, abs_of_pos hd']
  refine ⟨roundsTo_of_selects hd (habs ▸ hselects) rfl hfinite hscaled hk.le heven, hexact.trans ?_⟩
  rw [← Int.cast_inj (α := ℝ), Int.cast_mul, Int.cast_natCast, ← eq_div_iff hd'.ne', hscaled, eq_div_iff hd'.ne',
    eq_div_iff hd'.ne']
  rcases lt_or_ge x 0 with hneg | hpos
  · have hneg' : (x : ℝ) < 0 := Int.cast_lt_zero.2 hneg
    rw [decide_eq_true hneg, if_pos rfl, abs_of_neg hneg', neg_mul, neg_eq_iff_eq_neg]
  · have hpos' : (0 : ℝ) ≤ x := Int.cast_nonneg hpos
    rw [decide_eq_false (not_lt.2 hpos), if_neg Bool.false_ne_true, abs_of_nonneg hpos']

/-- Between the ends of the range there is such a result. -/
theorem exists_value_of_rounds {f : Fcr31} {mode : RoundMode} {m : Magnitude} {y : ℝ} (neg : Bool)
    (hmode : mode = RoundMode.ofBits f.rm) (hof : m.Of y) (hlow : Reaches mode neg y 0) (hhigh : ¬Reaches mode neg y 254) :
    ∃ c v, roundResult f neg m = .value c v ∧ (c = 0 ∨ c = causeI) := by
  obtain ⟨sig, e, inexact, -, -, -, hvalue⟩ := roundResult_normal hof f neg hmode hlow hhigh
  exact ⟨_, _, hvalue, inexactCause_eq inexact⟩

/-! ## A single is rounded to itself -/

theorem SelectsMagnitude.eq_of_single {mode : RoundMode} {neg : Bool} {y m : ℝ} {even : Prop}
    (h : SelectsMagnitude mode neg y m even) (hy : IsSingle y) : m = y := by
  by_cases hrn : mode = .rn
  · have hnear := (h.nearest hrn y hy).1
    rw [sub_self, abs_zero] at hnear
    exact sub_eq_zero.1 (abs_nonpos_iff.1 hnear)
  · by_cases haway : Away mode neg
    · obtain ⟨hle, hmin⟩ := h.away haway
      exact le_antisymm (hmin y hy le_rfl) hle
    · obtain ⟨hle, hmax⟩ := h.toward hrn haway
      exact le_antisymm hle (hmax y hy le_rfl)

theorem word_toNat (x : Word) : x.toNat = x.msb.toNat * 2 ^ 31 + fpExp x * 2 ^ 23 + fpFrac x := by
  have hexp : fpExp x = x.toNat / 2 ^ 23 % 256 := by rw [fpExp, BitVec.extractLsb'_toNat, Nat.shiftRight_eq_div_pow]
  have hfrac : fpFrac x = x.toNat % 2 ^ 23 := by rw [fpFrac, BitVec.extractLsb'_toNat, Nat.shiftRight_zero]
  have hlt := x.isLt
  rw [hexp, hfrac, BitVec.msb_eq_decide]
  cases h : decide (2 ^ (32 - 1) ≤ x.toNat)
  · have := of_decide_eq_false h
    simp only [Bool.toNat_false]
    omega
  · have := of_decide_eq_true h
    simp only [Bool.toNat_true]
    omega

theorem normalized_unique {s t j k : ℕ} (hs : 2 ^ 23 ≤ s) (hs' : s < 2 ^ 24) (ht : 2 ^ 23 ≤ t) (ht' : t < 2 ^ 24)
    (h : s * 2 ^ j = t * 2 ^ k) : s = t ∧ j = k := by
  have hle {s t j k : ℕ} (hs' : s < 2 ^ 24) (ht : 2 ^ 23 ≤ t) (h : s * 2 ^ j = t * 2 ^ k) : k ≤ j := by
    by_contra hlt
    obtain ⟨i, rfl⟩ := Nat.exists_eq_add_of_lt (not_le.1 hlt)
    rw [show j + i + 1 = i + 1 + j by ring, pow_add 2 (i + 1), ← mul_assoc] at h
    have hst := Nat.eq_of_mul_eq_mul_right (Nat.two_pow_pos j) h
    have : t * 2 ^ 1 ≤ t * 2 ^ (i + 1) := Nat.mul_le_mul_left t (Nat.pow_le_pow_right two_pos (by omega))
    omega
  obtain rfl : j = k := le_antisymm (hle ht' hs h.symm) (hle hs' ht h)
  exact ⟨Nat.eq_of_mul_eq_mul_right (Nat.two_pow_pos j) h, rfl⟩

/-- A normal number is told by its value. -/
theorem eq_of_fpScaled {v w : Word} (hv : fpClass v = .normal) (hw : fpClass w = .normal)
    (h : fpScaled v = fpScaled w) : v = w := by
  have hmsb : v.msb = w.msb := by
    rw [Bool.eq_iff_iff, ← (fpScaled_neg_iff hv).2, ← (fpScaled_neg_iff hw).2, h]
  have hmag : fpSig v * 2 ^ fpShift v = fpSig w * 2 ^ fpShift w := by
    have := congrArg abs h
    rwa [abs_fpScaled, abs_fpScaled, Nat.cast_inj] at this
  obtain ⟨hsig, hshift⟩ :=
    normalized_unique (fpSig_of_normal hv) (fpSig_lt v) (fpSig_of_normal hw) (fpSig_lt w) hmag
  obtain ⟨hv0, -⟩ := (fpClass_normal_iff v).1 hv
  obtain ⟨hw0, -⟩ := (fpClass_normal_iff w).1 hw
  rw [fpSig, fpSig, if_neg hv0, if_neg hw0] at hsig
  rw [fpShift, fpShift] at hshift
  refine BitVec.eq_of_toNat_eq ?_
  rw [word_toNat, word_toNat, hmsb, show fpExp v = fpExp w by omega, show fpFrac v = fpFrac w by omega]

/-- The magnitudes of the normal numbers. -/
theorem fpScaled_bounds {b : Word} (hb : fpClass b = .normal) : 2 ^ 23 ≤ |fpScaled b| ∧ |fpScaled b| ≤ 2 ^ 24 * 2 ^ 253 := by
  have hlow := fpSig_of_normal hb
  have hshift : fpShift b ≤ 253 := by
    have := fpExp_lt b
    have := (fpClass_normal_iff b).1 hb
    rw [fpShift]
    omega
  have hmag : 2 ^ 23 * 1 ≤ fpSig b * 2 ^ fpShift b ∧ fpSig b * 2 ^ fpShift b ≤ 2 ^ 24 * 2 ^ 253 :=
    ⟨Nat.mul_le_mul hlow (Nat.two_pow_pos _), Nat.mul_le_mul (fpSig_lt b).le (Nat.pow_le_pow_right two_pos hshift)⟩
  rw [abs_fpScaled]
  exact_mod_cast hmag

/-- The magnitude of a normal number is in the range, whichever way it is rounded. -/
theorem reaches_of_normal {b : Word} (hb : fpClass b = .normal) (mode : RoundMode) (neg : Bool) :
    Reaches mode neg |(fpScaled b : ℝ)| 0 ∧ ¬Reaches mode neg |(fpScaled b : ℝ)| 254 := by
  obtain ⟨hexp0, hexp1⟩ := (fpClass_normal_iff b).1 hb
  have hlow : (2 : ℝ) ^ 23 ≤ fpSig b := by exact_mod_cast fpSig_of_normal hb
  have hhigh : (fpSig b : ℝ) ≤ 2 ^ 24 - 1 := by
    have : (fpSig b : ℝ) + 1 ≤ 2 ^ 24 := by exact_mod_cast fpSig_lt b
    linarith
  have hshift : fpShift b ≤ 253 := by
    have := fpExp_lt b
    rw [fpShift]
    omega
  have hpow1 : (1 : ℝ) ≤ 2 ^ fpShift b := one_le_pow₀ one_le_two
  have hpow2 : (2 : ℝ) ^ fpShift b ≤ 2 ^ 253 := pow_le_pow_right₀ one_le_two hshift
  rw [abs_fpScaled_zpow, zpow_natCast]
  refine ⟨reaches_of_le (p := 1 / 4) (by norm_num) ?_, not_reaches_of_le (p := 2 ^ 252) (by norm_num) ?_⟩
  · calc (2 : ℝ) ^ 25 * (1 / 4) = 2 ^ 23 * 1 := by norm_num
      _ ≤ (fpSig b : ℝ) * 2 ^ fpShift b := mul_le_mul hlow hpow1 one_pos.le (by linarith)
  · calc (fpSig b : ℝ) * 2 ^ fpShift b ≤ (2 ^ 24 - 1) * 2 ^ 253 :=
          mul_le_mul hhigh hpow2 (by positivity) (by norm_num)
      _ = (2 ^ 25 - 2) * 2 ^ 252 := by norm_num

theorem roundInt_of_normal (f : Fcr31) {b : Word} (hb : fpClass b = .normal) : roundInt f (fpScaled b) (-149) = .value 0 b := by
  obtain ⟨hne, hsign⟩ := fpScaled_neg_iff hb
  have hof := Magnitude.of_natAbs hne (-149)
  rw [show (-149 : ℤ) + 149 = 0 by rfl, zpow_zero, mul_one] at hof
  obtain ⟨hlow, hhigh⟩ := reaches_of_normal hb (RoundMode.ofBits f.rm) (decide (fpScaled b < 0))
  obtain ⟨sig, e, inexact, hrounds, he0, he1, hvalue⟩ := roundResult_normal hof f _ rfl hlow hhigh
  obtain ⟨m, -, hscaled, -, hselects, -, hexact⟩ := hrounds.encoded he0 he1 rfl
  have hm := hselects.eq_of_single (isSingle_fpScaled b)
  have hword : encodeNormal (decide (fpScaled b < 0)) sig e = b := by
    refine eq_of_fpScaled (fpClass_encodeNormal he0 he1) hb ?_
    rw [← Int.cast_inj (α := ℝ), hscaled, hm]
    rcases lt_or_ge (fpScaled b) 0 with hneg | hpos
    · rw [decide_eq_true hneg, if_pos rfl, abs_of_neg (Int.cast_lt_zero.2 hneg), neg_neg]
    · rw [decide_eq_false (not_lt.2 hpos), if_neg Bool.false_ne_true, abs_of_nonneg (Int.cast_nonneg hpos)]
  rw [roundInt, hvalue, hexact.2 hm, hword]

/-- The sum of a zero and a normal number (R601). -/
theorem fpAdd_zero (f : Fcr31) {a b : Word} (ha : fpClass a = .zero) (hb : fpClass b = .normal) :
    fpAdd f a b = .value 0 b ∧ fpAdd f b a = .value 0 b := by
  have hainf : fpClass a ≠ .inf := by rw [ha]; decide
  obtain ⟨hbinf, -⟩ := fpClass_ne_of_normal hb
  have hne := (fpScaled_neg_iff hb).1
  rw [fpAdd_eq_roundInt f hainf hbinf (by rwa [fpScaled_of_zero ha, zero_add]),
    fpAdd_eq_roundInt f hbinf hainf (by rwa [fpScaled_of_zero ha, add_zero]), fpScaled_of_zero ha, zero_add, add_zero,
    roundInt_of_normal f hb]
  exact ⟨rfl, rfl⟩

/-! ## Roots -/

section Root
variable {f : Fcr31} {a : Word} {mode : RoundMode} (hmode : mode = RoundMode.ofBits f.rm) (ha : fpClass a = .normal)
include hmode ha

theorem rootRoundsTo_of_value {c : FpCause} {v : Word} (h : fpSqrt f a = .value c v) (hc : c = 0 ∨ c = causeI) :
    RootRoundsTo mode (fpScaled a * 2 ^ 149) v ∧ (c = 0 ↔ fpScaled v ^ 2 = fpScaled a * 2 ^ 149) := by
  cases hpos : a.msb with
  | true =>
    obtain ⟨-, hzero⟩ := fpClass_ne_of_normal ha
    rw [fpSqrt, isZero_eq_false hzero, hpos] at h
    injection h with hcause
    subst hcause
    exact absurd hc (by decide)
  | false =>
    have hscaled : 0 ≤ fpScaled a := by
      rw [fpScaled, hpos, if_neg Bool.false_ne_true]
      exact Int.natCast_nonneg _
    have hx : 0 ≤ fpScaled a * 2 ^ 149 := by positivity
    rw [fpSqrt_eq_roundResult f ha hpos] at h
    obtain ⟨sig, e, inexact, hrounds, he0, he1, rfl, hv⟩ := roundResult_value (root_of ha hpos) f _ hmode h hc
    obtain ⟨m, hm, hvm, hfinite, hselects, heven, hexact⟩ := hrounds.encoded he0 he1 hv
    rw [if_neg Bool.false_ne_true] at hvm
    have hv0 : 0 ≤ fpScaled v := by
      have : (0 : ℝ) ≤ fpScaled v := hvm ▸ hm.le
      exact_mod_cast this
    refine ⟨rootRoundsTo_of_selects hx (hvm ▸ hselects) hfinite hv0 heven, hexact.trans ?_⟩
    rw [← hvm, ← Int.cast_inj (α := ℝ), eq_comm, Real.sqrt_eq_iff_mul_self_eq (Int.cast_nonneg hx) (Int.cast_nonneg hv0)]
    push_cast
    rw [sq]
    exact eq_comm

theorem exists_root (hpos : a.msb = false) : ∃ c v, fpSqrt f a = .value c v ∧ (c = 0 ∨ c = causeI) := by
  have hbounds : (2 : ℝ) ^ 86 ≤ √((fpScaled a * 2 ^ 149 : ℤ) : ℝ) ∧ √((fpScaled a * 2 ^ 149 : ℤ) : ℝ) ≤ 2 ^ 213 := by
    have hpos' : fpScaled a = |fpScaled a| := by
      rw [fpScaled, hpos, if_neg Bool.false_ne_true, abs_of_nonneg (Int.natCast_nonneg _)]
    obtain ⟨hlow, hhigh⟩ := fpScaled_bounds ha
    rw [← hpos'] at hlow hhigh
    have hlow' : (2 : ℝ) ^ 23 ≤ fpScaled a := by exact_mod_cast hlow
    have hhigh' : (fpScaled a : ℝ) ≤ 2 ^ 24 * 2 ^ 253 := by exact_mod_cast hhigh
    push_cast
    exact ⟨Real.le_sqrt_of_sq_le (by linarith), Real.sqrt_le_iff.2 ⟨by positivity, by linarith⟩⟩
  rw [fpSqrt_eq_roundResult f ha hpos]
  refine exists_value_of_rounds false hmode (root_of ha hpos) (reaches_of_le (p := 1 / 4) (by norm_num) ?_)
    (not_reaches_of_le (p := 2 ^ 252) (by norm_num) ?_)
  · calc (2 : ℝ) ^ 25 * (1 / 4) ≤ 2 ^ 86 := by norm_num
      _ ≤ _ := hbounds.1
  · calc _ ≤ (2 : ℝ) ^ 213 := hbounds.2
      _ ≤ (2 ^ 25 - 2) * 2 ^ 252 := by norm_num

end Root

/-! ## Sums, products and quotients of two normal numbers -/

theorem fpClass_fpZero (neg : Bool) : fpClass (fpZero neg) = .zero ∧ (fpZero neg).getLsbD 0 = false := by
  cases neg <;> decide

theorem roundsTo_zero {mode : RoundMode} {d : ℕ} {v : Word} (hd : 0 < d) (hv : fpClass v = .zero)
    (heven : v.getLsbD 0 = false) : RoundsTo mode 0 d v := by
  have hd' : (0 : ℤ) < d := Int.natCast_pos.2 hd
  refine ⟨.inl hv, ?_⟩
  cases mode <;> simp only [fpScaled_of_zero hv, zero_mul, sub_zero, abs_zero, le_refl, true_and]
  case rn => exact fun w _ => ⟨abs_nonneg _, fun _ => .inr heven⟩
  case rz =>
    intro w _ h
    exact le_of_mul_le_mul_right (by rwa [zero_mul, ← abs_of_pos hd', ← abs_mul]) hd'
  case rp => exact fun w _ h => nonneg_of_mul_nonneg_left h hd'
  case rm => exact fun w _ h => nonpos_of_mul_nonpos_left h hd'

section Two
variable {f : Fcr31} {a b : Word} {x : ℤ} {d : ℕ} {r : FpResult} (h : ExactResult f a b x d r) (ha : fpClass a = .normal)
  (hb : fpClass b = .normal)
include h ha hb

/-- Only a sum of normal numbers can be zero. -/
theorem ExactResult.eq_zero (hx : x = 0) : d = 1 ∧ ∃ neg, r = .value 0 (fpZero neg) := by
  have hane := (fpScaled_neg_iff ha).1
  have hbne := (fpScaled_neg_iff hb).1
  obtain ⟨hainf, -⟩ := fpClass_ne_of_normal ha
  obtain ⟨hbinf, -⟩ := fpClass_ne_of_normal hb
  rcases h with ⟨rfl, rfl, rfl⟩ | ⟨rfl, rfl, rfl⟩ | ⟨-, rfl, rfl, rfl⟩
  · rw [fpAdd, isInf_eq_false hainf, isInf_eq_false hbinf]
    exact ⟨rfl, _, if_pos hx⟩
  · exact absurd hx (mul_ne_zero hane hbne)
  · exact absurd hx (mul_ne_zero (mul_ne_zero hane (by norm_num)) (mt Int.sign_eq_zero_iff_zero.1 hbne))

variable {mode : RoundMode} (hmode : mode = RoundMode.ofBits f.rm)
include hmode

theorem ExactResult.roundsTo {c : FpCause} {v : Word} (hr : r = .value c v) (hc : c = 0 ∨ c = causeI) :
    RoundsTo mode x d v ∧ (c = 0 ↔ fpScaled v * d = x) := by
  by_cases hx : x = 0
  · obtain ⟨hd, neg, hzero⟩ := h.eq_zero ha hb hx
    obtain ⟨hclass, heven⟩ := fpClass_fpZero neg
    rw [hzero] at hr
    injection hr with hc0 hv
    subst hv hc0 hx
    exact ⟨roundsTo_zero (hd ▸ one_pos) hclass heven, by simp [fpScaled_of_zero hclass]⟩
  · obtain ⟨hd, m, hm, hof⟩ := h.rounds (by simp [ha]) (by simp [hb]) hx
    exact roundsTo_of_value hmode hd hof (hm.symm.trans hr) hc

theorem ExactResult.exists_value (hover : ¬Overflows mode x d) (htiny : ¬Tiny mode x d) :
    ∃ c v, r = .value c v ∧ (c = 0 ∨ c = causeI) := by
  by_cases hx : x = 0
  · obtain ⟨-, neg, hzero⟩ := h.eq_zero ha hb hx
    exact ⟨0, _, hzero, .inl rfl⟩
  · obtain ⟨hd, m, rfl, hof⟩ := h.rounds (by simp [ha]) (by simp [hb]) hx
    rw [overflows_iff hx hd] at hover
    rw [tiny_iff hx hd, not_not] at htiny
    exact exists_value_of_rounds _ hmode hof htiny hover

end Two

/-- The quotient is exact when it gives back the dividend. -/
theorem mul_natAbs_eq_iff {q n b : ℤ} (hb : b ≠ 0) : q * b.natAbs = n * b.sign ↔ q * b = n := by
  have hsign : b.sign * b.sign = 1 := by
    rcases lt_or_gt_of_ne hb with h | h
    · rw [Int.sign_eq_neg_one_of_neg h]; rfl
    · rw [Int.sign_eq_one_of_pos h]; rfl
  have habs : (b.natAbs : ℤ) = b * b.sign := (Int.mul_sign_self b).symm
  rw [habs, ← mul_assoc]
  exact ⟨fun h => mul_right_cancel₀ (left_ne_zero_of_mul_eq_one hsign) h, fun h => by rw [h]⟩

end Sys2Proof.Machine

open Sys2Proof Sys2Proof.Machine

/-- Settles O54: the significand and the exponent that the operation hands to RoundResult stand for the exact value, exactly or
with a sticky bit, so that its 24 bits are the mode's choice among all singles. -/
theorem fpRounding : Obligations.FpRounding := by
  intro f a b v c mode hmode hb
  refine ⟨fun ha => fpAdd_zero f ha hb, fun ha hc => ⟨fun hadd => ?_, fun hmul => ?_, fun hdiv => ?_,
    fun hsqrt => rootRoundsTo_of_value hmode ha hsqrt hc, fun x d r h hover htiny => ?_, exists_root hmode ha⟩⟩
  · have hsum : ExactResult f a b _ _ _ := .inl ⟨rfl, rfl, rfl⟩
    have hround := hsum.roundsTo ha hb hmode hadd hc
    rwa [Nat.cast_one, mul_one] at hround
  · have hprod : ExactResult f a b _ _ _ := .inr (.inl ⟨rfl, rfl, rfl⟩)
    have hround := hprod.roundsTo ha hb hmode hmul hc
    rwa [Nat.cast_pow, Nat.cast_ofNat] at hround
  · have hquot : ExactResult f a b _ _ _ := .inr (.inr ⟨hb, rfl, rfl, rfl⟩)
    have hround := hquot.roundsTo ha hb hmode hdiv hc
    rwa [mul_natAbs_eq_iff (fpScaled_neg_iff hb).1] at hround
  · have hexact : ExactResult f a b x d r := by
      simpa only [ExactResult, hb, true_and] using h
    exact hexact.exists_value ha hb hmode hover htiny

end

section
/-!
PROOF. Sys2Proof/Proofs/FpSpecial.lean: the operations on zeros and infinities, and the results beyond the ends of the range
(48_fpu_state_and_rules R566, R568 to R570; 49_fpu_instructions R601, R603 to R605).
-/

namespace Sys2Proof.Machine

/-! ## Operands that are zeros or infinities -/

theorem isInf_of_class {x : Word} (h : fpClass x = .inf) : isInf x = true ∧ isZero x = false := by
  rw [isInf, isZero, h]
  decide

theorem isZero_of_class {x : Word} (h : fpClass x = .zero) : isInf x = false ∧ isZero x = true := by
  rw [isInf, isZero, h]
  decide

section Special
variable (f : Fcr31) {a b : Word}

theorem special_inf_inf (ha : fpClass a = .inf) (hb : fpClass b = .inf) :
    fpAdd f a b = (if (xor a.msb b.msb) = true then .value causeV qnanS else .value 0 a) ∧
    fpMul f a b = .value 0 (fpInf (xor a.msb b.msb)) ∧ fpDiv f a b = .value causeV qnanS := by
  obtain ⟨hai, haz⟩ := isInf_of_class ha
  obtain ⟨hbi, hbz⟩ := isInf_of_class hb
  simp [fpAdd, fpMul, fpDiv, hai, haz, hbi, hbz]

theorem special_inf_finite (ha : fpClass a = .inf) (hb : fpClass b ≠ .inf) :
    fpAdd f a b = .value 0 a ∧ fpAdd f b a = .value 0 a ∧ fpDiv f a b = .value 0 (fpInf (xor a.msb b.msb)) ∧
    fpDiv f b a = .value 0 (fpZero (xor a.msb b.msb)) ∧
    fpMul f a b = (if fpClass b = .zero then .value causeV qnanS else .value 0 (fpInf (xor a.msb b.msb))) ∧
    fpMul f b a = fpMul f a b := by
  obtain ⟨hai, haz⟩ := isInf_of_class ha
  have hbi := isInf_eq_false hb
  have hbz : isZero b = true ↔ fpClass b = .zero := beq_iff_eq
  simp [fpAdd, fpMul, fpDiv, hai, haz, hbi, hbz, Bool.xor_comm]

theorem special_zero (ha : fpClass a = .zero) (hb : fpClass b ≠ .inf) :
    fpMul f a b = .value 0 (fpZero (xor a.msb b.msb)) ∧ fpMul f b a = .value 0 (fpZero (xor a.msb b.msb)) ∧
    fpDiv f a b = (if fpClass b = .zero then .value causeV qnanS else .value 0 (fpZero (xor a.msb b.msb))) ∧
    (fpClass b = .normal → fpDiv f b a = .value causeZ (fpInf (xor a.msb b.msb))) := by
  obtain ⟨hai, haz⟩ := isZero_of_class ha
  have hbi := isInf_eq_false hb
  have hbz : isZero b = true ↔ fpClass b = .zero := beq_iff_eq
  simp +contextual [fpMul, fpDiv, hai, haz, hbi, hbz, Bool.xor_comm]

theorem special_sqrt :
    (fpClass a = .zero → fpSqrt f a = .value 0 a) ∧
    (fpClass a ≠ .zero → a.msb = true → fpSqrt f a = .value causeV qnanS) ∧
    (fpClass a = .inf → a.msb = false → fpSqrt f a = .value 0 a) := by
  refine ⟨fun h => ?_, fun h hneg => ?_, fun h hpos => ?_⟩
  · rw [fpSqrt, (isZero_of_class h).2]
    rfl
  · rw [fpSqrt, isZero_eq_false h, hneg]
    rfl
  · obtain ⟨hinf, hzero⟩ := isInf_of_class h
    rw [fpSqrt, hzero, hinf, hpos]
    rfl

end Special

/-- Nothing but a zero has the value 0, among zeros and normal numbers. -/
theorem fpScaled_eq_zero_iff {x : Word} (h : fpClass x ∈ [.zero, .normal]) : fpScaled x = 0 ↔ fpClass x = .zero := by
  simp only [List.mem_cons, List.not_mem_nil, or_false] at h
  rcases h with h | h
  · simp [h, fpScaled_of_zero h]
  · simp [h, (fpScaled_neg_iff h).1]

/-- The sign of an exact zero sum (K14). -/
theorem fpAdd_eq_zero (f : Fcr31) {a b : Word} {mode : RoundMode} (hmode : mode = RoundMode.ofBits f.rm)
    (ha : fpClass a ∈ [.zero, .normal]) (hb : fpClass b ∈ [.zero, .normal]) (hsum : fpScaled a + fpScaled b = 0) :
    fpAdd f a b =
      .value 0 (fpZero (if fpClass a = .zero ∧ (xor a.msb b.msb) = false then a.msb else decide (mode = .rm))) := by
  have hzero : fpClass b = .zero ↔ fpClass a = .zero := by
    rw [← fpScaled_eq_zero_iff ha, ← fpScaled_eq_zero_iff hb]
    omega
  have hinf {x : Word} (h : fpClass x ∈ [.zero, .normal]) : isInf x = false :=
    isInf_eq_false fun hx => by simp [hx] at h
  have hrm : (mode == .rm) = decide (mode = .rm) := by cases mode <;> rfl
  rw [fpAdd, hinf ha, hinf hb, ← hmode, hrm]
  refine (if_pos hsum).trans (congrArg (fun sign => FpResult.value 0 (fpZero sign)) ?_)
  by_cases hz : fpClass a = .zero
  · rw [(isZero_of_class hz).2, (isZero_of_class (hzero.2 hz)).2]
    cases a.msb <;> cases b.msb <;> simp [hz]
  · rw [isZero_eq_false hz]
    simp [hz]

/-! ## Beyond the ends of the range -/

theorem underflow_spec (f : Fcr31) (mode : RoundMode) (neg inexact : Bool) {r : FpResult}
    (hr : r = underflow f mode neg inexact) :
    (f.enables.getLsbD 1 = true → ∃ c, r = .traps c ∧ c.getLsbD 1 = true) ∧
    (f.enables.getLsbD 1 = false → f.fs = false → r = .traps causeE) ∧
    (f.enables.getLsbD 1 = false → f.fs = true → r = .value (causeU ||| causeI) (flushResult mode neg)) := by
  subst hr
  refine ⟨fun hu => ⟨_, if_pos hu, by cases inexact <;> decide⟩, fun hu hfs => ?_, fun hu hfs => ?_⟩
  · rw [underflow, hu, hfs]
    rfl
  · rw [underflow, hu, hfs]
    rfl

end Sys2Proof.Machine

open Sys2Proof Sys2Proof.Machine

/-- Settles O55: zeros and infinities case by case, and the exact value of an operation on nonzero numbers, handed to RoundResult,
tells on which side of the range it falls. -/
theorem fpSpecial : Obligations.FpSpecial := by
  intro f a b neg mode hmode hneg hca hcb
  subst hneg
  have hfinite {w : Word} (hw : fpClass w ∈ [.zero, .normal, .inf]) (hne : fpClass w ≠ .inf) : fpClass w ∈ [.zero, .normal] := by
    simpa [hne] using hw
  obtain ⟨hroot0, hrootneg, hrootinf⟩ := special_sqrt f (a := a)
  refine ⟨special_inf_inf f, special_inf_finite f, special_zero f,
    fun ha hb hsum => fpAdd_eq_zero f hmode (hfinite hca ha) (hfinite hcb hb) hsum, hroot0, hrootneg, hrootinf, ?_⟩
  intro x d r sign ha hb hr hx hsign
  have hexact : ExactResult f a b x d r := hr
  obtain ⟨hd, m, hm, hof⟩ := hexact.rounds (hfinite hca ha) (hfinite hcb hb) hx
  rw [← hsign] at hm
  rw [overflows_iff hx hd, tiny_iff hx hd, ← hsign]
  refine ⟨fun hover => ?_, fun htiny => ?_⟩
  · rw [hm, roundResult_overflow hof f sign hmode hover]
    cases mode <;> cases sign <;> rfl
  · obtain ⟨inexact, htiny'⟩ := roundResult_tiny hof f sign hmode htiny
    obtain ⟨htrap, hunimplemented, hflush⟩ := underflow_spec f mode sign inexact (hm.trans htiny')
    refine ⟨htrap, hunimplemented, fun hu hfs => (hflush hu hfs).trans ?_⟩
    cases mode <;> cases sign <;> rfl

end

section
/-!
PROOF. Sys2Proof/Proofs/FpConversions.lean: a single rounded to an integer and an integer to a single
(49_fpu_instructions R610 to R616; 48_fpu_state_and_rules R555).
-/

namespace Sys2Proof.Machine

/-! ## The integer that a mode selects -/

section Unique
variable {mode : RoundMode} {x n k : ℤ} {d : ℕ} (hd : 0 < d)
include hd

/-- An integer is selected from less than one unit away. -/
theorem RoundsToInteger.abs_sub_lt (h : RoundsToInteger mode x d n) : |n * d - x| < d := by
  have hd' : (0 : ℤ) < d := Int.natCast_pos.2 hd
  cases mode with
  | rn =>
    have hle := h.1
    omega
  | rz =>
    obtain ⟨hle, hlt, hsign⟩ := h
    have hsame : 0 ≤ n * d * x := by
      rw [mul_right_comm]
      exact mul_nonneg hsign hd'.le
    rw [abs_lt]
    rcases mul_nonneg_iff.1 hsame with ⟨hn, hx⟩ | ⟨hn, hx⟩
    · rw [abs_of_nonneg hn, abs_of_nonneg hx] at *
      omega
    · rw [abs_of_nonpos hn, abs_of_nonpos hx] at *
      omega
  | rp =>
    obtain ⟨hle, hlt⟩ := h
    rw [abs_lt]
    omega
  | rm =>
    obtain ⟨hle, hlt⟩ := h
    rw [abs_lt]
    omega

theorem eq_of_abs_mul_sub_lt (h : |n * d - k * d| < d) : n = k := by
  have hd' : (0 : ℤ) < d := Int.natCast_pos.2 hd
  rw [← sub_mul, abs_mul, abs_of_pos hd'] at h
  have hone : |n - k| < 1 := lt_of_mul_lt_mul_right (by rwa [one_mul]) hd'.le
  exact sub_eq_zero.1 (Int.abs_lt_one_iff.1 hone)

theorem RoundsToInteger.unique (hn : RoundsToInteger mode x d n) (hk : RoundsToInteger mode x d k) : n = k := by
  have hd' : (0 : ℤ) < d := Int.natCast_pos.2 hd
  cases mode with
  | rn =>
    obtain ⟨hn0, hn1⟩ := hn
    obtain ⟨hk0, hk1⟩ := hk
    by_contra hne
    have hfar : d ≤ |n * d - k * d| := by
      by_contra hlt
      exact hne (eq_of_abs_mul_sub_lt hd (not_le.1 hlt))
    have htri : |n * d - k * d| ≤ |n * d - x| + |k * d - x| := by
      rw [abs_sub_comm (k * d)]
      exact abs_sub_le _ _ _
    have hnear : |n - k| ≤ 1 := by
      rw [← sub_mul, abs_mul, abs_of_pos hd'] at htri
      exact le_of_mul_le_mul_right (by omega) hd'
    have hneven := hn1 (by omega)
    have hkeven := hk1 (by omega)
    obtain ⟨hlow, hhigh⟩ := abs_le.1 hnear
    omega
  | rz =>
    obtain ⟨hn0, hn1, hn2⟩ := hn
    obtain ⟨hk0, hk1, hk2⟩ := hk
    have hsame {m : ℤ} (h : 0 ≤ m * x) : 0 ≤ m * d * x := by
      rw [mul_right_comm]
      exact mul_nonneg h hd'.le
    refine eq_of_abs_mul_sub_lt hd (abs_lt.2 ?_)
    rcases mul_nonneg_iff.1 (hsame hn2) with ⟨hns, hx⟩ | ⟨hns, hx⟩ <;>
      rcases mul_nonneg_iff.1 (hsame hk2) with ⟨hks, hx'⟩ | ⟨hks, hx'⟩ <;>
        grind
  | rp =>
    obtain ⟨hn0, hn1⟩ := hn
    obtain ⟨hk0, hk1⟩ := hk
    exact eq_of_abs_mul_sub_lt hd (abs_lt.2 (by omega))
  | rm =>
    obtain ⟨hn0, hn1⟩ := hn
    obtain ⟨hk0, hk1⟩ := hk
    exact eq_of_abs_mul_sub_lt hd (abs_lt.2 (by omega))

end Unique

/-- A number with the sign `neg`. -/
def withSign (neg : Bool) (m : ℕ) : ℤ := if neg then -(m : ℤ) else m

theorem abs_withSign (neg : Bool) (m : ℕ) : |withSign neg m| = m := by
  cases neg <;> simp [withSign]

theorem withSign_even_iff (neg : Bool) (m : ℕ) : withSign neg m % 2 = 0 ↔ m % 2 = 0 := by
  cases neg <;> simp only [withSign] <;> omega

section Neighbours
variable (neg : Bool) (q : ℕ)

theorem abs_roundedUp {r d : ℕ} (hr : r ≤ d) : |withSign neg (q + 1) * d - withSign neg (q * d + r)| = d - r := by
  rw [abs_eq (by omega)]
  cases neg
  · exact .inl (by simp only [withSign]; push_cast; ring)
  · exact .inr (by simp only [withSign]; push_cast; ring)

theorem abs_roundedDown (r d : ℕ) : |withSign neg q * d - withSign neg (q * d + r)| = r := by
  rw [abs_eq (by omega)]
  cases neg
  · exact .inr (by simp only [withSign]; push_cast; ring)
  · exact .inl (by simp only [withSign]; push_cast; ring)

theorem roundsUp_zero (mode : RoundMode) (d : ℕ) (hd : 0 < d) : roundsUp mode neg q 0 d = false := by
  cases mode <;> simp [roundsUp, hd.ne]

/-- The rounded magnitude is exact where nothing is left. -/
theorem rounded_exact_iff (mode : RoundMode) {r d : ℕ} (hr : r < d) :
    (r != 0) = false ↔ withSign neg (if roundsUp mode neg q r d then q + 1 else q) * d = withSign neg (q * d + r) := by
  rw [bne_eq_false_iff_eq, ← sub_eq_zero (b := withSign _ _), ← abs_eq_zero]
  split
  case isTrue hup =>
    rw [abs_roundedUp neg q hr.le]
    have hne : r ≠ 0 := by
      rintro rfl
      exact Bool.false_ne_true ((roundsUp_zero neg q mode d hr).symm.trans hup)
    omega
  case isFalse =>
    rw [abs_roundedDown neg q r d]
    omega

end Neighbours

/-- What `roundsUp` makes of a quotient and its remainder is what the mode selects. -/
theorem roundsToInteger_of_roundsUp (mode : RoundMode) (neg : Bool) {q r d : ℕ} (hr : r < d) :
    RoundsToInteger mode (withSign neg (q * d + r)) d (withSign neg (if roundsUp mode neg q r d then q + 1 else q)) := by
  have hd : 0 < d := by omega
  have hup := abs_roundedUp neg q hr.le
  have hdown := abs_roundedDown neg q r d
  cases mode with
  | rn =>
    have hcond : roundsUp .rn neg q r d = true ↔ d < 2 * r ∨ 2 * r = d ∧ q % 2 = 1 := by simp [roundsUp]
    split
    case isTrue h =>
      rw [hcond] at h
      rw [RoundsToInteger, hup, withSign_even_iff]
      omega
    case isFalse h =>
      rw [hcond] at h
      rw [RoundsToInteger, hdown, withSign_even_iff]
      omega
  | rz =>
    have hsign : 0 ≤ withSign neg q * withSign neg (q * d + r) := by
      have hnonneg := mul_nonneg (Int.natCast_nonneg q) (Int.natCast_nonneg (q * d + r))
      cases neg
      · exact hnonneg
      · exact hnonneg.trans_eq (neg_mul_neg (q : ℤ) _).symm
    rw [show roundsUp .rz neg q r d = false by rfl, if_neg Bool.false_ne_true, RoundsToInteger, abs_mul, abs_withSign,
      abs_withSign, Nat.abs_cast]
    refine ⟨?_, ?_, hsign⟩ <;> push_cast <;> omega
  | rp =>
    by_cases hzero : r = 0 <;> cases neg <;>
      simp [RoundsToInteger, roundsUp, withSign, hzero, add_mul, hd] <;> omega
  | rm =>
    by_cases hzero : r = 0 <;> cases neg <;>
      simp [RoundsToInteger, roundsUp, withSign, hzero, add_mul, hd] <;> omega

theorem mul_bne_zero (r : ℕ) {c : ℕ} (hc : 0 < c) : (r * c != 0) = (r != 0) := by
  rw [Bool.eq_iff_iff, bne_iff_ne, bne_iff_ne, ne_eq, ne_eq, Nat.mul_eq_zero, or_iff_left hc.ne']

theorem roundsUp_mul (mode : RoundMode) (neg : Bool) (q r d : ℕ) {c : ℕ} (hc : 0 < c) :
    roundsUp mode neg q (r * c) (d * c) = roundsUp mode neg q r d := by
  have habove : d * c < 2 * (r * c) ↔ d < 2 * r := by rw [← mul_assoc, Nat.mul_lt_mul_right hc]
  have hhalf : 2 * (r * c) = d * c ↔ 2 * r = d := by rw [← mul_assoc, Nat.mul_left_inj hc.ne']
  have hzero := mul_bne_zero r hc
  cases mode <;> simp [roundsUp, habove, hhalf, hzero]

/-- The magnitude of a single in units of 1 and what is left, in units of 2^-149. -/
theorem roundToInt_eq (mode : RoundMode) (a : Word) : ∃ q r, fpSig a * 2 ^ fpShift a = q * 2 ^ 149 + r ∧ r < 2 ^ 149 ∧
    roundToInt mode a = (if roundsUp mode a.msb q r (2 ^ 149) then q + 1 else q, r != 0) := by
  rw [roundToInt]
  split
  case isTrue hshift =>
    refine ⟨fpSig a * 2 ^ (fpShift a - 149), 0, ?_, by norm_num, ?_⟩
    · rw [add_zero, mul_assoc, ← pow_add, Nat.sub_add_cancel hshift]
    · cases mode <;> simp [roundsUp]
  case isFalse hshift =>
    obtain ⟨k, hk⟩ : ∃ k, k = 149 - fpShift a := ⟨_, rfl⟩
    have hunit : 2 ^ 149 = 2 ^ k * 2 ^ fpShift a := by rw [← pow_add, show k + fpShift a = 149 by omega]
    have hpos : 0 < 2 ^ fpShift a := Nat.two_pow_pos _
    refine ⟨fpSig a / 2 ^ k, fpSig a % 2 ^ k * 2 ^ fpShift a, ?_, ?_, ?_⟩
    · rw [hunit, ← mul_assoc, ← add_mul, mul_comm (_ / _), Nat.div_add_mod]
    · rw [hunit]
      exact Nat.mul_lt_mul_of_pos_right (Nat.mod_lt _ (Nat.two_pow_pos _)) hpos
    · rw [← hk, roundShift, hunit, roundsUp_mul _ _ _ _ _ hpos]
      congr 1
      rw [mul_bne_zero _ hpos]

/-! ## Conversion to W -/

/-- The conversion of a zero or normal number rounds it to an integer and is Unimplemented beyond 32 bits. -/
theorem fpToWord_eq (mode : RoundMode) {a : Word} (ha : fpClass a ∈ [.zero, .normal]) :
    ∃ (n : ℤ) (inexact : Bool), RoundsToInteger mode (fpScaled a) (2 ^ 149) n ∧
      (inexact = false ↔ n * 2 ^ 149 = fpScaled a) ∧
      fpToWord mode a = if -2 ^ 31 ≤ n ∧ n < 2 ^ 31 then .value (inexactCause inexact) (BitVec.ofInt 32 n)
        else .traps causeE := by
  simp only [List.mem_cons, List.not_mem_nil, or_false] at ha
  rcases ha with h | h
  · refine ⟨0, false, ?_, by simp [fpScaled_of_zero h], ?_⟩
    · rw [fpScaled_of_zero h]
      cases mode <;> simp [RoundsToInteger]
    · rw [fpToWord, h]
      rfl
  · obtain ⟨q, r, hmag, hr, hround⟩ := roundToInt_eq mode a
    have hselects := roundsToInteger_of_roundsUp mode a.msb (q := q) hr
    rw [← hmag] at hselects
    refine ⟨_, r != 0, hselects, ?_, ?_⟩
    · have hexact := rounded_exact_iff a.msb q mode hr
      rw [← hmag, Nat.cast_pow, Nat.cast_ofNat] at hexact
      exact hexact
    · obtain ⟨m, hm⟩ : ∃ m, m = if roundsUp mode a.msb q r (2 ^ 149) then q + 1 else q := ⟨_, rfl⟩
      rw [← hm] at hround ⊢
      have hto : fpToWord mode a = if overflows 32 (withSign a.msb m) then unimplemented
          else .value (inexactCause (r != 0)) (BitVec.ofInt 32 (withSign a.msb m)) := by
        rw [fpToWord, h]
        dsimp only
        rw [hround]
        rfl
      rw [hto]
      by_cases hrange : -2 ^ 31 ≤ withSign a.msb m ∧ withSign a.msb m < 2 ^ 31
      · rw [if_pos hrange, (overflows_eq_false_iff 32 _).2 hrange]
        rfl
      · rw [if_neg hrange, Bool.eq_true_of_not_eq_false (mt (overflows_eq_false_iff 32 _).1 hrange)]
        rfl

theorem fpToWord_unimplemented (mode : RoundMode) {a : Word} (ha : fpClass a ∈ [.inf, .snan, .qnan, .denorm]) :
    fpToWord mode a = .traps causeE := by
  rw [fpToWord]
  simp only [List.mem_cons, List.not_mem_nil, or_false] at ha
  rcases ha with h | h | h | h <;> rw [h] <;> rfl

/-- What is at most 2^31 - 1 in magnitude stays in range. -/
theorem RoundsToInteger.inRange {mode : RoundMode} {x n : ℤ} {d : ℕ} (hd : 0 < d) (h : RoundsToInteger mode x d n)
    (hx : |x| ≤ (2 ^ 31 - 1) * d) : -2 ^ 31 ≤ n ∧ n < 2 ^ 31 := by
  have hd' : (0 : ℤ) < d := Int.natCast_pos.2 hd
  have hlt := h.abs_sub_lt hd
  have hn : |n| * d < 2 ^ 31 * d := by
    calc |n| * d = |n * d - x + x| := by rw [sub_add_cancel, abs_mul, abs_of_pos hd']
      _ ≤ |n * d - x| + |x| := abs_add_le _ _
      _ < d + (2 ^ 31 - 1) * d := by linarith
      _ = 2 ^ 31 * d := by ring
  have hn' := abs_lt.1 (lt_of_mul_lt_mul_right hn hd'.le)
  exact ⟨hn'.1.le, hn'.2⟩

/-! ## Conversion from W -/

/-- CVT.S.W never leaves the range: a nonzero word is between 1 and 2^31 in magnitude. -/
theorem fpFromWord_eq {f : Fcr31} {mode : RoundMode} (hmode : mode = RoundMode.ofBits f.rm) (a : Word) :
    ∃ (inexact : Bool) (v : Word), RoundsTo mode (a.toInt * 2 ^ 149) 1 v ∧ (a = 0 → v = 0) ∧
      (inexact = false ↔ fpScaled v = a.toInt * 2 ^ 149) ∧ fpFromWord f a = .value (inexactCause inexact) v := by
  by_cases hzero : a.toInt = 0
  · rw [fpFromWord, if_pos hzero, hzero, zero_mul]
    exact ⟨false, 0, roundsTo_zero one_pos (by decide) (by decide), fun _ => rfl, by decide, rfl⟩
  · have hof := Magnitude.of_natAbs hzero 0
    rw [zero_add] at hof
    obtain ⟨hlow, hhigh⟩ : (1 : ℝ) ≤ |(a.toInt : ℝ)| ∧ |(a.toInt : ℝ)| ≤ 2 ^ 31 := by
      have hmin := a.le_toInt
      have hmax := a.toInt_lt
      have habs : 1 ≤ |a.toInt| ∧ |a.toInt| ≤ 2 ^ 31 := ⟨Int.one_le_abs hzero, abs_le.2 (by omega)⟩
      exact_mod_cast habs
    obtain ⟨c, v, hvalue, hc⟩ := exists_value_of_rounds (decide (a.toInt < 0)) hmode hof
      (reaches_of_le (p := 1 / 4) (by norm_num) (by norm_num; linarith))
      (not_reaches_of_le (p := 2 ^ 252) (by norm_num) (by norm_num; linarith))
    have hsign : decide (a.toInt < 0) = decide (a.toInt * 2 ^ 149 < 0) := by
      rw [decide_eq_decide, mul_neg_iff]
      omega
    have hof' : (⟨a.toInt.natAbs, 0⟩ : Magnitude).Of (|((a.toInt * 2 ^ 149 : ℤ) : ℝ)| / (1 : ℕ)) := by
      rw [Nat.cast_one, div_one, Int.cast_mul, abs_mul]
      convert hof using 2
      norm_num
    obtain ⟨hround, hexact⟩ := roundsTo_of_value hmode one_pos hof' (hsign ▸ hvalue) hc
    rw [Nat.cast_one, mul_one] at hexact
    have heq : fpFromWord f a = .value c v := (if_neg hzero).trans hvalue
    have ha : a ≠ 0 := fun h => hzero (by rw [h]; rfl)
    rcases hc with rfl | rfl
    · exact ⟨false, v, hround, fun h => absurd h ha, by simpa using hexact, heq⟩
    · have hne : fpScaled v ≠ a.toInt * 2 ^ 149 := mt hexact.2 (by decide)
      exact ⟨true, v, hround, fun h => absurd h ha, iff_of_false (by decide) hne, heq⟩

/-! ## The end of a conversion -/

theorem fpTrap_inexactCause (inexact : Bool) (enables : BitVec 5) :
    fpTrap (inexactCause inexact) enables = (inexact && enables.getLsbD 0) := by
  cases inexact <;> revert enables <;> decide

section Store
variable {i : Instr} {s : State} {fd : Reg} {v : Word} {inexact : Bool}
  (h : exec i s = s.fpStore fd (.value (inexactCause inexact) v))
include h

theorem exact_of_fpStore (hexact : inexact = false) : FgrResult i fd v { s.fpu.fcr31 with cause := 0 } s := by
  subst hexact
  exact fgrResult_of_fpStore_exact h

theorem inexact_of_fpStore (hinexact : inexact = true) :
    if s.fpu.fcr31.enables.getLsbD 0 then FpTrapResult i causeI s
    else FgrResult i fd v { s.fpu.fcr31 with cause := causeI, flags := s.fpu.fcr31.flags ||| 0b00001 } s := by
  subst hinexact
  have htrap := fpTrap_inexactCause true s.fpu.fcr31.enables
  rw [Bool.true_and] at htrap
  split
  case isTrue enabled => exact fpTrapResult_of_fpStore_value h (htrap.trans enabled)
  case isFalse disabled => exact fgrResult_of_fpStore h (htrap.trans (Bool.eq_false_iff.2 disabled))

theorem completes_of_fpStore (hdisabled : s.fpu.fcr31.enables.getLsbD 0 = false) : ∃ g, FgrResult i fd v g s :=
  ⟨_, fgrResult_of_fpStore h (by rw [fpTrap_inexactCause, hdisabled, Bool.and_false])⟩

end Store

/-- The conversions to W, each in its mode. -/
theorem exec_eq_fpStore_toWord {s : State} {fs fd : Reg} (hcp1 : Cp1Usable s) (hlegal : FpRegsLegal s [fs, fd]) :
    ∀ p ∈ [(Instr.roundWS fs fd, RoundMode.rn), (.truncWS fs fd, .rz), (.ceilWS fs fd, .rp), (.floorWS fs fd, .rm),
      (.cvtWS fs fd, RoundMode.ofBits s.fpu.fcr31.rm)],
      exec p.1 s = s.fpStore fd (fpToWord p.2 (s.fgr fs)) := by
  simp only [List.forall_mem_cons]
  exact ⟨State.fpOp_of_legal hcp1 hlegal _, State.fpOp_of_legal hcp1 hlegal _, State.fpOp_of_legal hcp1 hlegal _,
    State.fpOp_of_legal hcp1 hlegal _, State.fpOp_of_legal hcp1 hlegal _, List.forall_mem_nil _⟩

end Sys2Proof.Machine

open Sys2Proof Sys2Proof.Machine

/-- Settles O57: each conversion rounds its operand to one integer or to one single (`fpToWord_eq`, `fpFromWord_eq`); the mode
selects no other integer (`RoundsToInteger.unique`). -/
theorem fpConversions : Obligations.FpConversions := by
  intro s fs fd hcp1 hlegal f forms hf hforms
  subst hf hforms
  have hexec := exec_eq_fpStore_toWord hcp1 hlegal
  have hd : 0 < 2 ^ 149 := Nat.two_pow_pos _
  have hfrom : exec (.cvtSW fs fd) s = s.fpStore fd (fpFromWord s.fpu.fcr31 (s.fgr fs)) :=
    State.fpOp_of_legal hcp1 hlegal _
  obtain ⟨cvtInexact, v, hv, hv0, hvexact, hcvt⟩ := fpFromWord_eq (f := s.fpu.fcr31) rfl (s.fgr fs)
  rw [hcvt] at hfrom
  refine ⟨fun p hp => ⟨fun hclass n exact' hn hexact => ?_, fun hclass => ?_⟩, ⟨v, hv, hv0, ?_⟩,
    fun hdisabled => ⟨fun hclass hx p hp => ?_, v, ?_⟩⟩
  · obtain ⟨k, inexact, hk, hkexact, heq⟩ := fpToWord_eq p.2 hclass
    obtain rfl := hn.unique hd hk
    have hto := hexec p hp
    rw [heq] at hto
    split
    case isTrue hrange =>
      rw [if_pos hrange] at hto
      rw [hexact, ← hkexact, Bool.not_eq_false]
      exact ⟨exact_of_fpStore hto, inexact_of_fpStore hto⟩
    case isFalse hrange =>
      rw [if_neg hrange] at hto
      exact fpTrapResult_of_fpStore_traps hto
  · have hto := hexec p hp
    rw [fpToWord_unimplemented p.2 hclass] at hto
    exact fpTrapResult_of_fpStore_traps hto
  · split
    case isTrue hexact => exact exact_of_fpStore hfrom (hvexact.2 hexact)
    case isFalse hinexact => exact inexact_of_fpStore hfrom (Bool.eq_true_of_not_eq_false (mt hvexact.1 hinexact))
  · obtain ⟨n, inexact, hn, -, heq⟩ := fpToWord_eq p.2 hclass
    have hto := hexec p hp
    rw [heq, if_pos (hn.inRange hd (by exact_mod_cast hx))] at hto
    obtain ⟨g, hg⟩ := completes_of_fpStore hto hdisabled
    exact ⟨n, g, hn, hg⟩
  · obtain ⟨g, hg⟩ := completes_of_fpStore hfrom hdisabled
    exact ⟨g, hv, hg⟩

end
